-- ==== Sys2Proof/Word.lean ====
section
/-!
DEFINITION. The byte type and byte strings of the model.
-/
namespace Sys2Proof

/-- One byte. -/
abbrev Byte := BitVec 8

/-- A byte string, the byte at the lowest address first. -/
abbrev Bytes := List Byte

/-- A sparse table: entries by key, keys strictly rising, no entry equal to the table's default. -/
abbrev Tab (α : Type) := List (Nat × α)

end Sys2Proof
end

