-- ==== Sys2Proof/Syntax.lean ====
section
/-!
DEFINITION. The commands that the block takes: one constructor per row of spec/opcode_table.json. Operands are what the
row's step is given from outside: the descriptor of a mailbox command, the words of a register write, the payload of a
frame, the levels of external lines, a measured value.
-/
namespace Sys2Proof

/-- A command descriptor without its OPCODE (Table 2-2). `params` holds bytes 24–63, byte 24 lowest. -/
structure Desc where
  ctx : Fin 8 := 0
  flags : BitVec 16 := 0
  seq : BitVec 32 := 0
  length : BitVec 32 := 0
  site : BitVec 8 := 255
  rsv : BitVec 24 := 0
  haddr : BitVec 64 := 0
  params : BitVec 320 := 0
  deriving DecidableEq, Repr

/-- What the security core finds when it verifies the two signatures of a signed object (R461): the signature schemes
themselves stand in their own standards. -/
structure Verdict where
  ecdsa : Bool
  lms : Bool
  deriving DecidableEq, Repr

/-- The fields of a pattern instruction other than OP (Table 4-1). -/
structure PI where
  facet : BitVec 5 := 0
  fv : Bool := false
  cms : BitVec 4 := 0
  capc : BitVec 2 := 0
  cond : BitVec 4 := 0
  operand : BitVec 40 := 0
  deriving DecidableEq, Repr

/-- The external lines as the die node sees them (R83, R85). -/
structure ExtLines where
  trig : BitVec 4 := 0
  xtrig : BitVec 8 := 0
  supmon : BitVec 8 := 0
  deriving DecidableEq, Repr

/-- A change of a comparator line of a channel: PE_CH (`high`) or PE_CL, its new level, and the instant at the balls, in
steps from the start of the cycle. -/
structure LineMove where
  chan : Fin 512
  high : Bool
  level : Bool
  pos : Int
  deriving DecidableEq, Repr

/-- The straps and fuses that a power-on or cold reset latches (R412). -/
structure Straps where
  oscDly : BitVec 3 := 0
  bootMode : BitVec 2 := 0
  testMode : Bool := false
  chipId : BitVec 6 := 0
  deriving DecidableEq, Repr

/-- What a received link frame brings beside its TYPE and payload (R385): the header of Table 15-5, the CRC-32 that closes it,
and whether it arrived without a code or disparity error and without an error marker (`clean`). -/
structure RxHead where
  flags : BitVec 8 := 0
  len : BitVec 16 := 0
  fseq : BitVec 16 := 0
  tag : BitVec 16 := 0
  txts : BitVec 64 := 0
  crc : BitVec 32 := 0
  clean : Bool := true
  deriving DecidableEq, Repr

/-- What a received ring frame brings beside its payload (R344): ORIGIN, VER and TXTS of its header (Table 13-1), byte 7 of its
last payload word (`crc`), and whether it arrived without a code or disparity error (`clean`). -/
structure RingHead where
  origin : BitVec 8 := 0
  ver : BitVec 4 := 2
  txts : BitVec 32 := 0
  crc : BitVec 8 := 0
  clean : Bool := true
  deriving DecidableEq, Repr

/-- The data of a write on the control-side bus: its size in bytes and its value (R31). -/
structure BusData where
  size : BitVec 8 := 4
  value : BitVec 64
  deriving DecidableEq, Repr

/-- What a DISCOVER frame gathers (R343): N, the hop count, the CHIP_IDs met in order, and the versions that all of them
speak. -/
structure Discover where
  n : BitVec 8
  hops : BitVec 8
  ids : List (BitVec 8) := []
  lo : BitVec 4
  hi : BitVec 4
  deriving DecidableEq, Repr

/-- What COLLECT gathers of one link and of the chip at its west end (R349): the sum of the doubled offsets of 4,096
exchanges in frac, the mean link delay in frac, the link's ASYM, and the chip's SY_ADJ. -/
structure LinkSample where
  sum : Int := 0
  delay : BitVec 32 := 0
  asym : BitVec 16 := 0
  adj : BitVec 32 := 0
  deriving DecidableEq, Repr

/-- What a COLLECT frame does (R349): the lap of step 4 with the busy bits and the samples of the chips met so far, the lap
of step 5 with the correction of each chip in steps, or the end without a correction. -/
inductive Collect where
  | check (busy : Bool) (links : List LinkSample)
  | apply (corrs : List Int)
  | cancel
  deriving DecidableEq, Repr

/-- A TIMECHECK frame (R349): a request, of a COLLIMATE or of R350, or a reply with the receive stamp in frac. -/
inductive TimeCheck where
  | request (coll : Bool)
  | reply (t2 : Nat)
  deriving DecidableEq, Repr

/-- What happens at SYNC_IN (R347): a rising edge of CK_REF at tester-time tick `t` samples a level, which changes within
1 ns of the edge (`near`) or not; or the instant at which tester time reads 0 is reached. -/
inductive SyncEvent where
  | edge (t : BitVec 64) (level near : Bool)
  | zero
  deriving DecidableEq, Repr

/-- A place of a sequencer's control store (R146): a microword by its micro-address, a dispatch entry, a match register. -/
inductive CsPlace where
  | word (a : BitVec 12)
  | entry (e : BitVec 8)
  | matchReg (i : Fin 64)
  deriving DecidableEq, Repr

/-- The kinds of place in a control store. -/
inductive CsKind where
  | word
  | entry
  | matchReg
  deriving DecidableEq, Repr

/-- The place that a kind and an address name: a dispatch entry by its opcode, a match register by its number. -/
def CsPlace.of : CsKind → BitVec 12 → CsPlace
  | .word, a => .word a
  | .entry, a => .entry (BitVec.ofNat 8 a.toNat)
  | .matchReg, a => .matchReg (Fin.ofNat 64 a.toNat)

/-- A fault message as its unit reports it (Table 18-1, without TIME). -/
structure FaultMsg where
  source : BitVec 10
  kind : BitVec 8
  sev : BitVec 3
  access : BitVec 3 := 0
  master : BitVec 8 := 0
  address : BitVec 40 := 0
  inj : Bool := false
  logOnly : Bool := false
  deriving DecidableEq, Repr

/-- The commands of the block: one constructor per row of the table of operations and events. -/
inductive Instr where
  /-- REGISTER_WRITE (R10): A write to a register field that has no behaviour of its own sets it according to its access code. -/
  | registerWrite (m : BitVec 8) (addr : BitVec 32) (v : BusData)
  /-- BUS_TIMEOUT (R28): An access to a stopped or reset island is not acknowledged within 2 µs and ends with a bus error and an INFO fault. -/
  | busTimeout (m : BitVec 8) (addr : BitVec 32) (write : Bool)
  /-- HW_CMD_DB (R50): A host write of a command producer index rings the doorbell, or is ignored and sets DBERR. -/
  | hwCmdDb (c : Fin 8) (v : BitVec 16)
  /-- HW_RSP_CONS (R50): A host write of a response consumer index frees response slots, or is ignored with an INFO fault. -/
  | hwRspCons (c : Fin 8) (v : BitVec 16)
  /-- HW_EVT_CONS (R49): A host write of the event consumer index pops event records and, after overwrites, writes one QUEUE_LOST record. -/
  | hwEvtCons (v : BitVec 16)
  /-- CONTEXT_ENABLE (R42): A write of HW_CTX_CTRL.EN enables or disables service of a mailbox context. -/
  | contextEnable (c : Fin 8) (en : Bool)
  /-- CONTEXT_RESET (R41): A write of HW_CTX_CTRL.RST zeroes the context's indices if the conditions hold, otherwise sets DBERR. -/
  | contextReset (c : Fin 8) (en : Bool)
  /-- CONTEXT_STOP_TIMEOUT (R42): One second after EN = 0, jobs of the context still in flight are stopped and answered ABORTED. -/
  | contextStopTimeout (c : Fin 8)
  /-- DESCRIPTOR_CONSUME (R53): The active control core consumes the head descriptor of a context once its conditions hold and runs checks 1 to 4. -/
  | descriptorConsume
  /-- JOB_START (R55): The job engine starts the oldest startable job of a flow on a free worker and makes checks 5 and 6. -/
  | jobStart
  /-- IDENT (R2): IDENT returns stepping, interface and firmware versions, CHIP_ID, active core and die identity. -/
  | ident (d : Desc)
  /-- STATUS (R63): STATUS returns running sites, fenced units, first-error validity, alarm policy and junction temperature. -/
  | status (d : Desc)
  /-- DEVICE_RESET (R409): DEVICE_RESET answers and then performs a warm or cold reset. -/
  | deviceReset (d : Desc)
  /-- PEEK (R63): PEEK reads one to four consecutive words within one block window. -/
  | peek (d : Desc) (bad : Bool)
  /-- POKE (R34): POKE writes a control-side register through the active control core and returns the value read back. -/
  | poke (d : Desc)
  /-- ATTEST (R464): ATTEST writes an attestation report signed with the identity key. -/
  | attest (d : Desc)
  /-- TIME_GET (R63): TIME_GET returns the current tester time and the time its doorbell arrived. -/
  | timeGet (d : Desc)
  /-- PE_SERIAL (R492): PE_SERIAL exchanges up to 128 bits with a PE device over its group's control bus. -/
  | peSerial (d : Desc) (miso : BitVec 128)
  /-- SITE_BIND (R73): SITE_BIND connects channels to a sequencer, records P_min and K, sets D and puts the site in IDLE. -/
  | siteBind (d : Desc) (p : Bytes)
  /-- SITE_UNBIND (R74): SITE_UNBIND disconnects the site's channels, drives PE_EN low and puts the site in UNBOUND. -/
  | siteUnbind (d : Desc)
  /-- PATTERN_LOAD (R144): PATTERN_LOAD checks a pattern object, copies its PIs, sets stream registers and moves the site to LOADED. -/
  | patternLoad (d : Desc) (p : Bytes)
  /-- MICROCODE_LOAD (R167): MICROCODE_LOAD checks and loads a customer microcode image or a signed patch set into the control store. -/
  | microcodeLoad (d : Desc) (p : Bytes) (sig : Verdict)
  /-- RUN (R101): RUN checks the site and its Facets, delivers patches, clears counters if asked and puts the site in RUNNING with the initial sequencer state. -/
  | run (d : Desc)
  /-- HALT (R65): HALT posts a halt request to the site's sequencer, or ends an unstarted RUN job. -/
  | halt (d : Desc)
  /-- SITE_STATUS (R88): SITE_STATUS returns the site's state, fail and under-run bits, IA and VA. -/
  | siteStatus (d : Desc)
  /-- STREAM_OPEN (R191): STREAM_OPEN opens a site's stream ring with its base, size and policy. -/
  | streamOpen (d : Desc)
  /-- STREAM_PUSH (R192): STREAM_PUSH checks and writes whole frames into the stream ring, advancing SQ_SRWR per frame. -/
  | streamPush (d : Desc) (p : Bytes)
  /-- STREAM_CLOSE (R193): STREAM_CLOSE discards unread frames and closes the stream ring. -/
  | streamClose (d : Desc)
  /-- FAIL_READ (R242): FAIL_READ pops fail records from a group queue in HOST mode and writes them to host memory. -/
  | failRead (d : Desc)
  /-- FAIL_FLUSH (R243): FAIL_FLUSH empties the named group queues and zeroes their lost and truncation counters. -/
  | failFlush (d : Desc)
  /-- FACET_WRITE (R203): FACET_WRITE writes an 80-byte Facet image to one channel or every channel of a site. -/
  | facetWrite (d : Desc) (p : Bytes)
  /-- FACET_READ (R203): FACET_READ writes the Facet image and waveform table in force on a channel. -/
  | facetRead (d : Desc)
  /-- WAVETABLE_WRITE (R206): WAVETABLE_WRITE replaces the 16 waveform table entries of a Facet. -/
  | wavetableWrite (d : Desc) (p : Bytes)
  /-- CMS_WRITE (R231): CMS_WRITE replaces one compare mask set of a site, staged for a running site. -/
  | cmsWrite (d : Desc) (p : Bytes)
  /-- TIA_ARM (R254): TIA_ARM discards any measurement, takes the interpolators, self-calibrates and arms a measurement, or releases ownership. -/
  | tiaArm (d : Desc)
  /-- TIA_READ (R260): TIA_READ pops complete measurement results of a channel to host memory. -/
  | tiaRead (d : Desc)
  /-- LOUPE_CONFIG (R274): LOUPE_CONFIG sets the capture configuration and puts Loupe in CONFIGURED. -/
  | loupeConfig (d : Desc) (p : Bytes)
  /-- LOUPE_ARM (R278): LOUPE_ARM claims interpolators, zeroes counters and opens segment 0 in the pre-fill phase. -/
  | loupeArm (d : Desc)
  /-- LOUPE_FORCE (R279): LOUPE_FORCE gives Loupe a forced trigger at the tester time of service. -/
  | loupeForce (d : Desc)
  /-- LOUPE_STOP (R283): LOUPE_STOP closes the current segment STOPPED and ends the capture in DONE. -/
  | loupeStop (d : Desc)
  /-- LOUPE_READ (R288): LOUPE_READ writes part of the capture image to host memory. -/
  | loupeRead (d : Desc) (bad : Option (Nat × Option (BitVec 36)))
  /-- PRISM_LOAD (R294): PRISM_LOAD checks and loads a trigger program and puts Prism in LOADED. -/
  | prismLoad (d : Desc) (p : Bytes)
  /-- CAL_RUN (R315): CAL_RUN requests calibration of due or all channels of the named groups. -/
  | calRun (d : Desc)
  /-- CAL_READ_ALL (R329): CAL_READ_ALL writes the calibration blob of all channels. -/
  | calReadAll (d : Desc)
  /-- CAL_WRITE_ALL (R330): CAL_WRITE_ALL restores corrections, gains, fixture offsets and TCAL from a blob. -/
  | calWriteAll (d : Desc) (p : Bytes)
  /-- CAL_POLICY (R316): CAL_POLICY sets the calibration threshold and the slew step and interval. -/
  | calPolicy (d : Desc)
  /-- CAL_SEAL_READ (R337): CAL_SEAL_READ writes a seal report signed with the seal key. -/
  | calSealRead (d : Desc)
  /-- CAL_SEAL_WRITE (R336): CAL_SEAL_WRITE verifies an owner authorisation and writes a new sealed record, incrementing the seal counter. -/
  | calSealWrite (d : Desc) (p : Bytes) (sig : Verdict)
  /-- FIXTURE_OFFSETS (R327): FIXTURE_OFFSETS sets per-channel drive and compare fixture offsets. -/
  | fixtureOffsets (d : Desc) (p : Bytes)
  /-- FAULT_READ (R455): FAULT_READ writes the first-error record, coincident slot and fenced units. -/
  | faultRead (d : Desc)
  /-- FAULT_CLEAR (R445): FAULT_CLEAR empties the first-error record and/or the coincident slot. -/
  | faultClear (d : Desc)
  /-- FAULT_UNFENCE (R452): FAULT_UNFENCE clears a unit's permanent flag and recovery counter and starts its self-check. -/
  | faultUnfence (d : Desc)
  /-- FAULT_POLICY (R451): FAULT_POLICY sets the quiet period and the recovery limit. -/
  | faultPolicy (d : Desc)
  /-- PERF_CONFIG (R370): PERF_CONFIG sets a site's counter selections and dump ring settings, optionally clearing counters. -/
  | perfConfig (d : Desc)
  /-- TEMP_READ (R69): TEMP_READ returns the temperature of one sensor. -/
  | tempRead (d : Desc)
  /-- SELFTEST (R69): SELFTEST runs a self-test of the given scope and writes its report. -/
  | selftest (d : Desc)
  /-- UPDATE_OPEN (R472): UPDATE_OPEN verifies a manifest and opens or joins an update session. -/
  | updateOpen (d : Desc) (p : Bytes) (sig : Verdict)
  /-- UPDATE_CHUNK (R473): UPDATE_CHUNK checks a chunk against its digest, writes it to the staging slot and sets its bitmap bit. -/
  | updateChunk (d : Desc) (p : Bytes)
  /-- UPDATE_STATUS (R475): UPDATE_STATUS returns the session state and chunk counts. -/
  | updateStatus (d : Desc)
  /-- UPDATE_ABANDON (R475): UPDATE_ABANDON ends a STAGING or COMPLETE session and clears its bitmap. -/
  | updateAbandon (d : Desc)
  /-- UPDATE_ACTIVATE (R476): UPDATE_ACTIVATE checks the staged image and starts activation on the standby core. -/
  | updateActivate (d : Desc) (sig : Verdict)
  /-- KEY_PROVISION (R462): KEY_PROVISION installs an owner key or revokes a vendor slot from a signed key record. -/
  | keyProvision (d : Desc) (p : Bytes) (sig : Verdict)
  /-- ALARM_POLICY (R468): ALARM_POLICY sets the alarm policy from an owner authorisation and may clear LOCKED. -/
  | alarmPolicy (d : Desc) (p : Bytes) (sig : Verdict)
  /-- MEM_WRITE (R70): MEM_WRITE copies host data to vector memory, scratchpad or capture SRAM. -/
  | memWrite (d : Desc) (p : Bytes) (clash : Option Nat)
  /-- MEM_READ (R70): MEM_READ copies data from vector memory, scratchpad or capture SRAM to host memory. -/
  | memRead (d : Desc) (bad : Option Nat)
  /-- MEM_ALLOC (R70): MEM_ALLOC allocates a vector-memory region in one group by the lowest-address rule. -/
  | memAlloc (d : Desc)
  /-- MEM_FREE (R62): MEM_FREE frees an allocated region unless its handle is unknown or the region is in use. -/
  | memFree (d : Desc)
  /-- RING_CONFIG (R363): RING_CONFIG sets ring size and asymmetry, sets cross-chip site entries, or launches a ring reset. -/
  | ringConfig (d : Desc)
  /-- SYNC_ARM (R347): SYNC_ARM arms or disarms the chip for a sync pulse. -/
  | syncArm (d : Desc)
  /-- COLLIMATE (R349): COLLIMATE measures link offsets on chip 0, applies corrections if possible and writes a skew report. -/
  | collimate (d : Desc)
  /-- BARRIER_TEST (R353): BARRIER_TEST runs repetitions of a test ring barrier and reports the longest barrier time. -/
  | barrierTest (d : Desc) (longest : Nat)
  /-- TIMED_FRAME (R361): TIMED_FRAME queues a TIMED ring frame for launch at a given tester time. -/
  | timedFrame (d : Desc) (p : Bytes)
  /-- SNAPSHOT (R355): SNAPSHOT distributes a snapshot time and writes the image latched at it, or the last image. -/
  | snapshot (d : Desc)
  /-- LINK_STATUS (R394): LINK_STATUS reports link width, rate, reference lane and fenced lanes. -/
  | linkStatus (d : Desc)
  /-- EYE_SCAN (R394): EYE_SCAN scans one active lane's eye in phase and threshold and writes a report. -/
  | eyeScan (d : Desc)
  /-- LINK_RATE (R393): LINK_RATE answers at the old rate, sends a RATE frame and starts a rate step. -/
  | linkRate (d : Desc)
  /-- HALTREQ (R94): A write of 1 to SQ_CTRL.HALTREQ posts a halt request of cause 0 to a running site. -/
  | haltreq (site : Fin 64)
  /-- FAIL_LOG_ENABLE (R245): A write of SQ_FLCTL.EN enables the site's fail log if its geometry is valid, zeroing its indices. -/
  | failLogEnable (site : Fin 64) (en : Bool) (wrap : Bool)
  /-- FAIL_LOG_READ_ADVANCE (R245): A host write of SQ_FLRD advances the fail log read index, or is ignored out of range. -/
  | failLogReadAdvance (site : Fin 64) (v : BitVec 32)
  /-- DRAIN_MODE_WRITE (R244): A write of GR_FQCTL.DRAIN changes the drain mode from the next record popped. -/
  | drainModeWrite (g : Fin 16) (log : Bool)
  /-- LOUPE_JUMP (R282): A write of LP_JUMP.GO posts a segment jump to Loupe. -/
  | loupeJump (seg : Fin 64) (go : Bool)
  /-- PRISM_GO (R306): A write of PZ_CTL.GO starts a loaded free trigger program. -/
  | prismGo
  /-- PRISM_STOP (R307): A write of PZ_CTL.STOP stops a running Prism. -/
  | prismStop
  /-- RING_FLAGS_WRITE (R354): A write of SY_RFCTL launches a FLAGS frame with an apply time. -/
  | ringFlagsWrite (set : BitVec 4) (clr : BitVec 4)
  /-- INBOX_POP (R362): A write of SY_INBOX.POP removes the oldest inbox entry. -/
  | inboxPop
  /-- TESTER_TIME_LATCH (R25): A read of SY_TT_LO returns tester time bits [31:0] and latches bits [63:32] for SY_TT_HI. -/
  | testerTimeLatch
  /-- COUNTER_LATCH_READ (R368): A read of a PM_*_LO counter register latches its high bits for the matching *_HI. -/
  | counterLatchRead (site : Fin 64) (k : Fin 9)
  /-- DUMP_READ_ADVANCE (R372): A host write of PM_DRD advances the dump ring read index, or is ignored out of range. -/
  | dumpReadAdvance (site : Fin 64) (v : BitVec 32)
  /-- LANE_SLIP (R383): A write of HL_LnCTL.SLIP slips a lane's deserialiser by one bit. -/
  | laneSlip (lane : Fin 16)
  /-- LANE_SYMLOCK (R383): A write of HL_LnCTL.SYMLOCK accepts a lane's symbol alignment. -/
  | laneSymlock (lane : Fin 16) (v : Bool)
  /-- LANE_COUNT_CLEAR (R383): A write of HL_LnCTL.CCLR zeroes the lane's comma and code-error counts. -/
  | laneCountClear (lane : Fin 16)
  /-- CLOCK_SELECT (R398): A write of CK_SEL switches the CK_CTL source, or is refused if the source is not ready. -/
  | clockSelect (pll : Bool)
  /-- CTL_DIVIDER_WRITE (R398): A write of CK_CTLDIV changes the control PLL divider, or is refused during a trim run. -/
  | ctlDividerWrite (v : BitVec 5)
  /-- FREQ_COUNT_START (R405): A write of CK_FCCTL.GO starts a frequency count and discards any count in progress. -/
  | freqCountStart
  /-- FREQ_COUNT_DONE (R405): When the gate of G reference cycles ends, the count is stored and DONE is set. -/
  | freqCountDone (count : BitVec 32)
  /-- GATE_CLOSE (R406): A write setting a CK_GATE bit requests an island close, or is refused and flagged. -/
  | gateClose (mask : BitVec 19)
  /-- GATE_OPEN (R407): Clearing a CK_GATE bit restarts the island clock within 100 ns. -/
  | gateOpen (mask : BitVec 19)
  /-- GATE_HANDSHAKE_IDLE (R407): Once the island's handshakes are idle, a pending close stops its clock. -/
  | gateHandshakeIdle (island : Fin 19)
  /-- GATE_FORCE_TIMEOUT (R407): After 2 µs without idle handshakes the clock is stopped anyway and in-flight accesses get bus errors. -/
  | gateForceTimeout (island : Fin 19) (masters : List (BitVec 8))
  /-- REGULATOR_WRITE (R418): A write of MC_PORTp changes a port's rate, region cap and bucket depth within 1 µs. -/
  | regulatorWrite (port : Fin 7) (v : BitVec 32)
  /-- FAULT_INJECT (R456): A write of FC_INJCTL.GO in factory test boot injects a fault message. -/
  | faultInject (logOnly : Bool)
  /-- POWER_ON_RESET (R409): PWR_GOOD rising starts a power-on reset, latches straps and starts the oscillator. -/
  | powerOnReset (straps : Straps)
  /-- POWER_FAIL (R484): PWR_GOOD falling holds the device in power-on reset with PE_EN forced off. -/
  | powerFail
  /-- RESET_PIN (R411): RESET_L held low for at least 1 µs causes a cold reset. -/
  | resetPin (straps : Straps) (ns : Nat)
  /-- OSCILLATOR_READY (R403): The OSC_DLY wait ends and CK_INT becomes ready. -/
  | oscillatorReady (imageOk : Bool)
  /-- PLL_LOCK (R395): A PLL locks to its input and its ready flag becomes 1. -/
  | pllLock (pll : Fin 6)
  /-- MAILBOX_READY (R413): Boot completes the control-store check and arms the fault collector, and MBRDY becomes 1. -/
  | mailboxReady
  /-- REF_LOSS (R400): The clock monitor or activity detector reports CK_REF lost, forcing PE_EN off, halting sites and moving CK_CTL to CK_INT. -/
  | refLoss (byDetector : Bool) (edges : BitVec 8)
  /-- CLOCK_HOLD_EXIT (R401): When OSC_DLY elapses the device leaves CLOCK_HOLD and continues as after a warm reset. -/
  | clockHoldExit
  /-- TRIM_RUN_END (R404): A trim run over 64 frame-mark intervals ends and moves the oscillator trim by one code if needed. -/
  | trimRunEnd (count : Nat)
  /-- LINK_BRINGUP_STAGE (R382): A bring-up stage ends, fencing lanes that failed its condition and passing to the next stage. -/
  | linkBringupStage (pass : BitVec 16)
  /-- LINK_STAGE_TIMEOUT (R382): A bring-up stage times out with no lane passing and bring-up ends in RECOVERY. -/
  | linkStageTimeout
  /-- LINK_RECOVERY_RESTART (R380): Every 100 ms in RECOVERY, bring-up restarts from DETECT. -/
  | linkRecoveryRestart
  /-- REFERENCE_LANE_FAIL (R381): The reference lane fails while ACTIVE; the lane is fenced and bring-up restarts from DETECT. -/
  | referenceLaneFail
  /-- LINK_RETRAIN (R391): After 8 resends without progress or 64 code errors in 1 µs, the link runs TRAIN and LOCK again. -/
  | linkRetrain
  /-- RETRAIN_TIMEOUT (R391): A retrain not ACTIVE within 10 ms restarts bring-up from DETECT. -/
  | retrainTimeout
  /-- RATE_STEP_TIMEOUT (R393): A rate step not ACTIVE within 5 ms counts as reference loss and bring-up restarts. -/
  | rateStepTimeout
  /-- HWWR (R386): An HWWR frame from the host writes host-window words as master 0x20. -/
  | hwwr (h : RxHead) (off : BitVec 32) (data : Bytes)
  /-- HWRD (R386): An HWRD frame reads host-window words and the device returns HWCPL within 2 µs. -/
  | hwrd (h : RxHead) (off : BitVec 32) (len : BitVec 32)
  /-- DMACPL (R387): A DMACPL frame completes an outstanding DMARD request with the same TAG. -/
  | dmacpl (h : RxHead) (data : Bytes)
  /-- DMA_TIMEOUT (R387): A DMARD without completion after 1 ms ends its job with ABORTED and logs an INFO fault. -/
  | dmaTimeout (tag : Fin 64)
  /-- CAPS (R384): A CAPS frame from the host is received and the device chooses the link rate. -/
  | caps (h : RxHead) (ver : BitVec 16) (maxrate rate : BitVec 8) (rest : Bytes)
  /-- RATE (R393): A RATE frame from the host starts a rate step. -/
  | rate (h : RxHead) (p : Bytes)
  /-- ACK (R390): An ACK or NAK frame releases acknowledged frames or triggers a resend of unacknowledged ones. -/
  | ack (h : RxHead) (fseq : BitVec 16) (rest : Bytes)
  /-- RESEND_TIMEOUT (R390): After 10 µs without progress the sender resends every unacknowledged frame. -/
  | resendTimeout
  /-- FRAME_MARK (R389): A frame-mark row from the host is received and used for the CK_INT trim. -/
  | frameMark
  /-- MARK_GAP (R389): No frame mark for 25 µs is counted in HL_MARKS with an INFO fault. -/
  | markGap
  /-- RING_LINK_TRAIN (R340): A ring port trains or retrains its lanes, bringing a link up. -/
  | ringLinkTrain (port : Fin 2) (pass : BitVec 8)
  /-- DISCOVER_SEND (R343): Every 100 µs the reference chip sends a DISCOVER frame. -/
  | discoverSend
  /-- DISCOVER (R343): A received DISCOVER frame sets RINGUP when it matches this chip. -/
  | discover (h : RingHead) (n hops : BitVec 8) (ids : List (BitVec 8)) (lo hi : BitVec 4) (wrapped : Bool)
  /-- RINGUP_TIMEOUT (R343): No valid DISCOVER for 200 µs clears RINGUP. -/
  | ringupTimeout
  /-- RING_FRAME_RESEND (R346): A frame that has not returned to its origin in time is resent, up to 3 times, then given up with a fault. -/
  | ringFrameResend (idx : Nat)
  /-- GATHER (R352): A GATHER frame is received and forwarded once this chip has arrived, or returns to its origin. -/
  | gather (h : RingHead) (bar : Fin 129)
  /-- RELEASE (R352): A RELEASE frame carrying T_r is received. -/
  | release (h : RingHead) (bar : Fin 129) (time : BitVec 56)
  /-- RING_BARRIER_RELEASE (R352): At T_r every chip releases its waiting members of the ring barrier. -/
  | ringBarrierRelease (bar : Fin 129)
  /-- FLAGS (R354): A FLAGS frame with SET and CLR masks and apply time is received. -/
  | flags (h : RingHead) (set : BitVec 4) (clr : BitVec 4) (time : BitVec 56)
  /-- RING_FLAGS_APPLY (R354): At T_a the SET and CLR bits are applied to RF[3:0]. -/
  | ringFlagsApply
  /-- TRIGGER (R303): A TRIGGER frame makes RTRIG 1 and supplies a placed instant for PLACE 5. -/
  | trigger (h : RingHead) (t : BitVec 56) (frac : BitVec 12)
  /-- SNAPSHOT_FRAME (R356): A SNAPSHOT frame sets or contests the chip's pending snapshot time. -/
  | snapshotFrame (h : RingHead) (time : BitVec 56)
  /-- SNAPSHOT_LATCH (R356): At T_s the chip latches the snapshot image while patterns run on. -/
  | snapshotLatch
  /-- RESET (R357): A ring RESET frame travels as a gather with a release time. -/
  | reset (h : RingHead) (time : Option (BitVec 56))
  /-- RING_RESET_RELEASE (R357): At the reset release time every chip halts running sites, discards ring barriers, clears RF and aborts snapshots and timed frames. -/
  | ringResetRelease
  /-- LEAVE (R82): A LEAVE frame makes other member chips halt the cross-chip site with cause fence. -/
  | leave (h : RingHead) (site : Fin 64)
  /-- TIMECHECK (R349): A TIMECHECK request or reply is received and stamped for the Collimator. -/
  | timecheck (h : RingHead) (reply coll : Bool) (ticks : BitVec 56) (frac : BitVec 12) (stamp : Nat)
  /-- TIME_CHECK_PERIODIC (R350): Every 1 ms after COLLIMATE a chip makes one exchange on its east link and checks drift. -/
  | timeCheckPeriodic
  /-- COLLECT (R349): A COLLECT frame gathers busy bits or distributes corrections, which chips apply to SY_ADJ. -/
  | collect (h : RingHead) (c : Collect)
  /-- TIMED (R362): A received TIMED frame is stored in the inbox. -/
  | timed (h : RingHead) (first : BitVec 56) (rest : Bytes)
  /-- TIMED_FRAME_LAUNCH (R361): At its launch time a queued TIMED frame leaves on the ring. -/
  | timedFrameLaunch
  /-- SYNC_PULSE (R347): An accepted SYNC_IN pulse zeroes tester time 1 µs plus SY_ADJ later and disarms the chip. -/
  | syncPulse (e : SyncEvent := .zero)
  /-- VOTE_WORD (R358): A vote word arrives, is ORed and forwarded, or forms the site conditions of a cross-chip site. -/
  | voteWord (site : Fin 64) (v : Nat) (vote : BitVec 4) (east : Bool) (bad : Bool)
  /-- RUN_START (R181): At the start time T_0 the site's first cycle starts. -/
  | runStart (site : Fin 64)
  /-- MICROWORD (R151): A sequencer executes one microword: ALU, issue, special function and next-address selection. -/
  | microword (site : Fin 64) (ext : ExtLines) (uaddr : BitVec 12) (flip : BitVec 144)
  /-- WAIT_BOUND_EXPIRY (R162): A microcode wait reaches its bound and continues at TADDR. -/
  | waitBoundExpiry (site : Fin 64) (ext : ExtLines)
  /-- ISSUE_STALL_END (R155): An issuing word stalled on a full issue queue completes when a slot frees. -/
  | issueStallEnd (site : Fin 64)
  /-- CS_SCRUB (R173): The control-store scrub re-reads words and records any parity error as a DEGRADED fault. -/
  | csScrub (site : Fin 64) (kind : CsKind) (addr : BitVec 12) (slices : BitVec 8)
  /-- VEC (R108): VEC issues a bundle of n vectors from VA and advances VA. -/
  | vec (site : Fin 64) (pi : PI)
  /-- VEC_A (R109): VEC.A issues one vector at a given VA and sets VA to it plus one. -/
  | vecA (site : Fin 64) (pi : PI)
  /-- RPT (R110): RPT issues n further cycles of the last vector issued. -/
  | rpt (site : Fin 64) (pi : PI)
  /-- LOOP (R114): LOOP opens a loop level with its counter. -/
  | loop (site : Fin 64) (pi : PI)
  /-- ENDL (R115): ENDL closes or repeats the innermost loop, issuing a replay bundle for a buffered loop. -/
  | endl (site : Fin 64) (pi : PI)
  /-- JMP (R117): JMP sets IA to its operand. -/
  | jmp (site : Fin 64) (pi : PI)
  /-- CALL (R118): CALL pushes IA + 1, VA and loop depth and jumps. -/
  | call (site : Fin 64) (pi : PI)
  /-- RET (R119): RET pops the call stack and restores IA and VA. -/
  | ret (site : Fin 64) (pi : PI)
  /-- BRC (R122): BRC branches on an internal condition at dispatch, or on a reduction condition at vector v + D. -/
  | brc (site : Fin 64) (pi : PI)
  /-- MATCH (R131): MATCH replays its body until a condition matches or the iteration limit is reached. -/
  | matchPi (site : Fin 64) (pi : PI)
  /-- WAITX (R133): WAITX repeats the last vector until a condition holds or the bound is reached. -/
  | waitx (site : Fin 64) (pi : PI)
  /-- SYNC (R134): SYNC arrives at an in-chip or ring barrier and plays pad cycles until release or timeout. -/
  | sync (site : Fin 64) (pi : PI)
  /-- TSW (R102): TSW switches the current Facet without a vector. -/
  | tsw (site : Fin 64) (pi : PI)
  /-- CAP (R112): CAP applies CAPC, sends a Prism event and attaches a mark value to the next vector. -/
  | cap (site : Fin 64) (pi : PI)
  /-- FLAG (R113): FLAG sets a sequencer flag and/or moves the fail mark. -/
  | flag (site : Fin 64) (pi : PI)
  /-- STRM (R137): STRM opens or closes a streamed section. -/
  | strm (site : Fin 64) (pi : PI)
  /-- HALT_PI (R139): The HALT instruction ends the run with its 16-bit code. -/
  | haltPi (site : Fin 64) (pi : PI)
  /-- XOP (R141): A customer opcode dispatches to a customer routine. -/
  | xop (site : Fin 64) (op : BitVec 6) (pi : PI)
  /-- BARRIER_RELEASE (R97): An in-chip barrier releases its waiting members 8 CK_SEQ cycles after the last arrival. -/
  | barrierRelease (bar : Fin 16)
  /-- SYNC_TIMEOUT (R136): A SYNC timeout expires, withdrawing the arrival and setting F7 = 1. -/
  | syncTimeout (site : Fin 64)
  /-- BUNDLE_DELIVERY (R178): The site fabric delivers a bundle to the site's channel engines and shadowing Mirror. -/
  | bundleDelivery (site : Fin 64)
  /-- GRANULE_ARRIVAL (R179): A requested vector-memory granule arrives in a stream or branch-target buffer. -/
  | granuleArrival (unit : Fin 532) (uncorr : Bool)
  /-- STREAM_SEGMENT_READ (R194): Engines read their segments of a complete frame and SQ_SRRD advances. -/
  | streamSegmentRead (unit : Fin 532)
  /-- VECTOR_CYCLE (R18): A vector or pad cycle of a site passes issue, lookup, select and load stages and fires its edges and strobes. -/
  | vectorCycle (site : Fin 64) (ext : ExtLines) (moves : List LineMove)
  /-- HALT_CAUSE (R90): A halt cause reaches the sequencer and channel engines, which stop issuing and discard queued bundles. -/
  | haltCause (site : Fin 64) (cause : Fin 5)
  /-- SITE_HALTED (R93): Once both halves of a halt end and results have drained, the site enters HALTED. -/
  | siteHalted (site : Fin 64)
  /-- RECORD_TAKE (R235): The group takes up to 4 pending records per CK_SEQ cycle into its queue. -/
  | recordTake (g : Fin 16)
  /-- QUEUE_POINTER (R238): A read or write pointer mismatch empties the queue and reports a DEGRADED fault. -/
  | queuePointer (queue : Fin 546)
  /-- FAIL_LOG_DRAIN (R246): In LOG mode a group drains one record to its site's fail log. -/
  | failLogDrain (g : Fin 16)
  /-- SUPMON_RECORD (R247): A watched SUPMON change that persists for the filter time produces a SUPMON record and latch. -/
  | supmonRecord (site : Fin 64) (line : Fin 8) (level : Bool) (time : Nat)
  /-- TIA_EDGE (R253): A comparator transition is accepted or skipped by the measurement unit and stamped. -/
  | tiaEdge (unit : Fin 528) (low : Bool) (rising : Bool) (ip : Fin 4) (t2 : BitVec 64) (raw : BitVec 16)
  /-- TIA_TIME_START (R258): Tester time reaches STIME and starts a measurement. -/
  | tiaTimeStart (unit : Fin 528)
  /-- TIA_TIMEOUT (R259): A measurement's TIMEOUT expires and it ends with status TIMEOUT. -/
  | tiaTimeout (unit : Fin 528)
  /-- TIA_GATE_END (R257): A FREQUENCY gate ends and the measurement completes. -/
  | tiaGateEnd (unit : Fin 528)
  /-- TIA_REARM (R257): After a result with repetitions left, the unit recalibrates and is armed again. -/
  | tiaRearm (unit : Fin 528)
  /-- TIA_PREEMPT_TIMEOUT (R261): Calibration's 10 ms wait expires and ends the measurement with PREEMPTED. -/
  | tiaPreemptTimeout (unit : Fin 528)
  /-- LOUPE_UNIT (R268): Loupe stores one unit (sample, record or row) in the current segment. -/
  | loupeUnit (t : BitVec 64) (frac : BitVec 12) (ext : ExtLines) (high : BitVec 512) (low : BitVec 512)
  /-- LOUPE_TRANSITION_EDGE (R270): An edge of a listed line is stamped into a transition record or lost. -/
  | loupeTransitionEdge (chan : Fin 512) (low : Bool) (rising : Bool) (ip : Fin 4) (t2 : BitVec 64) (raw : BitVec 16)
  /-- LOUPE_TRIGGER (R279): A trigger reaches Loupe and is accepted or counted as missed or busy. -/
  | loupeTrigger
  /-- REARM_WINDOW_END (R279): The 200 ns re-arm window ends. -/
  | rearmWindowEnd
  /-- SPILL_DRAIN (R284): Loupe drains a 64 KiB block of post-phase data to a spill extent. -/
  | spillDrain
  /-- PRISM_TICK (R295): Prism evaluates one aligned tick, fires the first true clause and updates level, counters and outputs. -/
  | prismTick (ext : ExtLines) (high : BitVec 512) (low : BitVec 512)
  /-- EDGE_COMPARATOR_CROSSING (R299): An edge comparator stamps a crossing and may complete an event. -/
  | edgeComparatorCrossing (e : Fin 4) (low : Bool) (rising : Bool) (t : BitVec 64) (frac : BitVec 12)
  /-- OUTPUT_PULSE_END (R304): A pulsed trigger output returns to idle PW ticks later. -/
  | outputPulseEnd (out : Fin 12)
  /-- AUTO_TRIGGER (R309): The auto timer expires and Prism issues a forced trigger. -/
  | autoTrigger
  /-- TEMP_READING (R313): A periodic group temperature reading marks due channels and updates table interpolation. -/
  | tempReading (sensor : Fin 24) (temp : BitVec 16)
  /-- CALIBRATION_START (R315): The controller starts calibrating the next due or requested channel, directly or through the Mirror. -/
  | calibrationStart (g : Fin 16)
  /-- MEASUREMENT_END (R311): A REF measurement of a channel engine ends and sets its TGT values. -/
  | measurementEnd (g : Fin 16) (errors : List Int) (gain : Int)
  /-- SHADOW_COPY_DONE (R318): The copy of a channel's state to the Mirror completes. -/
  | shadowCopyDone (g : Fin 16)
  /-- SHADOW_START (R318): The Mirror's stream buffer fills and it begins shadowing. -/
  | shadowStart (g : Fin 16)
  /-- MATCH_DONE (R319): Matching ends and the Mirror's match offsets are loaded. -/
  | matchDone (g : Fin 16) (pairs : List Nat) (offsets : List Int)
  /-- TAKE_OVER (R320): The Mirror takes over the pad at the first eligible cycle boundary. -/
  | takeOver (g : Fin 16)
  /-- TAKE_OVER_ABANDON (R320): No eligible cycle within 10 ms abandons the take-over and defers the channel. -/
  | takeOverAbandon (g : Fin 16)
  /-- HAND_BACK (R321): The channel engine takes back the pad and the Mirror is detached. -/
  | handBack (g : Fin 16)
  /-- SLEW_INTERVAL (R322): At each slew interval, corrections move toward their targets by at most the slew step. -/
  | slewInterval
  /-- TABLE_STEP (R326): Every 10 µs each REF and Mirror applied value moves one step toward its interpolated value. -/
  | tableStep
  /-- PERF_DUMP (R374): A dump falls due and its counters are sampled and written to the dump ring. -/
  | perfDump (site : Fin 64) (finish : Nat)
  /-- REFRESH (R421): A pseudo-channel refreshes its banks at the interval for the stack temperature. -/
  | refresh (pc : Fin 64)
  /-- MEM_SCRUB (R424): The scrubber reads vector-memory words in idle remainder cycles. -/
  | memScrub (addr : BitVec 36) (err : Fin 3)
  /-- DELAY_SWEEP (R426): A verification sweep tests delay codes of a pseudo-channel and applies the best one. -/
  | delaySweep (pc : Fin 64) (works : BitVec 17)
  /-- PC_REJOIN (R430): An unfenced pseudo-channel rejoins its group once the group holds no allocation. -/
  | pcRejoin (pc : Fin 64)
  /-- FAULT_MESSAGE (R446): The collector takes a fault message, time-stamps it, sets records and applies its kind's reaction. -/
  | faultMessage (ms : List FaultMsg)
  /-- QUIET_EXPIRY (R449): A fenced unit has been quiet for the quiet period and its self-check starts. -/
  | quietExpiry (unit : Fin 736)
  /-- SELFCHECK_DONE (R449): A self-check ends, unfencing the unit or restarting its quiet period. -/
  | selfcheckDone (unit : Fin 736) (pass : Bool)
  /-- CORE_FAIL (R453): A control core misses three heartbeats or reports an error and is fenced, with failover to the standby. -/
  | coreFail (core : Fin 2)
  /-- ALARM_TRIP (R465): A security sensor trips, halting sites, forcing PE_EN off and applying the alarm policy. -/
  | alarmTrip (cls : Fin 5) (again : Bool)
  /-- POWERED_TIME_STORE (R474): Every 60 s the security core stores powered time in MRAM. -/
  | poweredTimeStore
  /-- SESSION_EXPIRY (R474): An update session idle for 30 days of powered time expires to NONE. -/
  | sessionExpiry
  /-- ACTIVATE_STANDBY_READY (R477): The standby core, loaded with the new image, catches up and declares itself ready. -/
  | activateStandbyReady
  /-- ACTIVATE_COMMIT (R477): At a mailbox quiescent point the active-slot pointer is committed and the standby becomes active. -/
  | activateCommit
  /-- ACTIVATE_FAILED (R478): The standby is not ready by the end of step 3 and the job ends with ACTIVATE_FAILED. -/
  | activateFailed
  /-- PI_FETCH_ARRIVAL (R107): A PI fetched from the instruction region in vector memory arrives at the sequencer, which then dispatches it, or takes an uncorrectable error and halts the site. -/
  | piFetchArrival (site : Fin 64) (uncorr : Bool)
  /-- START_BARRIER_ARRIVAL (R360): Two microseconds after a cross-chip site enters RUNNING, the member chip arrives at the site's start barrier and forwards or launches its GATHER. -/
  | startBarrierArrival (site : Fin 64)
  /-- VPE_ENTERS_RANGE (R490): Within 10 µs of VPE entering its range, every PE output pair leaves high impedance and drives logic 0, held by the VAUX latch. -/
  | vpeEntersRange
  /-- VPE_BELOW_RANGE (R490): When VPE falls below its range, every PE output pair goes to high impedance. -/
  | vpeBelowRange
  /-- RECOVERY_COUNT_AGE_OUT (R450): An unfencing older than 3,600 s leaves a unit's recovery counter, lowering FC_UNITu.RECOV. -/
  | recoveryCountAgeOut (unit : Fin 736)
  /-- STANDBY_RESTART_DONE (R477): In activation step 5, the old active core completes its restart on the new image and becomes the hot standby. -/
  | standbyRestartDone
  deriving DecidableEq, Repr

end Sys2Proof
end

