-- ==== Sys2Proof/Config.lean ====
section
/-!
DEFINITION. What the specification leaves open: constants without a body. A claim about the model is true whatever they are.
-/
namespace Sys2Proof.Config

/-- A fresh open number for each value of the state's counter `free`. -/
opaque freeNat : Nat → Nat

/-- An open byte: the content at an address of a memory whose content is undefined since event number `epoch`. -/
opaque freeByte : (epoch : Nat) → (address : Nat) → BitVec 8

/-- The place within tick `tick` at which frame `fseq` of a type leaves the transmitter (R388): no rule gives it. -/
opaque txFrac : (tick : Nat) → (type : Nat) → (fseq : Nat) → BitVec 12

/-- SHA-384 (FIPS 180-4): named by the specification, not defined in it. -/
opaque sha384 : Bytes → Bytes

/-- The micro-address in dispatch entry `e` (0x00–0xBF) of the mask ROM (R146, R161): the ROM's content is not given. -/
opaque romDispatch : Nat → BitVec 12

/-- The function bits of the mask ROM word at a micro-address below 0x800 (R146): the ROM's content is not given. -/
opaque romWord : Nat → BitVec 136

/-- The 96-bit die identity (R63, R333): fixed in the die. -/
opaque dieId : BitVec 96

/-- The delay code of pseudo-channel `k` at a stack temperature in °C, from the sealed factory table (R425). -/
opaque delayCode : (k : Nat) → (temp : Int) → BitVec 5

/-- The patch set body (Table 5-8) inside the firmware image of a digest (R165): the manual does not place it. -/
opaque patchSet : (digest : Bytes) → Bytes

end Sys2Proof.Config
end

