-- ==== Sys2Proof/Machine/Bits.lean ====
section
/-!
DEFINITION. Bit fields, byte order, saturating counts, signed numbers and the two check codes the specification names.
-/
namespace Sys2Proof.Machine

/-- Bits `[lo + w - 1 : lo]` of `x` (R7). -/
def bits (x lo w : Nat) : Nat := x / 2 ^ lo % 2 ^ w

/-- Bit `i` of `x`. -/
def bit (x i : Nat) : Bool := x / 2 ^ i % 2 == 1

/-- `x` with bits `[lo + w - 1 : lo]` replaced by `v`. -/
def setBits (x lo w v : Nat) : Nat := x - bits x lo w * 2 ^ lo + v % 2 ^ w * 2 ^ lo

/-- 1 for true. -/
def b2n (b : Bool) : Nat := if b then 1 else 0

/-- Little-endian value of a byte string (R8). -/
def le : Bytes → Nat
  | [] => 0
  | b :: bs => b.toNat + 256 * le bs

/-- The `n` little-endian bytes of `v` (R8). -/
def toLe : (n : Nat) → (v : Nat) → Bytes
  | 0, _ => []
  | n + 1, v => BitVec.ofNat 8 v :: toLe n (v / 256)

/-- The little-endian field of `n` bytes at offset `off`. -/
def field (bs : Bytes) (off n : Nat) : Nat := le ((bs.drop off).take n)

/-- `n` zero bytes. -/
def zeros (n : Nat) : Bytes := List.replicate n 0

/-- The bytes cut or zero-filled to length `n`. -/
def fit (n : Nat) (bs : Bytes) : Bytes := bs.take n ++ zeros (n - bs.length)

/-- A count of width `w` that saturates. -/
def satAdd (w a b : Nat) : Nat := min (a + b) (2 ^ w - 1)

/-- Quotient rounded up. -/
def ceilDiv (a b : Nat) : Nat := (a + b - 1) / b

/-- The signed number a field of width `w` holds. -/
def sgn (w v : Nat) : Int := if v % 2 ^ w < 2 ^ (w - 1) then (v % 2 ^ w : Nat) else (v % 2 ^ w : Nat) - (2 ^ w : Nat)

/-- The field of width `w` that holds a signed number. -/
def unsgn (w : Nat) (i : Int) : Nat := (i % (2 ^ w : Nat)).toNat

/-- A signed number limited to the range of a field of width `w`. -/
def clampS (w : Nat) (i : Int) : Int := max (-(2 ^ (w - 1) : Nat)) (min i ((2 ^ (w - 1) : Nat) - 1))

/-- Number of ones among the lowest `w` bits. -/
def ones : (w : Nat) → Nat → Nat
  | 0, _ => 0
  | w + 1, x => x % 2 + ones w (x / 2)

/-- The indices below `n` whose bit of `x` is 1, ascending. -/
def bitList (n x : Nat) : List Nat := (List.range n).filter (bit x)

/-- The word whose set bits are the listed indices. -/
def ofBitList (n : Nat) (is : List Nat) : Nat :=
  (List.range n).foldl (fun a i => if is.contains i then a + 2 ^ i else a) 0

/-- One bit of a reflected CRC over the polynomial `poly`. -/
def crcBit (poly c : Nat) : Nat := if c % 2 == 1 then (c / 2) ^^^ poly else c / 2

/-- Eight bits of a reflected CRC. -/
def crcByte (poly c : Nat) (b : Byte) : Nat :=
  (List.range 8).foldl (fun c _ => crcBit poly c) (c ^^^ b.toNat)

/-- The CRC-32 of R385: polynomial 0x04C1_1DB7 reflected, initial and final value 0xFFFF_FFFF. -/
def crc32 (bs : Bytes) : Nat := bs.foldl (crcByte 0xEDB88320) 0xFFFFFFFF ^^^ 0xFFFFFFFF

/-- Every byte of the list is zero. -/
def allZero (bs : Bytes) : Bool := bs.all (· == 0)

/-- Bytes `[off, off + n)` of the string are zero. -/
def zeroAt (bs : Bytes) (off n : Nat) : Bool := allZero ((bs.drop off).take n)

end Sys2Proof.Machine
end

