-- ==== Sys2Proof/Machine/Regs.lean ====
section
/-!
DEFINITION. The register map of Table 1-6: every register field of the device, one constant each, named
REGISTER.FIELD as the specification names it, with its place, width, access code (Table 0-3) and power-on value.
A LO/HI register pair is one field that spans both words. The registers' VALUES stand in `State.regs`.
-/
namespace Sys2Proof.Machine

/-- The register windows of Table 1-6. `mirror` and `ref` are the extensions of the CH_ layout (R33). -/
inductive Win where
  | hw | ck | fc | pm | hl | sy | mc | sc | sq | ch | mirror | ref | gr | lp | pz | ca
  deriving DecidableEq, Repr

/-- Access codes of Table 0-3. -/
inductive Acc where
  | rw | ro | wo | w1c | w1s | rws | lck
  deriving DecidableEq, Repr

/-- Base address of a window (Table 1-6). -/
def Win.base : Win → Nat
  | .hw => 0x0 | .ck => 0x01100000 | .fc => 0x01200000 | .pm => 0x01300000 | .hl => 0x01400000
  | .sy => 0x01500000 | .mc => 0x01600000 | .sc => 0x01700000 | .sq => 0x02000000 | .ch => 0x03000000
  | .mirror => 0x03200000 | .ref => 0x03210000 | .gr => 0x03220000 | .lp => 0x04000000
  | .pz => 0x04100000 | .ca => 0x05000000

/-- Distance between the instances of a window. -/
def Win.stride : Win → Nat
  | .pm => 0x100 | .sq => 0x10000 | .ch | .mirror | .ref | .gr => 0x1000
  | .hw | .ck | .fc | .hl | .sy | .mc | .sc | .lp | .pz | .ca => 0x100000

/-- Number of instances of a window. The channel window counts channels, Mirrors and REF channels by unit ID (R14, R33). -/
def Win.count : Win → Nat
  | .pm | .sq => 64 | .ch => 532 | .mirror | .gr => 16 | .ref => 4
  | .hw | .ck | .fc | .hl | .sy | .mc | .sc | .lp | .pz | .ca => 1

/-- A register field. Registers that repeat inside one window have `n` copies `sub` bytes apart. `reset` is the
power-on value of copy `k`. -/
structure Field where
  win : Win
  off : Nat
  n : Nat
  sub : Nat
  lo : Nat
  w : Nat
  acc : Acc
  reset : Nat → Nat

/-- Bit address of copy `k` of a field in instance `i` of its window: the key of its value. -/
def Field.key (f : Field) (i k : Nat) : Nat :=
  (f.win.base + i * f.win.stride + f.off + k * f.sub) * 8 + f.lo

/-! ## The fields -/

/-- HW_ID IFVER (R40). -/
def HW_ID.IFVER : Field := ⟨.hw, 0x0, 1, 0, 0, 8, .ro, fun _ => 3⟩
/-- HW_ID LAYOUT (R40). -/
def HW_ID.LAYOUT : Field := ⟨.hw, 0x0, 1, 0, 8, 8, .ro, fun _ => 1⟩
/-- HW_STATUS MBRDY (R40). -/
def HW_STATUS.MBRDY : Field := ⟨.hw, 0x4, 1, 0, 0, 1, .ro, fun _ => 0⟩
/-- HW_STATUS ACTIVE (R40). -/
def HW_STATUS.ACTIVE : Field := ⟨.hw, 0x4, 1, 0, 1, 1, .ro, fun _ => 0⟩
/-- HW_STATUS HANDOVER (R40). -/
def HW_STATUS.HANDOVER : Field := ⟨.hw, 0x4, 1, 0, 2, 1, .ro, fun _ => 0⟩
/-- HW_STATUS QFULL (R40). -/
def HW_STATUS.QFULL : Field := ⟨.hw, 0x4, 1, 0, 3, 1, .ro, fun _ => 0⟩
/-- HW_STATUS JOBS (R40). -/
def HW_STATUS.JOBS : Field := ⟨.hw, 0x4, 1, 0, 8, 9, .ro, fun _ => 0⟩
/-- HW_EVT_PROD PROD (R40). -/
def HW_EVT_PROD.PROD : Field := ⟨.hw, 0x10, 1, 0, 0, 16, .ro, fun _ => 0⟩
/-- HW_EVT_CONS CONS (R40). -/
def HW_EVT_CONS.CONS : Field := ⟨.hw, 0x14, 1, 0, 0, 16, .rw, fun _ => 0⟩
/-- HW_EVT_LOST LOST (R40). -/
def HW_EVT_LOST.LOST : Field := ⟨.hw, 0x18, 1, 0, 0, 32, .ro, fun _ => 0⟩
/-- HW_EVT_MASK MASK (R40). -/
def HW_EVT_MASK.MASK : Field := ⟨.hw, 0x1C, 1, 0, 1, 10, .rw, fun _ => 0⟩
/-- HW_LINK WIDTH (R40). -/
def HW_LINK.WIDTH : Field := ⟨.hw, 0x20, 1, 0, 0, 5, .ro, fun _ => 0⟩
/-- HW_LINK RATE (R40). -/
def HW_LINK.RATE : Field := ⟨.hw, 0x20, 1, 0, 5, 2, .ro, fun _ => 0⟩
/-- HW_LINK REFLANE (R40). -/
def HW_LINK.REFLANE : Field := ⟨.hw, 0x20, 1, 0, 7, 2, .ro, fun _ => 0⟩
/-- HW_CMD_DB PROD (R40). -/
def HW_CMD_DB.PROD : Field := ⟨.hw, 0x100, 8, 32, 0, 16, .rw, fun _ => 0⟩
/-- HW_CMD_CONS CONS (R40). -/
def HW_CMD_CONS.CONS : Field := ⟨.hw, 0x104, 8, 32, 0, 16, .ro, fun _ => 0⟩
/-- HW_RSP_PROD PROD (R40). -/
def HW_RSP_PROD.PROD : Field := ⟨.hw, 0x108, 8, 32, 0, 16, .ro, fun _ => 0⟩
/-- HW_RSP_CONS CONS (R40). -/
def HW_RSP_CONS.CONS : Field := ⟨.hw, 0x10C, 8, 32, 0, 16, .rw, fun _ => 0⟩
/-- HW_CTX_STAT STALL (R40). -/
def HW_CTX_STAT.STALL : Field := ⟨.hw, 0x110, 8, 32, 0, 16, .ro, fun _ => 0⟩
/-- HW_CTX_STAT JOBS (R40). -/
def HW_CTX_STAT.JOBS : Field := ⟨.hw, 0x110, 8, 32, 16, 6, .ro, fun _ => 0⟩
/-- HW_CTX_STAT DBERR (R40). -/
def HW_CTX_STAT.DBERR : Field := ⟨.hw, 0x110, 8, 32, 24, 1, .w1c, fun _ => 0⟩
/-- HW_CTX_CTRL EN (R40). -/
def HW_CTX_CTRL.EN : Field := ⟨.hw, 0x114, 8, 32, 0, 1, .rw, fun _ => 1⟩
/-- HW_CTX_CTRL RST (R40). -/
def HW_CTX_CTRL.RST : Field := ⟨.hw, 0x114, 8, 32, 1, 1, .wo, fun _ => 0⟩
/-- SQ_STATE STATE (R99). -/
def SQ_STATE.STATE : Field := ⟨.sq, 0x0, 1, 0, 0, 4, .ro, fun _ => 0⟩
/-- SQ_STATE CAUSE (R99). -/
def SQ_STATE.CAUSE : Field := ⟨.sq, 0x0, 1, 0, 4, 4, .ro, fun _ => 15⟩
/-- SQ_STATE HALTPEND (R99). -/
def SQ_STATE.HALTPEND : Field := ⟨.sq, 0x0, 1, 0, 8, 1, .ro, fun _ => 0⟩
/-- SQ_STATE QSPAN (R99). -/
def SQ_STATE.QSPAN : Field := ⟨.sq, 0x0, 1, 0, 9, 1, .ro, fun _ => 0⟩
/-- SQ_STATE CHIPS (R99). -/
def SQ_STATE.CHIPS : Field := ⟨.sq, 0x0, 1, 0, 10, 3, .ro, fun _ => 0⟩
/-- SQ_DLAT D (R99). -/
def SQ_DLAT.D : Field := ⟨.sq, 0x4, 1, 0, 0, 8, .ro, fun _ => 0⟩
/-- SQ_PMIN PMIN (R99). -/
def SQ_PMIN.PMIN : Field := ⟨.sq, 0x8, 1, 0, 0, 32, .ro, fun _ => 0⟩
/-- SQ_CTRL HALTREQ (R99). -/
def SQ_CTRL.HALTREQ : Field := ⟨.sq, 0xC, 1, 0, 0, 1, .w1s, fun _ => 0⟩
/-- SQ_IA IA (R99). -/
def SQ_IA.IA : Field := ⟨.sq, 0x10, 1, 0, 0, 32, .ro, fun _ => 0⟩
/-- SQ_VA VA (R99). -/
def SQ_VA.VA : Field := ⟨.sq, 0x14, 1, 0, 0, 40, .ro, fun _ => 0⟩
/-- SQ_COND SFAIL (R99). -/
def SQ_COND.SFAIL : Field := ⟨.sq, 0x1C, 1, 0, 0, 1, .ro, fun _ => 0⟩
/-- SQ_COND SPASS (R99). -/
def SQ_COND.SPASS : Field := ⟨.sq, 0x1C, 1, 0, 1, 1, .ro, fun _ => 0⟩
/-- SQ_COND ANYM (R99). -/
def SQ_COND.ANYM : Field := ⟨.sq, 0x1C, 1, 0, 2, 1, .ro, fun _ => 0⟩
/-- SQ_COND ALLM (R99). -/
def SQ_COND.ALLM : Field := ⟨.sq, 0x1C, 1, 0, 3, 1, .ro, fun _ => 0⟩
/-- SQ_COND SFM (R99). -/
def SQ_COND.SFM : Field := ⟨.sq, 0x1C, 1, 0, 4, 1, .ro, fun _ => 0⟩
/-- SQ_COND TRIG (R99). -/
def SQ_COND.TRIG : Field := ⟨.sq, 0x1C, 1, 0, 8, 4, .ro, fun _ => 0⟩
/-- SQ_COND XTRIG (R99). -/
def SQ_COND.XTRIG : Field := ⟨.sq, 0x1C, 1, 0, 12, 8, .ro, fun _ => 0⟩
/-- SQ_COND SUPMON (R99). -/
def SQ_COND.SUPMON : Field := ⟨.sq, 0x1C, 1, 0, 20, 8, .ro, fun _ => 0⟩
/-- SQ_COND RF (R99). -/
def SQ_COND.RF : Field := ⟨.sq, 0x1C, 1, 0, 28, 4, .ro, fun _ => 0⟩
/-- SQ_QDEPTH DEPTH (R99). -/
def SQ_QDEPTH.DEPTH : Field := ⟨.sq, 0x20, 1, 0, 0, 7, .ro, fun _ => 0⟩
/-- SQ_BARMEM MEMBER (R99). -/
def SQ_BARMEM.MEMBER : Field := ⟨.sq, 0x24, 1, 0, 0, 16, .lck, fun _ => 0⟩
/-- SQ_BARSTAT BAR (R99). -/
def SQ_BARSTAT.BAR : Field := ⟨.sq, 0x28, 1, 0, 0, 4, .ro, fun _ => 0⟩
/-- SQ_BARSTAT WAITING (R99). -/
def SQ_BARSTAT.WAITING : Field := ⟨.sq, 0x28, 1, 0, 4, 1, .ro, fun _ => 0⟩
/-- SQ_RBARMEM MEMBER (R364). -/
def SQ_RBARMEM.MEMBER : Field := ⟨.sq, 0x2C, 1, 0, 0, 16, .lck, fun _ => 0⟩
/-- SQ_RBARSTAT BAR (R364). -/
def SQ_RBARSTAT.BAR : Field := ⟨.sq, 0x30, 1, 0, 0, 4, .ro, fun _ => 0⟩
/-- SQ_RBARSTAT WAITING (R364). -/
def SQ_RBARSTAT.WAITING : Field := ⟨.sq, 0x30, 1, 0, 4, 1, .ro, fun _ => 0⟩
/-- SQ_CHMAP MAP (R99). -/
def SQ_CHMAP.MAP : Field := ⟨.sq, 0x40, 16, 4, 0, 32, .ro, fun _ => 0⟩
/-- SQ_RUNT T (R99). -/
def SQ_RUNT.T : Field := ⟨.sq, 0x80, 1, 0, 0, 64, .ro, fun _ => 0⟩
/-- SQ_HALTCODE CODE (R99). -/
def SQ_HALTCODE.CODE : Field := ⟨.sq, 0x88, 1, 0, 0, 16, .ro, fun _ => 0⟩
/-- SQ_INSTBASE BASE (R99). -/
def SQ_INSTBASE.BASE : Field := ⟨.sq, 0x90, 1, 0, 0, 36, .ro, fun _ => 0⟩
/-- SQ_XSITE POS (R99). -/
def SQ_XSITE.POS : Field := ⟨.sq, 0xA0, 1, 0, 0, 2, .ro, fun _ => 0⟩
/-- SQ_XSITE HOME (R99). -/
def SQ_XSITE.HOME : Field := ⟨.sq, 0xA0, 1, 0, 2, 2, .ro, fun _ => 0⟩
/-- SQ_XSITE RINGOK (R99). -/
def SQ_XSITE.RINGOK : Field := ⟨.sq, 0xA0, 1, 0, 4, 1, .ro, fun _ => 0⟩
/-- SQ_FLAGS F (R142). -/
def SQ_FLAGS.F : Field := ⟨.sq, 0xB0, 1, 0, 0, 8, .ro, fun _ => 0⟩
/-- SQ_NEST LDEPTH (R142). -/
def SQ_NEST.LDEPTH : Field := ⟨.sq, 0xB4, 1, 0, 0, 3, .ro, fun _ => 0⟩
/-- SQ_NEST SDEPTH (R142). -/
def SQ_NEST.SDEPTH : Field := ⟨.sq, 0xB4, 1, 0, 4, 5, .ro, fun _ => 0⟩
/-- SQ_NEST PENDBR (R142). -/
def SQ_NEST.PENDBR : Field := ⟨.sq, 0xB4, 1, 0, 16, 1, .ro, fun _ => 0⟩
/-- SQ_NEST STRM (R142). -/
def SQ_NEST.STRM : Field := ⟨.sq, 0xB4, 1, 0, 17, 1, .ro, fun _ => 0⟩
/-- SQ_LC COUNT (R142). -/
def SQ_LC.COUNT : Field := ⟨.sq, 0xC0, 4, 4, 0, 32, .ro, fun _ => 0⟩
/-- SQ_PIERR IA (R142). -/
def SQ_PIERR.IA : Field := ⟨.sq, 0xD0, 1, 0, 0, 32, .ro, fun _ => 4294967295⟩
/-- SQ_UCTL COMPAT (R173). -/
def SQ_UCTL.COMPAT : Field := ⟨.sq, 0xE0, 1, 0, 0, 1, .ro, fun _ => 0⟩
/-- SQ_UCTL CUSTOK (R173). -/
def SQ_UCTL.CUSTOK : Field := ⟨.sq, 0xE0, 1, 0, 1, 1, .ro, fun _ => 0⟩
/-- SQ_UCTL PATCHOK (R173). -/
def SQ_UCTL.PATCHOK : Field := ⟨.sq, 0xE0, 1, 0, 2, 1, .ro, fun _ => 0⟩
/-- SQ_UPATCHVER VERSION (R173). -/
def SQ_UPATCHVER.VERSION : Field := ⟨.sq, 0xE4, 1, 0, 0, 32, .ro, fun _ => 0⟩
/-- SQ_UERR UADDR (R173). -/
def SQ_UERR.UADDR : Field := ⟨.sq, 0xE8, 1, 0, 0, 12, .ro, fun _ => 0⟩
/-- SQ_UERR REGION (R173). -/
def SQ_UERR.REGION : Field := ⟨.sq, 0xE8, 1, 0, 12, 2, .ro, fun _ => 0⟩
/-- SQ_UERR SLICE (R173). -/
def SQ_UERR.SLICE : Field := ⟨.sq, 0xE8, 1, 0, 14, 8, .ro, fun _ => 0⟩
/-- SQ_UERR SCRUB (R173). -/
def SQ_UERR.SCRUB : Field := ⟨.sq, 0xE8, 1, 0, 22, 1, .ro, fun _ => 0⟩
/-- SQ_UERR VALID (R173). -/
def SQ_UERR.VALID : Field := ⟨.sq, 0xE8, 1, 0, 31, 1, .rws, fun _ => 0⟩
/-- SQ_UIMGID IMGID (R173). -/
def SQ_UIMGID.IMGID : Field := ⟨.sq, 0xEC, 1, 0, 0, 32, .ro, fun _ => 0⟩
/-- SQ_UPC UPC (R173). -/
def SQ_UPC.UPC : Field := ⟨.sq, 0xF0, 1, 0, 0, 12, .ro, fun _ => 0⟩
/-- SQ_UPC WAITING (R173). -/
def SQ_UPC.WAITING : Field := ⟨.sq, 0xF0, 1, 0, 12, 1, .ro, fun _ => 0⟩
/-- SQ_UPC STALL (R173). -/
def SQ_UPC.STALL : Field := ⟨.sq, 0xF0, 1, 0, 13, 1, .ro, fun _ => 0⟩
/-- SQ_UROMID ROMID (R173). -/
def SQ_UROMID.ROMID : Field := ⟨.sq, 0xF4, 1, 0, 0, 16, .ro, fun _ => 0⟩
/-- SQ_ULOAD REASON (R173). -/
def SQ_ULOAD.REASON : Field := ⟨.sq, 0xF8, 1, 0, 0, 8, .ro, fun _ => 0⟩
/-- SQ_ULOAD UADDR (R173). -/
def SQ_ULOAD.UADDR : Field := ⟨.sq, 0xF8, 1, 0, 8, 12, .ro, fun _ => 0⟩
/-- SQ_UBND BOUND (R163). -/
def SQ_UBND.BOUND : Field := ⟨.sq, 0x100, 8, 4, 0, 21, .ro, fun k => [64, 1024, 65536].getD k 1048576⟩
/-- SQ_SRBASE BASE (R200). -/
def SQ_SRBASE.BASE : Field := ⟨.sq, 0x140, 1, 0, 8, 28, .ro, fun _ => 0⟩
/-- SQ_SRSIZE FRAMES (R200). -/
def SQ_SRSIZE.FRAMES : Field := ⟨.sq, 0x148, 1, 0, 0, 17, .ro, fun _ => 0⟩
/-- SQ_SRFLEN FLEN (R200). -/
def SQ_SRFLEN.FLEN : Field := ⟨.sq, 0x14C, 1, 0, 0, 18, .ro, fun _ => 0⟩
/-- SQ_SRWR WR (R200). -/
def SQ_SRWR.WR : Field := ⟨.sq, 0x150, 1, 0, 0, 32, .ro, fun _ => 0⟩
/-- SQ_SRRD RD (R200). -/
def SQ_SRRD.RD : Field := ⟨.sq, 0x154, 1, 0, 0, 32, .ro, fun _ => 0⟩
/-- SQ_SRSTAT OPEN (R200). -/
def SQ_SRSTAT.OPEN : Field := ⟨.sq, 0x158, 1, 0, 0, 1, .ro, fun _ => 0⟩
/-- SQ_SRSTAT POLICY (R200). -/
def SQ_SRSTAT.POLICY : Field := ⟨.sq, 0x158, 1, 0, 1, 1, .ro, fun _ => 0⟩
/-- SQ_SRSTAT STALE (R200). -/
def SQ_SRSTAT.STALE : Field := ⟨.sq, 0x158, 1, 0, 2, 1, .ro, fun _ => 0⟩
/-- SQ_SRSTAT UR (R200). -/
def SQ_SRSTAT.UR : Field := ⟨.sq, 0x158, 1, 0, 3, 1, .ro, fun _ => 0⟩
/-- SQ_SRSTAT MISMATCH (R200). -/
def SQ_SRSTAT.MISMATCH : Field := ⟨.sq, 0x158, 1, 0, 4, 1, .ro, fun _ => 0⟩
/-- SQ_SRSTAT INPAD (R200). -/
def SQ_SRSTAT.INPAD : Field := ⟨.sq, 0x158, 1, 0, 5, 1, .ro, fun _ => 0⟩
/-- SQ_SRSTAT EPISODES (R200). -/
def SQ_SRSTAT.EPISODES : Field := ⟨.sq, 0x158, 1, 0, 16, 16, .ro, fun _ => 0⟩
/-- SQ_SRPAD PAD (R200). -/
def SQ_SRPAD.PAD : Field := ⟨.sq, 0x15C, 1, 0, 0, 32, .ro, fun _ => 0⟩
/-- SQ_FLBASE BASE (R249). -/
def SQ_FLBASE.BASE : Field := ⟨.sq, 0x180, 1, 0, 5, 31, .lck, fun _ => 0⟩
/-- SQ_FLSIZE SIZE (R249). -/
def SQ_FLSIZE.SIZE : Field := ⟨.sq, 0x188, 1, 0, 0, 25, .lck, fun _ => 0⟩
/-- SQ_FLCTL EN (R249). -/
def SQ_FLCTL.EN : Field := ⟨.sq, 0x18C, 1, 0, 0, 1, .lck, fun _ => 0⟩
/-- SQ_FLCTL WRAP (R249). -/
def SQ_FLCTL.WRAP : Field := ⟨.sq, 0x18C, 1, 0, 1, 1, .lck, fun _ => 0⟩
/-- SQ_FLWR WR (R249). -/
def SQ_FLWR.WR : Field := ⟨.sq, 0x190, 1, 0, 0, 32, .ro, fun _ => 0⟩
/-- SQ_FLRD RD (R249). -/
def SQ_FLRD.RD : Field := ⟨.sq, 0x194, 1, 0, 0, 32, .rw, fun _ => 0⟩
/-- SQ_FLDROP DROP (R249). -/
def SQ_FLDROP.DROP : Field := ⟨.sq, 0x198, 1, 0, 0, 32, .ro, fun _ => 0⟩
/-- SQ_SUPCFG ENA (R249). -/
def SQ_SUPCFG.ENA : Field := ⟨.sq, 0x1A0, 1, 0, 0, 8, .lck, fun _ => 0⟩
/-- SQ_SUPCFG POL (R249). -/
def SQ_SUPCFG.POL : Field := ⟨.sq, 0x1A0, 1, 0, 8, 8, .lck, fun _ => 0⟩
/-- SQ_SUPCFG FILT (R249). -/
def SQ_SUPCFG.FILT : Field := ⟨.sq, 0x1A0, 1, 0, 16, 8, .lck, fun _ => 0⟩
/-- SQ_SUPSTAT LATCH (R249). -/
def SQ_SUPSTAT.LATCH : Field := ⟨.sq, 0x1A4, 1, 0, 0, 8, .w1c, fun _ => 0⟩
/-- SQ_SUPSTAT LIVE (R249). -/
def SQ_SUPSTAT.LIVE : Field := ⟨.sq, 0x1A4, 1, 0, 8, 8, .ro, fun _ => 0⟩
/-- SQ_DISP UADDR (R161). -/
def SQ_DISP.UADDR : Field := ⟨.sq, 0x1300, 64, 4, 0, 12, .ro, fun _ => 0⟩
/-- SQ_DISP VALID (R161). -/
def SQ_DISP.VALID : Field := ⟨.sq, 0x1300, 64, 4, 12, 1, .ro, fun _ => 0⟩
/-- SQ_DISP PAR (R161). -/
def SQ_DISP.PAR : Field := ⟨.sq, 0x1300, 64, 4, 13, 1, .ro, fun _ => 1⟩
/-- SQ_MATCH ROMADDR (R164). -/
def SQ_MATCH.ROMADDR : Field := ⟨.sq, 0x1400, 64, 4, 0, 11, .ro, fun _ => 0⟩
/-- SQ_MATCH EN (R164). -/
def SQ_MATCH.EN : Field := ⟨.sq, 0x1400, 64, 4, 11, 1, .ro, fun _ => 0⟩
/-- SQ_MATCH PAR (R164). -/
def SQ_MATCH.PAR : Field := ⟨.sq, 0x1400, 64, 4, 12, 1, .ro, fun _ => 1⟩
/-- SQ_PATCH WORD (R148). -/
def SQ_PATCH.WORD : Field := ⟨.sq, 0x2000, 64, 32, 0, 144, .ro, fun _ => 0⟩
/-- SQ_CUST WORD (R148). -/
def SQ_CUST.WORD : Field := ⟨.sq, 0x8000, 1024, 32, 0, 144, .ro, fun _ => 0⟩
/-- CH_FACETSEL PLAY (R222). -/
def CH_FACETSEL.PLAY : Field := ⟨.ch, 0x40, 1, 0, 0, 5, .ro, fun _ => 0⟩
/-- CH_FACETSEL INPAD (R222). -/
def CH_FACETSEL.INPAD : Field := ⟨.ch, 0x40, 1, 0, 5, 1, .ro, fun _ => 0⟩
/-- CH_FVALID DEF (R222). -/
def CH_FVALID.DEF : Field := ⟨.ch, 0x44, 1, 0, 0, 32, .ro, fun _ => 0⟩
/-- CH_ENTIME ENON (R222). -/
def CH_ENTIME.ENON : Field := ⟨.ch, 0x48, 1, 0, 0, 11, .lck, fun _ => 0⟩
/-- CH_ENTIME ENOFF (R222). -/
def CH_ENTIME.ENOFF : Field := ⟨.ch, 0x48, 1, 0, 16, 11, .lck, fun _ => 0⟩
/-- CH_BURSTCFG BOFF (R222). -/
def CH_BURSTCFG.BOFF : Field := ⟨.ch, 0x4C, 1, 0, 0, 9, .lck, fun _ => 0⟩
/-- CH_BURSTCFG BSTRB (R222). -/
def CH_BURSTCFG.BSTRB : Field := ⟨.ch, 0x4C, 1, 0, 16, 9, .lck, fun _ => 156⟩
/-- CH_PELIVE DRV (R222). -/
def CH_PELIVE.DRV : Field := ⟨.ch, 0x50, 1, 0, 0, 1, .ro, fun _ => 0⟩
/-- CH_PELIVE EN (R222). -/
def CH_PELIVE.EN : Field := ⟨.ch, 0x50, 1, 0, 1, 1, .ro, fun _ => 0⟩
/-- CH_PELIVE CH (R222). -/
def CH_PELIVE.CH : Field := ⟨.ch, 0x50, 1, 0, 2, 1, .ro, fun _ => 0⟩
/-- CH_PELIVE CL (R222). -/
def CH_PELIVE.CL : Field := ⟨.ch, 0x50, 1, 0, 3, 1, .ro, fun _ => 0⟩
/-- CH_CMSMASK MEMBER (R249). -/
def CH_CMSMASK.MEMBER : Field := ⟨.ch, 0x60, 1, 0, 0, 16, .ro, fun _ => 0⟩
/-- CH_FRCFG LIMIT (R249). -/
def CH_FRCFG.LIMIT : Field := ⟨.ch, 0x64, 1, 0, 0, 16, .lck, fun _ => 65535⟩
/-- CH_FCNT COUNT (R249). -/
def CH_FCNT.COUNT : Field := ⟨.ch, 0x68, 1, 0, 0, 48, .ro, fun _ => 0⟩
/-- CH_FFVA VA (R249). -/
def CH_FFVA.VA : Field := ⟨.ch, 0x70, 1, 0, 0, 40, .ro, fun _ => 0⟩
/-- CH_FFVA VALID (R249). -/
def CH_FFVA.VALID : Field := ⟨.ch, 0x70, 1, 0, 63, 1, .ro, fun _ => 0⟩
/-- CH_MCNT COUNT (R249). -/
def CH_MCNT.COUNT : Field := ⟨.ch, 0x78, 1, 0, 0, 32, .ro, fun _ => 0⟩
/-- CH_ILLCNT COUNT (R249). -/
def CH_ILLCNT.COUNT : Field := ⟨.ch, 0x7C, 1, 0, 0, 32, .ro, fun _ => 0⟩
/-- CH_WINSTAT OPEN (R249). -/
def CH_WINSTAT.OPEN : Field := ⟨.ch, 0x80, 1, 0, 0, 1, .ro, fun _ => 0⟩
/-- CH_WINSTAT STRAY (R249). -/
def CH_WINSTAT.STRAY : Field := ⟨.ch, 0x80, 1, 0, 8, 12, .ro, fun _ => 0⟩
/-- CH_WINSTAT ABAND (R249). -/
def CH_WINSTAT.ABAND : Field := ⟨.ch, 0x80, 1, 0, 20, 12, .ro, fun _ => 0⟩
/-- CH_FRCNT PROD (R249). -/
def CH_FRCNT.PROD : Field := ⟨.ch, 0x84, 1, 0, 0, 16, .ro, fun _ => 0⟩
/-- CH_FRCNT DROP (R249). -/
def CH_FRCNT.DROP : Field := ⟨.ch, 0x84, 1, 0, 16, 16, .ro, fun _ => 0⟩
/-- CH_STRMBASE BASE (R200). -/
def CH_STRMBASE.BASE : Field := ⟨.ch, 0x100, 1, 0, 6, 30, .ro, fun _ => 0⟩
/-- CH_STRMCFG WIDTH (R200). -/
def CH_STRMCFG.WIDTH : Field := ⟨.ch, 0x108, 1, 0, 0, 1, .ro, fun _ => 0⟩
/-- CH_STRMCFG VALID (R200). -/
def CH_STRMCFG.VALID : Field := ⟨.ch, 0x108, 1, 0, 1, 1, .ro, fun _ => 0⟩
/-- CH_STRMSTAT FILL (R200). -/
def CH_STRMSTAT.FILL : Field := ⟨.ch, 0x10C, 1, 0, 0, 12, .ro, fun _ => 0⟩
/-- CH_STRMSTAT BTB0 (R200). -/
def CH_STRMSTAT.BTB0 : Field := ⟨.ch, 0x10C, 1, 0, 12, 1, .ro, fun _ => 0⟩
/-- CH_STRMSTAT BTB1 (R200). -/
def CH_STRMSTAT.BTB1 : Field := ⟨.ch, 0x10C, 1, 0, 13, 1, .ro, fun _ => 0⟩
/-- CH_STRMSTAT LACK (R200). -/
def CH_STRMSTAT.LACK : Field := ⟨.ch, 0x10C, 1, 0, 14, 1, .ro, fun _ => 0⟩
/-- CH_LBSTAT COUNT (R200). -/
def CH_LBSTAT.COUNT : Field := ⟨.ch, 0x110, 1, 0, 0, 13, .ro, fun _ => 0⟩
/-- CH_LBSTAT REC (R200). -/
def CH_LBSTAT.REC : Field := ⟨.ch, 0x110, 1, 0, 13, 1, .ro, fun _ => 0⟩
/-- CH_LBSTAT REPLAY (R200). -/
def CH_LBSTAT.REPLAY : Field := ⟨.ch, 0x110, 1, 0, 14, 1, .ro, fun _ => 0⟩
/-- CH_TIASTAT OWNER (R265). -/
def CH_TIASTAT.OWNER : Field := ⟨.ch, 0x200, 1, 0, 0, 2, .ro, fun _ => 0⟩
/-- CH_TIASTAT STATE (R265). -/
def CH_TIASTAT.STATE : Field := ⟨.ch, 0x200, 1, 0, 2, 3, .ro, fun _ => 0⟩
/-- CH_TIASTAT DEPTH (R265). -/
def CH_TIASTAT.DEPTH : Field := ⟨.ch, 0x200, 1, 0, 8, 5, .ro, fun _ => 0⟩
/-- CH_TIASTAT REMAIN (R265). -/
def CH_TIASTAT.REMAIN : Field := ⟨.ch, 0x200, 1, 0, 16, 16, .ro, fun _ => 0⟩
/-- CH_TIASKIP SKIP (R265). -/
def CH_TIASKIP.SKIP : Field := ⟨.ch, 0x204, 1, 0, 0, 32, .ro, fun _ => 0⟩
/-- CH_TIALOST LOST (R265). -/
def CH_TIALOST.LOST : Field := ⟨.ch, 0x208, 1, 0, 0, 32, .ro, fun _ => 0⟩
/-- CH_TIAMISS MISS (R265). -/
def CH_TIAMISS.MISS : Field := ⟨.ch, 0x20C, 1, 0, 0, 32, .ro, fun _ => 0⟩
/-- CH_TIACAL R1 (R265). -/
def CH_TIACAL.R1 : Field := ⟨.ch, 0x210, 4, 4, 0, 16, .ro, fun _ => 0⟩
/-- CH_TIACAL R2 (R265). -/
def CH_TIACAL.R2 : Field := ⟨.ch, 0x210, 4, 4, 16, 16, .ro, fun _ => 0⟩
/-- CH_CALSTAT VALID (R338). -/
def CH_CALSTAT.VALID : Field := ⟨.ch, 0x300, 1, 0, 0, 1, .ro, fun _ => 0⟩
/-- CH_CALSTAT DUE (R338). -/
def CH_CALSTAT.DUE : Field := ⟨.ch, 0x300, 1, 0, 1, 1, .ro, fun _ => 0⟩
/-- CH_CALSTAT SLEW (R338). -/
def CH_CALSTAT.SLEW : Field := ⟨.ch, 0x300, 1, 0, 2, 1, .ro, fun _ => 0⟩
/-- CH_CALSTAT STANDIN (R338). -/
def CH_CALSTAT.STANDIN : Field := ⟨.ch, 0x300, 1, 0, 3, 2, .ro, fun _ => 0⟩
/-- CH_CALSTAT TCAL (R338). -/
def CH_CALSTAT.TCAL : Field := ⟨.ch, 0x300, 1, 0, 16, 16, .ro, fun _ => 0⟩
/-- CH_COR CUR (R338). -/
def CH_COR.CUR : Field := ⟨.ch, 0x304, 6, 4, 0, 13, .ro, fun _ => 0⟩
/-- CH_COR TGT (R338). -/
def CH_COR.TGT : Field := ⟨.ch, 0x304, 6, 4, 16, 13, .ro, fun _ => 0⟩
/-- CH_GAIN CUR (R338). -/
def CH_GAIN.CUR : Field := ⟨.ch, 0x31C, 1, 0, 0, 12, .ro, fun _ => 0⟩
/-- CH_GAIN TGT (R338). -/
def CH_GAIN.TGT : Field := ⟨.ch, 0x31C, 1, 0, 16, 12, .ro, fun _ => 0⟩
/-- CH_FIX FIXDRV (R338). -/
def CH_FIX.FIXDRV : Field := ⟨.ch, 0x320, 1, 0, 0, 13, .ro, fun _ => 0⟩
/-- CH_FIX FIXCMP (R338). -/
def CH_FIX.FIXCMP : Field := ⟨.ch, 0x320, 1, 0, 16, 13, .ro, fun _ => 0⟩
/-- CH_MSTAT MODE (R338). -/
def CH_MSTAT.MODE : Field := ⟨.mirror, 0x800, 1, 0, 0, 2, .ro, fun _ => 0⟩
/-- CH_MSTAT PART (R338). -/
def CH_MSTAT.PART : Field := ⟨.mirror, 0x800, 1, 0, 2, 1, .ro, fun _ => 0⟩
/-- CH_MSTAT CHAN (R338). -/
def CH_MSTAT.CHAN : Field := ⟨.mirror, 0x800, 1, 0, 8, 9, .ro, fun _ => 0⟩
/-- CH_MMATCH MATCH (R338). -/
def CH_MMATCH.MATCH : Field := ⟨.mirror, 0x804, 4, 4, 0, 13, .ro, fun _ => 0⟩
/-- CH_REFSTAT TEMP (R338). -/
def CH_REFSTAT.TEMP : Field := ⟨.ref, 0x800, 1, 0, 0, 16, .ro, fun _ => 0⟩
/-- CH_REFSTAT BUSY (R338). -/
def CH_REFSTAT.BUSY : Field := ⟨.ref, 0x800, 1, 0, 16, 1, .ro, fun _ => 0⟩
/-- CH_REFSTAT QUEUE (R338). -/
def CH_REFSTAT.QUEUE : Field := ⟨.ref, 0x800, 1, 0, 17, 4, .ro, fun _ => 0⟩
/-- GR_FQSTAT DEPTH (R249). -/
def GR_FQSTAT.DEPTH : Field := ⟨.gr, 0x0, 1, 0, 0, 11, .ro, fun _ => 0⟩
/-- GR_FQSTAT PTRERR (R249). -/
def GR_FQSTAT.PTRERR : Field := ⟨.gr, 0x0, 1, 0, 16, 1, .w1c, fun _ => 0⟩
/-- GR_FQCTL DRAIN (R249). -/
def GR_FQCTL.DRAIN : Field := ⟨.gr, 0x4, 1, 0, 0, 1, .rw, fun _ => 0⟩
/-- GR_FQLOST LOST (R249). -/
def GR_FQLOST.LOST : Field := ⟨.gr, 0x8, 1, 0, 0, 32, .ro, fun _ => 0⟩
/-- GR_FQTRUNC WORDS (R249). -/
def GR_FQTRUNC.WORDS : Field := ⟨.gr, 0xC, 1, 0, 0, 32, .ro, fun _ => 0⟩
/-- GR_FQSEQ RSEQ (R249). -/
def GR_FQSEQ.RSEQ : Field := ⟨.gr, 0x10, 1, 0, 0, 16, .ro, fun _ => 0⟩
/-- GR_PECFG SWING (R490). -/
def GR_PECFG.SWING : Field := ⟨.gr, 0x100, 1, 0, 0, 4, .lck, fun _ => 8⟩
/-- LP_STAT STATE (R290). -/
def LP_STAT.STATE : Field := ⟨.lp, 0x0, 1, 0, 0, 3, .ro, fun _ => 0⟩
/-- LP_STAT SEG (R290). -/
def LP_STAT.SEG : Field := ⟨.lp, 0x0, 1, 0, 3, 6, .ro, fun _ => 0⟩
/-- LP_STAT REARM (R290). -/
def LP_STAT.REARM : Field := ⟨.lp, 0x0, 1, 0, 9, 1, .ro, fun _ => 0⟩
/-- LP_STAT OWN (R290). -/
def LP_STAT.OWN : Field := ⟨.lp, 0x0, 1, 0, 10, 1, .ro, fun _ => 0⟩
/-- LP_STAT SPILL (R290). -/
def LP_STAT.SPILL : Field := ⟨.lp, 0x0, 1, 0, 11, 1, .ro, fun _ => 0⟩
/-- LP_STAT END (R290). -/
def LP_STAT.END : Field := ⟨.lp, 0x0, 1, 0, 12, 2, .ro, fun _ => 0⟩
/-- LP_JUMP SEG (R290). -/
def LP_JUMP.SEG : Field := ⟨.lp, 0x4, 1, 0, 0, 6, .wo, fun _ => 0⟩
/-- LP_JUMP GO (R290). -/
def LP_JUMP.GO : Field := ⟨.lp, 0x4, 1, 0, 31, 1, .wo, fun _ => 0⟩
/-- LP_MISSED COUNT (R290). -/
def LP_MISSED.COUNT : Field := ⟨.lp, 0x8, 1, 0, 0, 32, .ro, fun _ => 0⟩
/-- LP_TRIGBUSY COUNT (R290). -/
def LP_TRIGBUSY.COUNT : Field := ⟨.lp, 0xC, 1, 0, 0, 32, .ro, fun _ => 0⟩
/-- LP_EDGELOST COUNT (R290). -/
def LP_EDGELOST.COUNT : Field := ⟨.lp, 0x10, 1, 0, 0, 32, .ro, fun _ => 0⟩
/-- LP_MARKLOST COUNT (R290). -/
def LP_MARKLOST.COUNT : Field := ⟨.lp, 0x14, 1, 0, 0, 32, .ro, fun _ => 0⟩
/-- LP_STORED UNITS (R290). -/
def LP_STORED.UNITS : Field := ⟨.lp, 0x18, 1, 0, 0, 48, .ro, fun _ => 0⟩
/-- LP_FIFO BYTES (R290). -/
def LP_FIFO.BYTES : Field := ⟨.lp, 0x20, 1, 0, 0, 26, .ro, fun _ => 0⟩
/-- PZ_STAT STATE (R309). -/
def PZ_STAT.STATE : Field := ⟨.pz, 0x0, 1, 0, 0, 2, .ro, fun _ => 0⟩
/-- PZ_STAT LINKED (R309). -/
def PZ_STAT.LINKED : Field := ⟨.pz, 0x0, 1, 0, 2, 1, .ro, fun _ => 0⟩
/-- PZ_STAT LEVEL (R309). -/
def PZ_STAT.LEVEL : Field := ⟨.pz, 0x0, 1, 0, 4, 4, .ro, fun _ => 0⟩
/-- PZ_STAT QUAL (R309). -/
def PZ_STAT.QUAL : Field := ⟨.pz, 0x0, 1, 0, 8, 1, .ro, fun _ => 0⟩
/-- PZ_STAT NOPLACE (R309). -/
def PZ_STAT.NOPLACE : Field := ⟨.pz, 0x0, 1, 0, 9, 1, .w1c, fun _ => 0⟩
/-- PZ_STAT AUTORUN (R309). -/
def PZ_STAT.AUTORUN : Field := ⟨.pz, 0x0, 1, 0, 10, 1, .ro, fun _ => 0⟩
/-- PZ_CTL GO (R309). -/
def PZ_CTL.GO : Field := ⟨.pz, 0x4, 1, 0, 0, 1, .wo, fun _ => 0⟩
/-- PZ_CTL STOP (R309). -/
def PZ_CTL.STOP : Field := ⟨.pz, 0x4, 1, 0, 1, 1, .wo, fun _ => 0⟩
/-- PZ_TRIGCNT COUNT (R309). -/
def PZ_TRIGCNT.COUNT : Field := ⟨.pz, 0x8, 1, 0, 0, 32, .ro, fun _ => 0⟩
/-- PZ_FORCED COUNT (R309). -/
def PZ_FORCED.COUNT : Field := ⟨.pz, 0xC, 1, 0, 0, 32, .ro, fun _ => 0⟩
/-- PZ_LASTT T (R309). -/
def PZ_LASTT.T : Field := ⟨.pz, 0x10, 1, 0, 0, 64, .ro, fun _ => 0⟩
/-- PZ_LASTF FRAC (R309). -/
def PZ_LASTF.FRAC : Field := ⟨.pz, 0x18, 1, 0, 0, 12, .ro, fun _ => 0⟩
/-- PZ_LASTF FORCED (R309). -/
def PZ_LASTF.FORCED : Field := ⟨.pz, 0x18, 1, 0, 12, 1, .ro, fun _ => 0⟩
/-- PZ_OUT TOUT (R309). -/
def PZ_OUT.TOUT : Field := ⟨.pz, 0x20, 1, 0, 0, 4, .ro, fun _ => 0⟩
/-- PZ_OUT XOWN (R309). -/
def PZ_OUT.XOWN : Field := ⟨.pz, 0x20, 1, 0, 4, 8, .ro, fun _ => 0⟩
/-- PZ_OUT XLINE (R309). -/
def PZ_OUT.XLINE : Field := ⟨.pz, 0x20, 1, 0, 12, 8, .ro, fun _ => 0⟩
/-- PZ_CNT COUNT (R309). -/
def PZ_CNT.COUNT : Field := ⟨.pz, 0x40, 8, 8, 0, 48, .ro, fun _ => 0⟩
/-- PZ_ECLOST COUNT (R309). -/
def PZ_ECLOST.COUNT : Field := ⟨.pz, 0x80, 4, 4, 0, 32, .ro, fun _ => 0⟩
/-- CA_CTL AUTO (R338). -/
def CA_CTL.AUTO : Field := ⟨.ca, 0x0, 1, 0, 0, 1, .rw, fun _ => 1⟩
/-- CA_CTL THRESH (R338). -/
def CA_CTL.THRESH : Field := ⟨.ca, 0x0, 1, 0, 8, 7, .rw, fun _ => 8⟩
/-- CA_SLEW STEP (R338). -/
def CA_SLEW.STEP : Field := ⟨.ca, 0x4, 1, 0, 0, 6, .rw, fun _ => 1⟩
/-- CA_SLEW INTERVAL (R338). -/
def CA_SLEW.INTERVAL : Field := ⟨.ca, 0x4, 1, 0, 16, 10, .rw, fun _ => 25⟩
/-- CA_STAT SEALOK (R338). -/
def CA_STAT.SEALOK : Field := ⟨.ca, 0x8, 1, 0, 0, 1, .ro, fun _ => 0⟩
/-- CA_STAT FIXMATCH (R338). -/
def CA_STAT.FIXMATCH : Field := ⟨.ca, 0x8, 1, 0, 1, 1, .ro, fun _ => 0⟩
/-- CA_STAT KEYLOST (R338). -/
def CA_STAT.KEYLOST : Field := ⟨.ca, 0x8, 1, 0, 2, 1, .ro, fun _ => 0⟩
/-- CA_STAT LOCKED (R338). -/
def CA_STAT.LOCKED : Field := ⟨.ca, 0x8, 1, 0, 3, 1, .ro, fun _ => 0⟩
/-- CA_STAT DEFER (R338). -/
def CA_STAT.DEFER : Field := ⟨.ca, 0x8, 1, 0, 16, 16, .w1c, fun _ => 0⟩
/-- CA_SEALCNT COUNT (R338). -/
def CA_SEALCNT.COUNT : Field := ⟨.ca, 0xC, 1, 0, 0, 32, .ro, fun _ => 0⟩
/-- CA_DUE DUE (R338). -/
def CA_DUE.DUE : Field := ⟨.ca, 0x10, 1, 0, 0, 16, .ro, fun _ => 0⟩
/-- CA_GRP PHASE (R338). -/
def CA_GRP.PHASE : Field := ⟨.ca, 0x40, 16, 4, 0, 3, .ro, fun _ => 0⟩
/-- CA_GRP CHAN (R338). -/
def CA_GRP.CHAN : Field := ⟨.ca, 0x40, 16, 4, 4, 9, .ro, fun _ => 0⟩
/-- CA_GRP TEMP (R338). -/
def CA_GRP.TEMP : Field := ⟨.ca, 0x40, 16, 4, 16, 16, .ro, fun _ => 0⟩
/-- SY_STAT RINGUP (R364). -/
def SY_STAT.RINGUP : Field := ⟨.sy, 0x0, 1, 0, 0, 1, .ro, fun _ => 0⟩
/-- SY_STAT WRAP (R364). -/
def SY_STAT.WRAP : Field := ⟨.sy, 0x0, 1, 0, 1, 1, .ro, fun _ => 0⟩
/-- SY_STAT ALIGNED (R364). -/
def SY_STAT.ALIGNED : Field := ⟨.sy, 0x0, 1, 0, 2, 1, .ro, fun _ => 0⟩
/-- SY_STAT DRIFT (R364). -/
def SY_STAT.DRIFT : Field := ⟨.sy, 0x0, 1, 0, 3, 1, .w1c, fun _ => 0⟩
/-- SY_STAT SYNCARM (R364). -/
def SY_STAT.SYNCARM : Field := ⟨.sy, 0x0, 1, 0, 4, 1, .ro, fun _ => 0⟩
/-- SY_STAT SYNCSEEN (R364). -/
def SY_STAT.SYNCSEEN : Field := ⟨.sy, 0x0, 1, 0, 5, 1, .ro, fun _ => 0⟩
/-- SY_STAT COLLBUSY (R364). -/
def SY_STAT.COLLBUSY : Field := ⟨.sy, 0x0, 1, 0, 6, 1, .ro, fun _ => 0⟩
/-- SY_CFG CHIP_ID (R364). -/
def SY_CFG.CHIP_ID : Field := ⟨.sy, 0x4, 1, 0, 0, 6, .ro, fun _ => 0⟩
/-- SY_CFG N (R364). -/
def SY_CFG.N : Field := ⟨.sy, 0x4, 1, 0, 8, 7, .ro, fun _ => 1⟩
/-- SY_CFG EN (R364). -/
def SY_CFG.EN : Field := ⟨.sy, 0x4, 1, 0, 15, 1, .ro, fun _ => 0⟩
/-- SY_CFG ASYM (R364). -/
def SY_CFG.ASYM : Field := ⟨.sy, 0x4, 1, 0, 16, 16, .ro, fun _ => 0⟩
/-- SY_VER MINV (R364). -/
def SY_VER.MINV : Field := ⟨.sy, 0x8, 1, 0, 0, 4, .ro, fun _ => 2⟩
/-- SY_VER MAXV (R364). -/
def SY_VER.MAXV : Field := ⟨.sy, 0x8, 1, 0, 4, 4, .ro, fun _ => 2⟩
/-- SY_VER CURV (R364). -/
def SY_VER.CURV : Field := ⟨.sy, 0x8, 1, 0, 8, 4, .ro, fun _ => 0⟩
/-- SY_ADJ ADJ (R364). -/
def SY_ADJ.ADJ : Field := ⟨.sy, 0xC, 1, 0, 0, 32, .ro, fun _ => 0⟩
/-- SY_TT T (R364). -/
def SY_TT.T : Field := ⟨.sy, 0x10, 1, 0, 0, 64, .ro, fun _ => 0⟩
/-- SY_LINK EUP (R364). -/
def SY_LINK.EUP : Field := ⟨.sy, 0x18, 1, 0, 0, 1, .ro, fun _ => 0⟩
/-- SY_LINK WUP (R364). -/
def SY_LINK.WUP : Field := ⟨.sy, 0x18, 1, 0, 1, 1, .ro, fun _ => 0⟩
/-- SY_LINK EWRAP (R364). -/
def SY_LINK.EWRAP : Field := ⟨.sy, 0x18, 1, 0, 2, 1, .ro, fun _ => 0⟩
/-- SY_LINK WWRAP (R364). -/
def SY_LINK.WWRAP : Field := ⟨.sy, 0x18, 1, 0, 3, 1, .ro, fun _ => 0⟩
/-- SY_LINK EFENCE (R364). -/
def SY_LINK.EFENCE : Field := ⟨.sy, 0x18, 1, 0, 8, 8, .ro, fun _ => 0⟩
/-- SY_LINK WFENCE (R364). -/
def SY_LINK.WFENCE : Field := ⟨.sy, 0x18, 1, 0, 16, 8, .ro, fun _ => 0⟩
/-- SY_RF RF (R364). -/
def SY_RF.RF : Field := ⟨.sy, 0x1C, 1, 0, 0, 4, .ro, fun _ => 0⟩
/-- SY_RFCTL SET (R364). -/
def SY_RFCTL.SET : Field := ⟨.sy, 0x20, 1, 0, 0, 4, .wo, fun _ => 0⟩
/-- SY_RFCTL CLR (R364). -/
def SY_RFCTL.CLR : Field := ⟨.sy, 0x20, 1, 0, 4, 4, .wo, fun _ => 0⟩
/-- SY_RBAR PEND (R364). -/
def SY_RBAR.PEND : Field := ⟨.sy, 0x24, 1, 0, 0, 16, .ro, fun _ => 0⟩
/-- SY_FRERR DISCARD (R364). -/
def SY_FRERR.DISCARD : Field := ⟨.sy, 0x28, 1, 0, 0, 16, .ro, fun _ => 0⟩
/-- SY_FRERR RESEND (R364). -/
def SY_FRERR.RESEND : Field := ⟨.sy, 0x28, 1, 0, 16, 16, .ro, fun _ => 0⟩
/-- SY_INBOX DEPTH (R364). -/
def SY_INBOX.DEPTH : Field := ⟨.sy, 0x2C, 1, 0, 0, 4, .ro, fun _ => 0⟩
/-- SY_INBOX HEAD (R364). -/
def SY_INBOX.HEAD : Field := ⟨.sy, 0x2C, 1, 0, 8, 3, .ro, fun _ => 0⟩
/-- SY_INBOX POP (R364). -/
def SY_INBOX.POP : Field := ⟨.sy, 0x2C, 1, 0, 16, 1, .wo, fun _ => 0⟩
/-- SY_INBOXLOST LOST (R364). -/
def SY_INBOXLOST.LOST : Field := ⟨.sy, 0x30, 1, 0, 0, 32, .ro, fun _ => 0⟩
/-- PM_CTL CLRRUN (R375). -/
def PM_CTL.CLRRUN : Field := ⟨.pm, 0x0, 1, 0, 0, 1, .ro, fun _ => 1⟩
/-- PM_CTL DUMPEN (R375). -/
def PM_CTL.DUMPEN : Field := ⟨.pm, 0x0, 1, 0, 1, 1, .ro, fun _ => 0⟩
/-- PM_CTL WRAP (R375). -/
def PM_CTL.WRAP : Field := ⟨.pm, 0x0, 1, 0, 2, 1, .ro, fun _ => 0⟩
/-- PM_CTL INTERVAL (R375). -/
def PM_CTL.INTERVAL : Field := ⟨.pm, 0x0, 1, 0, 4, 24, .ro, fun _ => 0⟩
/-- PM_SEL SEL (R375). -/
def PM_SEL.SEL : Field := ⟨.pm, 0x4, 1, 0, 0, 64, .ro, fun _ => 67305985⟩
/-- PM_SAT CNT (R375). -/
def PM_SAT.CNT : Field := ⟨.pm, 0xC, 1, 0, 0, 8, .ro, fun _ => 0⟩
/-- PM_SAT SLOTS (R375). -/
def PM_SAT.SLOTS : Field := ⟨.pm, 0xC, 1, 0, 8, 1, .ro, fun _ => 0⟩
/-- PM_SLOTS COUNT (R375). -/
def PM_SLOTS.COUNT : Field := ⟨.pm, 0x10, 1, 0, 0, 48, .ro, fun _ => 0⟩
/-- PM_CNT COUNT (R375). -/
def PM_CNT.COUNT : Field := ⟨.pm, 0x20, 8, 8, 0, 48, .ro, fun _ => 0⟩
/-- PM_DBASE BASE (R375). -/
def PM_DBASE.BASE : Field := ⟨.pm, 0x60, 1, 0, 7, 29, .ro, fun _ => 0⟩
/-- PM_DSIZE SIZE (R375). -/
def PM_DSIZE.SIZE : Field := ⟨.pm, 0x68, 1, 0, 0, 21, .ro, fun _ => 0⟩
/-- PM_DWR WR (R375). -/
def PM_DWR.WR : Field := ⟨.pm, 0x6C, 1, 0, 0, 32, .ro, fun _ => 0⟩
/-- PM_DRD RD (R375). -/
def PM_DRD.RD : Field := ⟨.pm, 0x70, 1, 0, 0, 32, .rw, fun _ => 0⟩
/-- PM_DSEQ K (R375). -/
def PM_DSEQ.K : Field := ⟨.pm, 0x74, 1, 0, 0, 32, .ro, fun _ => 0⟩
/-- PM_DDROP DROP (R375). -/
def PM_DDROP.DROP : Field := ⟨.pm, 0x78, 1, 0, 0, 32, .ro, fun _ => 0⟩
/-- HL_STAT STAGE (R394). -/
def HL_STAT.STAGE : Field := ⟨.hl, 0x0, 1, 0, 0, 3, .ro, fun _ => 0⟩
/-- HL_STAT WIDTH (R394). -/
def HL_STAT.WIDTH : Field := ⟨.hl, 0x0, 1, 0, 4, 5, .ro, fun _ => 0⟩
/-- HL_STAT RATE (R394). -/
def HL_STAT.RATE : Field := ⟨.hl, 0x0, 1, 0, 9, 2, .ro, fun _ => 0⟩
/-- HL_STAT REFLANE (R394). -/
def HL_STAT.REFLANE : Field := ⟨.hl, 0x0, 1, 0, 11, 2, .ro, fun _ => 0⟩
/-- HL_STAT SCAN (R394). -/
def HL_STAT.SCAN : Field := ⟨.hl, 0x0, 1, 0, 13, 1, .ro, fun _ => 0⟩
/-- HL_CTL REFPREF (R394). -/
def HL_CTL.REFPREF : Field := ⟨.hl, 0x4, 1, 0, 0, 2, .rws, fun _ => 0⟩
/-- HL_FENCE FENCED (R394). -/
def HL_FENCE.FENCED : Field := ⟨.hl, 0x8, 1, 0, 0, 16, .ro, fun _ => 0⟩
/-- HL_ERR RESEND (R394). -/
def HL_ERR.RESEND : Field := ⟨.hl, 0xC, 1, 0, 0, 16, .ro, fun _ => 0⟩
/-- HL_ERR RETRAIN (R394). -/
def HL_ERR.RETRAIN : Field := ⟨.hl, 0xC, 1, 0, 16, 8, .ro, fun _ => 0⟩
/-- HL_ERR BADFRM (R394). -/
def HL_ERR.BADFRM : Field := ⟨.hl, 0xC, 1, 0, 24, 8, .ro, fun _ => 0⟩
/-- HL_MARKS GAPS (R394). -/
def HL_MARKS.GAPS : Field := ⟨.hl, 0x10, 1, 0, 0, 32, .ro, fun _ => 0⟩
/-- HL_PEER MAXRATE (R394). -/
def HL_PEER.MAXRATE : Field := ⟨.hl, 0x14, 1, 0, 0, 2, .ro, fun _ => 0⟩
/-- HL_PEER REQRATE (R394). -/
def HL_PEER.REQRATE : Field := ⟨.hl, 0x14, 1, 0, 2, 2, .ro, fun _ => 0⟩
/-- HL_PEER LANES (R394). -/
def HL_PEER.LANES : Field := ⟨.hl, 0x14, 1, 0, 16, 16, .ro, fun _ => 0⟩
/-- HL_LnCTL SLIP (R394). -/
def HL_LnCTL.SLIP : Field := ⟨.hl, 0x100, 16, 32, 0, 1, .w1s, fun _ => 0⟩
/-- HL_LnCTL SYMLOCK (R394). -/
def HL_LnCTL.SYMLOCK : Field := ⟨.hl, 0x100, 16, 32, 1, 1, .rw, fun _ => 0⟩
/-- HL_LnCTL CCLR (R394). -/
def HL_LnCTL.CCLR : Field := ⟨.hl, 0x100, 16, 32, 2, 1, .wo, fun _ => 0⟩
/-- HL_LnSTAT DET (R394). -/
def HL_LnSTAT.DET : Field := ⟨.hl, 0x104, 16, 32, 0, 1, .ro, fun _ => 0⟩
/-- HL_LnSTAT BITLOCK (R394). -/
def HL_LnSTAT.BITLOCK : Field := ⟨.hl, 0x104, 16, 32, 1, 1, .ro, fun _ => 0⟩
/-- HL_LnSTAT DESKEW (R394). -/
def HL_LnSTAT.DESKEW : Field := ⟨.hl, 0x104, 16, 32, 2, 1, .ro, fun _ => 0⟩
/-- HL_LnSTAT ACTIVE (R394). -/
def HL_LnSTAT.ACTIVE : Field := ⟨.hl, 0x104, 16, 32, 3, 1, .ro, fun _ => 0⟩
/-- HL_LnCNT COMMA (R394). -/
def HL_LnCNT.COMMA : Field := ⟨.hl, 0x108, 16, 32, 0, 16, .ro, fun _ => 0⟩
/-- HL_LnCNT CODEERR (R394). -/
def HL_LnCNT.CODEERR : Field := ⟨.hl, 0x108, 16, 32, 16, 16, .ro, fun _ => 0⟩
/-- HL_LnRAW SYM (R394). -/
def HL_LnRAW.SYM : Field := ⟨.hl, 0x10C, 16, 32, 0, 10, .ro, fun _ => 0⟩
/-- CK_READY READY (R413). -/
def CK_READY.READY : Field := ⟨.ck, 0x0, 1, 0, 0, 25, .ro, fun _ => 0⟩
/-- CK_SEL CTLSRC (R413). -/
def CK_SEL.CTLSRC : Field := ⟨.ck, 0x4, 1, 0, 0, 1, .rw, fun _ => 0⟩
/-- CK_SEL REFUSED (R413). -/
def CK_SEL.REFUSED : Field := ⟨.ck, 0x4, 1, 0, 8, 1, .w1c, fun _ => 0⟩
/-- CK_CTLDIV DIV (R413). -/
def CK_CTLDIV.DIV : Field := ⟨.ck, 0x8, 1, 0, 0, 5, .rw, fun _ => 4⟩
/-- CK_MON COUNT (R413). -/
def CK_MON.COUNT : Field := ⟨.ck, 0xC, 1, 0, 0, 8, .ro, fun _ => 0⟩
/-- CK_MON LOST (R413). -/
def CK_MON.LOST : Field := ⟨.ck, 0xC, 1, 0, 8, 1, .ro, fun _ => 0⟩
/-- CK_MON BYDET (R413). -/
def CK_MON.BYDET : Field := ⟨.ck, 0xC, 1, 0, 9, 1, .ro, fun _ => 0⟩
/-- CK_MON HOLD (R413). -/
def CK_MON.HOLD : Field := ⟨.ck, 0xC, 1, 0, 10, 1, .ro, fun _ => 0⟩
/-- CK_MON LOSSES (R413). -/
def CK_MON.LOSSES : Field := ⟨.ck, 0xC, 1, 0, 16, 16, .rws, fun _ => 0⟩
/-- CK_OSC TRIM (R413). -/
def CK_OSC.TRIM : Field := ⟨.ck, 0x10, 1, 0, 0, 8, .ro, fun _ => 0⟩
/-- CK_OSC TBUSY (R413). -/
def CK_OSC.TBUSY : Field := ⟨.ck, 0x10, 1, 0, 8, 1, .ro, fun _ => 0⟩
/-- CK_OSC TRIMOK (R413). -/
def CK_OSC.TRIMOK : Field := ⟨.ck, 0x10, 1, 0, 9, 1, .ro, fun _ => 0⟩
/-- CK_PLLSTAT LOCK (R413). -/
def CK_PLLSTAT.LOCK : Field := ⟨.ck, 0x14, 1, 0, 0, 6, .ro, fun _ => 0⟩
/-- CK_PLLSTAT HOLD (R413). -/
def CK_PLLSTAT.HOLD : Field := ⟨.ck, 0x14, 1, 0, 8, 5, .ro, fun _ => 0⟩
/-- CK_FCCTL MEAS (R413). -/
def CK_FCCTL.MEAS : Field := ⟨.ck, 0x18, 1, 0, 0, 5, .rw, fun _ => 0⟩
/-- CK_FCCTL REF (R413). -/
def CK_FCCTL.REF : Field := ⟨.ck, 0x18, 1, 0, 8, 5, .rw, fun _ => 0⟩
/-- CK_FCCTL GO (R413). -/
def CK_FCCTL.GO : Field := ⟨.ck, 0x18, 1, 0, 16, 1, .wo, fun _ => 0⟩
/-- CK_FCCTL DONE (R413). -/
def CK_FCCTL.DONE : Field := ⟨.ck, 0x18, 1, 0, 17, 1, .ro, fun _ => 0⟩
/-- CK_FCCTL NREADY (R413). -/
def CK_FCCTL.NREADY : Field := ⟨.ck, 0x18, 1, 0, 18, 1, .ro, fun _ => 0⟩
/-- CK_FCGATE G (R413). -/
def CK_FCGATE.G : Field := ⟨.ck, 0x1C, 1, 0, 0, 25, .rw, fun _ => 1⟩
/-- CK_FCRES COUNT (R413). -/
def CK_FCRES.COUNT : Field := ⟨.ck, 0x20, 1, 0, 0, 32, .ro, fun _ => 0⟩
/-- CK_GATE CLOSE (R413). -/
def CK_GATE.CLOSE : Field := ⟨.ck, 0x24, 1, 0, 0, 19, .rw, fun _ => 0⟩
/-- CK_GATESTAT OPEN (R413). -/
def CK_GATESTAT.OPEN : Field := ⟨.ck, 0x28, 1, 0, 0, 19, .ro, fun _ => 524287⟩
/-- CK_GATESTAT PENDING (R413). -/
def CK_GATESTAT.PENDING : Field := ⟨.ck, 0x28, 1, 0, 29, 1, .ro, fun _ => 0⟩
/-- CK_GATESTAT FORCED (R413). -/
def CK_GATESTAT.FORCED : Field := ⟨.ck, 0x28, 1, 0, 30, 1, .w1c, fun _ => 0⟩
/-- CK_GATESTAT REFUSED (R413). -/
def CK_GATESTAT.REFUSED : Field := ⟨.ck, 0x28, 1, 0, 31, 1, .w1c, fun _ => 0⟩
/-- CK_RSTCAUSE KIND (R413). -/
def CK_RSTCAUSE.KIND : Field := ⟨.ck, 0x2C, 1, 0, 0, 2, .ro, fun _ => 0⟩
/-- CK_RSTCAUSE PIN (R413). -/
def CK_RSTCAUSE.PIN : Field := ⟨.ck, 0x2C, 1, 0, 2, 1, .ro, fun _ => 0⟩
/-- CK_RSTCAUSE CMD (R413). -/
def CK_RSTCAUSE.CMD : Field := ⟨.ck, 0x2C, 1, 0, 3, 1, .ro, fun _ => 0⟩
/-- CK_RSTCAUSE HOLD (R413). -/
def CK_RSTCAUSE.HOLD : Field := ⟨.ck, 0x2C, 1, 0, 4, 1, .ro, fun _ => 0⟩
/-- CK_RSTCAUSE RECOV (R413). -/
def CK_RSTCAUSE.RECOV : Field := ⟨.ck, 0x2C, 1, 0, 5, 1, .ro, fun _ => 0⟩
/-- CK_STRAP OSCDLY (R413). -/
def CK_STRAP.OSCDLY : Field := ⟨.ck, 0x30, 1, 0, 0, 3, .ro, fun _ => 0⟩
/-- CK_STRAP BOOT (R413). -/
def CK_STRAP.BOOT : Field := ⟨.ck, 0x30, 1, 0, 3, 2, .ro, fun _ => 0⟩
/-- CK_STRAP TEST (R413). -/
def CK_STRAP.TEST : Field := ⟨.ck, 0x30, 1, 0, 5, 1, .ro, fun _ => 0⟩
/-- CK_STRAP CHIPID (R413). -/
def CK_STRAP.CHIPID : Field := ⟨.ck, 0x30, 1, 0, 8, 6, .ro, fun _ => 0⟩
/-- MC_STAT TEMP0 (R436). -/
def MC_STAT.TEMP0 : Field := ⟨.mc, 0x0, 1, 0, 0, 8, .ro, fun _ => 0⟩
/-- MC_STAT TEMP1 (R436). -/
def MC_STAT.TEMP1 : Field := ⟨.mc, 0x0, 1, 0, 8, 8, .ro, fun _ => 0⟩
/-- MC_STAT NFENCED (R436). -/
def MC_STAT.NFENCED : Field := ⟨.mc, 0x0, 1, 0, 16, 7, .ro, fun _ => 0⟩
/-- MC_NREF LOG2P (R436). -/
def MC_NREF.LOG2P : Field := ⟨.mc, 0x4, 1, 0, 0, 5, .rw, fun _ => 10⟩
/-- MC_SCRUB PASSTIME (R436). -/
def MC_SCRUB.PASSTIME : Field := ⟨.mc, 0x8, 1, 0, 0, 16, .ro, fun _ => 0⟩
/-- MC_SCRUB UEVALID (R436). -/
def MC_SCRUB.UEVALID : Field := ⟨.mc, 0x8, 1, 0, 16, 1, .w1c, fun _ => 0⟩
/-- MC_SCRUBADDR ADDR (R436). -/
def MC_SCRUBADDR.ADDR : Field := ⟨.mc, 0xC, 1, 0, 0, 32, .ro, fun _ => 0⟩
/-- MC_PORT RATE (R436). -/
def MC_PORT.RATE : Field := ⟨.mc, 0x40, 7, 4, 0, 10, .rw, fun k => [0, 32, 160, 256, 64, 4, 160].getD k 0⟩
/-- MC_PORT GCAP (R436). -/
def MC_PORT.GCAP : Field := ⟨.mc, 0x40, 7, 4, 10, 10, .rw, fun k => [0, 32, 128, 128, 16, 4, 128].getD k 0⟩
/-- MC_PORT BURST (R436). -/
def MC_PORT.BURST : Field := ⟨.mc, 0x40, 7, 4, 20, 8, .rw, fun k => [0, 16, 64, 64, 4, 4, 64].getD k 0⟩
/-- MC_PC FENCED (R436). -/
def MC_PC.FENCED : Field := ⟨.mc, 0x100, 64, 4, 0, 1, .ro, fun _ => 0⟩
/-- MC_PC INORD (R436). -/
def MC_PC.INORD : Field := ⟨.mc, 0x100, 64, 4, 1, 1, .ro, fun _ => 0⟩
/-- MC_PC SWEEP (R436). -/
def MC_PC.SWEEP : Field := ⟨.mc, 0x100, 64, 4, 2, 1, .ro, fun _ => 0⟩
/-- MC_PC CODE (R436). -/
def MC_PC.CODE : Field := ⟨.mc, 0x100, 64, 4, 3, 5, .ro, fun _ => 0⟩
/-- MC_PC INORDCNT (R436). -/
def MC_PC.INORDCNT : Field := ⟨.mc, 0x100, 64, 4, 16, 16, .ro, fun _ => 0⟩
/-- MC_ECC CORR (R436). -/
def MC_ECC.CORR : Field := ⟨.mc, 0x200, 64, 4, 0, 24, .ro, fun _ => 0⟩
/-- MC_ECC UNCORR (R436). -/
def MC_ECC.UNCORR : Field := ⟨.mc, 0x200, 64, 4, 24, 8, .ro, fun _ => 0⟩
/-- MC_SPREP SPARE (R436). -/
def MC_SPREP.SPARE : Field := ⟨.mc, 0x800, 16, 4, 0, 4, .ro, fun _ => 0⟩
/-- MC_SPREP CORR (R436). -/
def MC_SPREP.CORR : Field := ⟨.mc, 0x800, 16, 4, 8, 16, .ro, fun _ => 0⟩
/-- MC_SPREP UNCORR (R436). -/
def MC_SPREP.UNCORR : Field := ⟨.mc, 0x800, 16, 4, 24, 8, .ro, fun _ => 0⟩
/-- MC_CSREP SPARE (R436). -/
def MC_CSREP.SPARE : Field := ⟨.mc, 0x900, 64, 4, 0, 4, .ro, fun _ => 0⟩
/-- MC_CSREP CORR (R436). -/
def MC_CSREP.CORR : Field := ⟨.mc, 0x900, 64, 4, 8, 16, .ro, fun _ => 0⟩
/-- MC_CSREP UNCORR (R436). -/
def MC_CSREP.UNCORR : Field := ⟨.mc, 0x900, 64, 4, 24, 8, .ro, fun _ => 0⟩
/-- FC_STAT FEVALID (R456). -/
def FC_STAT.FEVALID : Field := ⟨.fc, 0x0, 1, 0, 0, 1, .ro, fun _ => 0⟩
/-- FC_STAT COVALID (R456). -/
def FC_STAT.COVALID : Field := ⟨.fc, 0x0, 1, 0, 1, 1, .ro, fun _ => 0⟩
/-- FC_STAT MAXSEV (R456). -/
def FC_STAT.MAXSEV : Field := ⟨.fc, 0x0, 1, 0, 2, 3, .ro, fun _ => 0⟩
/-- FC_STAT FENCED (R456). -/
def FC_STAT.FENCED : Field := ⟨.fc, 0x0, 1, 0, 16, 10, .ro, fun _ => 0⟩
/-- FC_POLICY QUIET (R456). -/
def FC_POLICY.QUIET : Field := ⟨.fc, 0x4, 1, 0, 0, 20, .ro, fun _ => 5000⟩
/-- FC_LIMIT LIMIT (R456). -/
def FC_LIMIT.LIMIT : Field := ⟨.fc, 0x8, 1, 0, 0, 8, .ro, fun _ => 8⟩
/-- FC_DROP COUNT (R456). -/
def FC_DROP.COUNT : Field := ⟨.fc, 0xC, 1, 0, 0, 32, .ro, fun _ => 0⟩
/-- FC_SUPPR COUNT (R456). -/
def FC_SUPPR.COUNT : Field := ⟨.fc, 0x10, 1, 0, 0, 32, .ro, fun _ => 0⟩
/-- FC_COINCN COUNT (R456). -/
def FC_COINCN.COUNT : Field := ⟨.fc, 0x14, 1, 0, 0, 32, .ro, fun _ => 0⟩
/-- FC_FE DATA (R456). -/
def FC_FE.DATA : Field := ⟨.fc, 0x40, 8, 4, 0, 32, .ro, fun _ => 0⟩
/-- FC_CO DATA (R456). -/
def FC_CO.DATA : Field := ⟨.fc, 0x60, 8, 4, 0, 32, .ro, fun _ => 0⟩
/-- FC_INJCTL GO (R456). -/
def FC_INJCTL.GO : Field := ⟨.fc, 0x80, 1, 0, 0, 1, .wo, fun _ => 0⟩
/-- FC_INJCTL LOGONLY (R456). -/
def FC_INJCTL.LOGONLY : Field := ⟨.fc, 0x80, 1, 0, 1, 1, .rw, fun _ => 0⟩
/-- FC_INJ WORD (R456). -/
def FC_INJ.WORD : Field := ⟨.fc, 0x84, 4, 4, 0, 32, .rw, fun _ => 0⟩
/-- FC_UNIT RECOV (R456). -/
def FC_UNIT.RECOV : Field := ⟨.fc, 0x1000, 736, 4, 0, 8, .ro, fun _ => 0⟩
/-- FC_UNIT FENCED (R456). -/
def FC_UNIT.FENCED : Field := ⟨.fc, 0x1000, 736, 4, 8, 1, .ro, fun _ => 0⟩
/-- FC_UNIT PERM (R456). -/
def FC_UNIT.PERM : Field := ⟨.fc, 0x1000, 736, 4, 9, 1, .ro, fun _ => 0⟩
/-- FC_UNIT REPL (R456). -/
def FC_UNIT.REPL : Field := ⟨.fc, 0x1000, 736, 4, 10, 1, .ro, fun _ => 0⟩
/-- FC_UNIT CHECK (R456). -/
def FC_UNIT.CHECK : Field := ⟨.fc, 0x1000, 736, 4, 11, 1, .ro, fun _ => 0⟩
/-- SC_STAT POLICY (R481). -/
def SC_STAT.POLICY : Field := ⟨.sc, 0x0, 1, 0, 0, 2, .ro, fun _ => 0⟩
/-- SC_STAT LOCKED (R481). -/
def SC_STAT.LOCKED : Field := ⟨.sc, 0x0, 1, 0, 2, 1, .ro, fun _ => 0⟩
/-- SC_STAT OWNER (R481). -/
def SC_STAT.OWNER : Field := ⟨.sc, 0x0, 1, 0, 3, 1, .ro, fun _ => 0⟩
/-- SC_STAT SEALKEY (R481). -/
def SC_STAT.SEALKEY : Field := ⟨.sc, 0x0, 1, 0, 4, 1, .ro, fun _ => 0⟩
/-- SC_STAT SESSION (R481). -/
def SC_STAT.SESSION : Field := ⟨.sc, 0x0, 1, 0, 5, 2, .ro, fun _ => 0⟩
/-- SC_STAT BOOT (R481). -/
def SC_STAT.BOOT : Field := ⟨.sc, 0x0, 1, 0, 7, 2, .ro, fun _ => 0⟩
/-- SC_STAT REVOKED (R481). -/
def SC_STAT.REVOKED : Field := ⟨.sc, 0x0, 1, 0, 9, 4, .ro, fun _ => 0⟩
/-- SC_SVN SVN (R481). -/
def SC_SVN.SVN : Field := ⟨.sc, 0x4, 1, 0, 0, 32, .ro, fun _ => 0⟩
/-- SC_MINSVN MIN (R481). -/
def SC_MINSVN.MIN : Field := ⟨.sc, 0x8, 1, 0, 0, 32, .ro, fun _ => 0⟩
/-- SC_FWVER ACTIVE (R481). -/
def SC_FWVER.ACTIVE : Field := ⟨.sc, 0xC, 1, 0, 0, 16, .ro, fun _ => 770⟩
/-- SC_FWVER PREV (R481). -/
def SC_FWVER.PREV : Field := ⟨.sc, 0xC, 1, 0, 16, 16, .ro, fun _ => 0⟩
/-- SC_SESS RECEIVED (R481). -/
def SC_SESS.RECEIVED : Field := ⟨.sc, 0x10, 1, 0, 0, 7, .ro, fun _ => 0⟩
/-- SC_SESS TOTAL (R481). -/
def SC_SESS.TOTAL : Field := ⟨.sc, 0x10, 1, 0, 8, 7, .ro, fun _ => 0⟩
/-- SC_SESS OPENER (R481). -/
def SC_SESS.OPENER : Field := ⟨.sc, 0x10, 1, 0, 16, 3, .ro, fun _ => 0⟩
/-- SC_SESS IDLEDAYS (R481). -/
def SC_SESS.IDLEDAYS : Field := ⟨.sc, 0x10, 1, 0, 19, 13, .ro, fun _ => 0⟩
/-- SC_LMSREM_ID LEFT (R481). -/
def SC_LMSREM_ID.LEFT : Field := ⟨.sc, 0x14, 1, 0, 0, 32, .ro, fun _ => 1048576⟩
/-- SC_LMSREM_SEAL LEFT (R481). -/
def SC_LMSREM_SEAL.LEFT : Field := ⟨.sc, 0x18, 1, 0, 0, 32, .ro, fun _ => 0⟩
/-- SC_ALMCNT COUNT (R481). -/
def SC_ALMCNT.COUNT : Field := ⟨.sc, 0x1C, 1, 0, 0, 32, .ro, fun _ => 0⟩
/-- SC_OWNSEQ SEQ (R481). -/
def SC_OWNSEQ.SEQ : Field := ⟨.sc, 0x20, 1, 0, 0, 32, .ro, fun _ => 0⟩
/-- SC_ALOG CLASS (R481). -/
def SC_ALOG.CLASS : Field := ⟨.sc, 0x100, 32, 16, 0, 8, .ro, fun _ => 0⟩
/-- SC_ALOG POLICY (R481). -/
def SC_ALOG.POLICY : Field := ⟨.sc, 0x100, 32, 16, 8, 8, .ro, fun _ => 0⟩
/-- SC_ALOG LOCKED (R481). -/
def SC_ALOG.LOCKED : Field := ⟨.sc, 0x100, 32, 16, 16, 1, .ro, fun _ => 0⟩
/-- SC_ALOG ERASED (R481). -/
def SC_ALOG.ERASED : Field := ⟨.sc, 0x100, 32, 16, 17, 1, .ro, fun _ => 0⟩
/-- SC_ALOG PWRCNT (R481). -/
def SC_ALOG.PWRCNT : Field := ⟨.sc, 0x100, 32, 16, 32, 32, .ro, fun _ => 0⟩
/-- SC_ALOG TIME (R481). -/
def SC_ALOG.TIME : Field := ⟨.sc, 0x100, 32, 16, 64, 64, .ro, fun _ => 0⟩

/-- Every register field of the hw window, in address order. -/
def fields_hw : List Field :=
  [HW_ID.IFVER, HW_ID.LAYOUT, HW_STATUS.MBRDY, HW_STATUS.ACTIVE, HW_STATUS.HANDOVER,
   HW_STATUS.QFULL, HW_STATUS.JOBS, HW_EVT_PROD.PROD, HW_EVT_CONS.CONS, HW_EVT_LOST.LOST,
   HW_EVT_MASK.MASK, HW_LINK.WIDTH, HW_LINK.RATE, HW_LINK.REFLANE, HW_CMD_DB.PROD,
   HW_CMD_CONS.CONS, HW_RSP_PROD.PROD, HW_RSP_CONS.CONS, HW_CTX_STAT.STALL, HW_CTX_STAT.JOBS,
   HW_CTX_STAT.DBERR, HW_CTX_CTRL.EN, HW_CTX_CTRL.RST]

/-- Every register field of the sq window, in address order. -/
def fields_sq : List Field :=
  [SQ_STATE.STATE, SQ_STATE.CAUSE, SQ_STATE.HALTPEND, SQ_STATE.QSPAN, SQ_STATE.CHIPS,
   SQ_DLAT.D, SQ_PMIN.PMIN, SQ_CTRL.HALTREQ, SQ_IA.IA, SQ_VA.VA,
   SQ_COND.SFAIL, SQ_COND.SPASS, SQ_COND.ANYM, SQ_COND.ALLM, SQ_COND.SFM,
   SQ_COND.TRIG, SQ_COND.XTRIG, SQ_COND.SUPMON, SQ_COND.RF, SQ_QDEPTH.DEPTH,
   SQ_BARMEM.MEMBER, SQ_BARSTAT.BAR, SQ_BARSTAT.WAITING, SQ_RBARMEM.MEMBER, SQ_RBARSTAT.BAR,
   SQ_RBARSTAT.WAITING, SQ_CHMAP.MAP, SQ_RUNT.T, SQ_HALTCODE.CODE, SQ_INSTBASE.BASE,
   SQ_XSITE.POS, SQ_XSITE.HOME, SQ_XSITE.RINGOK, SQ_FLAGS.F, SQ_NEST.LDEPTH,
   SQ_NEST.SDEPTH, SQ_NEST.PENDBR, SQ_NEST.STRM, SQ_LC.COUNT, SQ_PIERR.IA,
   SQ_UCTL.COMPAT, SQ_UCTL.CUSTOK, SQ_UCTL.PATCHOK, SQ_UPATCHVER.VERSION, SQ_UERR.UADDR,
   SQ_UERR.REGION, SQ_UERR.SLICE, SQ_UERR.SCRUB, SQ_UERR.VALID, SQ_UIMGID.IMGID,
   SQ_UPC.UPC, SQ_UPC.WAITING, SQ_UPC.STALL, SQ_UROMID.ROMID, SQ_ULOAD.REASON,
   SQ_ULOAD.UADDR, SQ_UBND.BOUND, SQ_SRBASE.BASE, SQ_SRSIZE.FRAMES, SQ_SRFLEN.FLEN,
   SQ_SRWR.WR, SQ_SRRD.RD, SQ_SRSTAT.OPEN, SQ_SRSTAT.POLICY, SQ_SRSTAT.STALE,
   SQ_SRSTAT.UR, SQ_SRSTAT.MISMATCH, SQ_SRSTAT.INPAD, SQ_SRSTAT.EPISODES, SQ_SRPAD.PAD,
   SQ_FLBASE.BASE, SQ_FLSIZE.SIZE, SQ_FLCTL.EN, SQ_FLCTL.WRAP, SQ_FLWR.WR,
   SQ_FLRD.RD, SQ_FLDROP.DROP, SQ_SUPCFG.ENA, SQ_SUPCFG.POL, SQ_SUPCFG.FILT,
   SQ_SUPSTAT.LATCH, SQ_SUPSTAT.LIVE, SQ_DISP.UADDR, SQ_DISP.VALID, SQ_DISP.PAR,
   SQ_MATCH.ROMADDR, SQ_MATCH.EN, SQ_MATCH.PAR, SQ_PATCH.WORD, SQ_CUST.WORD]

/-- Every register field of the ch window, in address order. -/
def fields_ch : List Field :=
  [CH_FACETSEL.PLAY, CH_FACETSEL.INPAD, CH_FVALID.DEF, CH_ENTIME.ENON, CH_ENTIME.ENOFF,
   CH_BURSTCFG.BOFF, CH_BURSTCFG.BSTRB, CH_PELIVE.DRV, CH_PELIVE.EN, CH_PELIVE.CH,
   CH_PELIVE.CL, CH_CMSMASK.MEMBER, CH_FRCFG.LIMIT, CH_FCNT.COUNT, CH_FFVA.VA,
   CH_FFVA.VALID, CH_MCNT.COUNT, CH_ILLCNT.COUNT, CH_WINSTAT.OPEN, CH_WINSTAT.STRAY,
   CH_WINSTAT.ABAND, CH_FRCNT.PROD, CH_FRCNT.DROP, CH_STRMBASE.BASE, CH_STRMCFG.WIDTH,
   CH_STRMCFG.VALID, CH_STRMSTAT.FILL, CH_STRMSTAT.BTB0, CH_STRMSTAT.BTB1, CH_STRMSTAT.LACK,
   CH_LBSTAT.COUNT, CH_LBSTAT.REC, CH_LBSTAT.REPLAY, CH_TIASTAT.OWNER, CH_TIASTAT.STATE,
   CH_TIASTAT.DEPTH, CH_TIASTAT.REMAIN, CH_TIASKIP.SKIP, CH_TIALOST.LOST, CH_TIAMISS.MISS,
   CH_TIACAL.R1, CH_TIACAL.R2, CH_CALSTAT.VALID, CH_CALSTAT.DUE, CH_CALSTAT.SLEW,
   CH_CALSTAT.STANDIN, CH_CALSTAT.TCAL, CH_COR.CUR, CH_COR.TGT, CH_GAIN.CUR,
   CH_GAIN.TGT, CH_FIX.FIXDRV, CH_FIX.FIXCMP]

/-- Every register field of the mirror window, in address order. -/
def fields_mirror : List Field :=
  [CH_MSTAT.MODE, CH_MSTAT.PART, CH_MSTAT.CHAN, CH_MMATCH.MATCH]

/-- Every register field of the ref window, in address order. -/
def fields_ref : List Field :=
  [CH_REFSTAT.TEMP, CH_REFSTAT.BUSY, CH_REFSTAT.QUEUE]

/-- Every register field of the gr window, in address order. -/
def fields_gr : List Field :=
  [GR_FQSTAT.DEPTH, GR_FQSTAT.PTRERR, GR_FQCTL.DRAIN, GR_FQLOST.LOST, GR_FQTRUNC.WORDS,
   GR_FQSEQ.RSEQ, GR_PECFG.SWING]

/-- Every register field of the lp window, in address order. -/
def fields_lp : List Field :=
  [LP_STAT.STATE, LP_STAT.SEG, LP_STAT.REARM, LP_STAT.OWN, LP_STAT.SPILL,
   LP_STAT.END, LP_JUMP.SEG, LP_JUMP.GO, LP_MISSED.COUNT, LP_TRIGBUSY.COUNT,
   LP_EDGELOST.COUNT, LP_MARKLOST.COUNT, LP_STORED.UNITS, LP_FIFO.BYTES]

/-- Every register field of the pz window, in address order. -/
def fields_pz : List Field :=
  [PZ_STAT.STATE, PZ_STAT.LINKED, PZ_STAT.LEVEL, PZ_STAT.QUAL, PZ_STAT.NOPLACE,
   PZ_STAT.AUTORUN, PZ_CTL.GO, PZ_CTL.STOP, PZ_TRIGCNT.COUNT, PZ_FORCED.COUNT,
   PZ_LASTT.T, PZ_LASTF.FRAC, PZ_LASTF.FORCED, PZ_OUT.TOUT, PZ_OUT.XOWN,
   PZ_OUT.XLINE, PZ_CNT.COUNT, PZ_ECLOST.COUNT]

/-- Every register field of the ca window, in address order. -/
def fields_ca : List Field :=
  [CA_CTL.AUTO, CA_CTL.THRESH, CA_SLEW.STEP, CA_SLEW.INTERVAL, CA_STAT.SEALOK,
   CA_STAT.FIXMATCH, CA_STAT.KEYLOST, CA_STAT.LOCKED, CA_STAT.DEFER, CA_SEALCNT.COUNT,
   CA_DUE.DUE, CA_GRP.PHASE, CA_GRP.CHAN, CA_GRP.TEMP]

/-- Every register field of the sy window, in address order. -/
def fields_sy : List Field :=
  [SY_STAT.RINGUP, SY_STAT.WRAP, SY_STAT.ALIGNED, SY_STAT.DRIFT, SY_STAT.SYNCARM,
   SY_STAT.SYNCSEEN, SY_STAT.COLLBUSY, SY_CFG.CHIP_ID, SY_CFG.N, SY_CFG.EN,
   SY_CFG.ASYM, SY_VER.MINV, SY_VER.MAXV, SY_VER.CURV, SY_ADJ.ADJ,
   SY_TT.T, SY_LINK.EUP, SY_LINK.WUP, SY_LINK.EWRAP, SY_LINK.WWRAP,
   SY_LINK.EFENCE, SY_LINK.WFENCE, SY_RF.RF, SY_RFCTL.SET, SY_RFCTL.CLR,
   SY_RBAR.PEND, SY_FRERR.DISCARD, SY_FRERR.RESEND, SY_INBOX.DEPTH, SY_INBOX.HEAD,
   SY_INBOX.POP, SY_INBOXLOST.LOST]

/-- Every register field of the pm window, in address order. -/
def fields_pm : List Field :=
  [PM_CTL.CLRRUN, PM_CTL.DUMPEN, PM_CTL.WRAP, PM_CTL.INTERVAL, PM_SEL.SEL,
   PM_SAT.CNT, PM_SAT.SLOTS, PM_SLOTS.COUNT, PM_CNT.COUNT, PM_DBASE.BASE,
   PM_DSIZE.SIZE, PM_DWR.WR, PM_DRD.RD, PM_DSEQ.K, PM_DDROP.DROP]

/-- Every register field of the hl window, in address order. -/
def fields_hl : List Field :=
  [HL_STAT.STAGE, HL_STAT.WIDTH, HL_STAT.RATE, HL_STAT.REFLANE, HL_STAT.SCAN,
   HL_CTL.REFPREF, HL_FENCE.FENCED, HL_ERR.RESEND, HL_ERR.RETRAIN, HL_ERR.BADFRM,
   HL_MARKS.GAPS, HL_PEER.MAXRATE, HL_PEER.REQRATE, HL_PEER.LANES, HL_LnCTL.SLIP,
   HL_LnCTL.SYMLOCK, HL_LnCTL.CCLR, HL_LnSTAT.DET, HL_LnSTAT.BITLOCK, HL_LnSTAT.DESKEW,
   HL_LnSTAT.ACTIVE, HL_LnCNT.COMMA, HL_LnCNT.CODEERR, HL_LnRAW.SYM]

/-- Every register field of the ck window, in address order. -/
def fields_ck : List Field :=
  [CK_READY.READY, CK_SEL.CTLSRC, CK_SEL.REFUSED, CK_CTLDIV.DIV, CK_MON.COUNT,
   CK_MON.LOST, CK_MON.BYDET, CK_MON.HOLD, CK_MON.LOSSES, CK_OSC.TRIM,
   CK_OSC.TBUSY, CK_OSC.TRIMOK, CK_PLLSTAT.LOCK, CK_PLLSTAT.HOLD, CK_FCCTL.MEAS,
   CK_FCCTL.REF, CK_FCCTL.GO, CK_FCCTL.DONE, CK_FCCTL.NREADY, CK_FCGATE.G,
   CK_FCRES.COUNT, CK_GATE.CLOSE, CK_GATESTAT.OPEN, CK_GATESTAT.PENDING, CK_GATESTAT.FORCED,
   CK_GATESTAT.REFUSED, CK_RSTCAUSE.KIND, CK_RSTCAUSE.PIN, CK_RSTCAUSE.CMD, CK_RSTCAUSE.HOLD,
   CK_RSTCAUSE.RECOV, CK_STRAP.OSCDLY, CK_STRAP.BOOT, CK_STRAP.TEST, CK_STRAP.CHIPID]

/-- Every register field of the mc window, in address order. -/
def fields_mc : List Field :=
  [MC_STAT.TEMP0, MC_STAT.TEMP1, MC_STAT.NFENCED, MC_NREF.LOG2P, MC_SCRUB.PASSTIME,
   MC_SCRUB.UEVALID, MC_SCRUBADDR.ADDR, MC_PORT.RATE, MC_PORT.GCAP, MC_PORT.BURST,
   MC_PC.FENCED, MC_PC.INORD, MC_PC.SWEEP, MC_PC.CODE, MC_PC.INORDCNT,
   MC_ECC.CORR, MC_ECC.UNCORR, MC_SPREP.SPARE, MC_SPREP.CORR, MC_SPREP.UNCORR,
   MC_CSREP.SPARE, MC_CSREP.CORR, MC_CSREP.UNCORR]

/-- Every register field of the fc window, in address order. -/
def fields_fc : List Field :=
  [FC_STAT.FEVALID, FC_STAT.COVALID, FC_STAT.MAXSEV, FC_STAT.FENCED, FC_POLICY.QUIET,
   FC_LIMIT.LIMIT, FC_DROP.COUNT, FC_SUPPR.COUNT, FC_COINCN.COUNT, FC_FE.DATA,
   FC_CO.DATA, FC_INJCTL.GO, FC_INJCTL.LOGONLY, FC_INJ.WORD, FC_UNIT.RECOV,
   FC_UNIT.FENCED, FC_UNIT.PERM, FC_UNIT.REPL, FC_UNIT.CHECK]

/-- Every register field of the sc window, in address order. -/
def fields_sc : List Field :=
  [SC_STAT.POLICY, SC_STAT.LOCKED, SC_STAT.OWNER, SC_STAT.SEALKEY, SC_STAT.SESSION,
   SC_STAT.BOOT, SC_STAT.REVOKED, SC_SVN.SVN, SC_MINSVN.MIN, SC_FWVER.ACTIVE,
   SC_FWVER.PREV, SC_SESS.RECEIVED, SC_SESS.TOTAL, SC_SESS.OPENER, SC_SESS.IDLEDAYS,
   SC_LMSREM_ID.LEFT, SC_LMSREM_SEAL.LEFT, SC_ALMCNT.COUNT, SC_OWNSEQ.SEQ, SC_ALOG.CLASS,
   SC_ALOG.POLICY, SC_ALOG.LOCKED, SC_ALOG.ERASED, SC_ALOG.PWRCNT, SC_ALOG.TIME]

/-- Every register field of the device. -/
def fieldsOf : Win → List Field
  | .hw => fields_hw | .ck => fields_ck | .fc => fields_fc | .pm => fields_pm | .hl => fields_hl
  | .sy => fields_sy | .mc => fields_mc | .sc => fields_sc | .sq => fields_sq | .ch => fields_ch
  | .mirror => fields_mirror | .ref => fields_ref | .gr => fields_gr | .lp => fields_lp
  | .pz => fields_pz | .ca => fields_ca

end Sys2Proof.Machine
end

