-- ==== Sys2Proof/Machine/Tab.lean ====
section
/-!
DEFINITION. Sparse tables in one canonical form: keys strictly rising, no entry equal to the default.
-/
namespace Sys2Proof.Machine

/-- The listed entry, if any. -/
def Tab.find {α : Type} : Tab α → Nat → Option α
  | [], _ => none
  | (k, a) :: t, i => if i = k then some a else Tab.find t i

/-- The entry, or the default. -/
def Tab.get {α : Type} (d : α) (t : Tab α) (i : Nat) : α := (Tab.find t i).getD d

/-- The table without an entry. -/
def Tab.erase {α : Type} : Tab α → Nat → Tab α
  | [], _ => []
  | (k, a) :: t, i => if i = k then Tab.erase t i else (k, a) :: Tab.erase t i

/-- The table with an entry listed. -/
def Tab.insert {α : Type} : Tab α → Nat → α → Tab α
  | [], i, v => [(i, v)]
  | (k, a) :: t, i, v =>
    if i < k then (i, v) :: (k, a) :: t
    else if i = k then (k, v) :: t
    else (k, a) :: Tab.insert t i v

/-- The table with an entry set; an entry equal to the default is not listed. -/
def Tab.set {α : Type} [DecidableEq α] (d : α) (t : Tab α) (i : Nat) (v : α) : Tab α :=
  if v = d then Tab.erase t i else Tab.insert t i v

/-- The table with an entry changed. -/
def Tab.modify {α : Type} [DecidableEq α] (d : α) (t : Tab α) (i : Nat) (f : α → α) : Tab α :=
  Tab.set d t i (f (Tab.get d t i))

/-- Keys strictly rising. -/
abbrev Tab.Sorted {α : Type} (t : Tab α) : Prop := t.Pairwise (fun a b => a.1 < b.1)

/-- The canonical form. -/
abbrev Tab.Wf {α : Type} [DecidableEq α] (d : α) (t : Tab α) : Prop :=
  Tab.Sorted t ∧ ∀ p ∈ t, p.2 ≠ d

end Sys2Proof.Machine
end

