-- ==== Sys2Proof/Machine/Mem.lean ====
section
/-!
DEFINITION. Byte memories in one canonical form.
-/
namespace Sys2Proof.Machine

/-- Addresses `[lo, hi)` whose unlisted bytes are undefined since event number `epoch`. -/
structure Span where
  lo : Nat
  hi : Nat
  epoch : Nat
  deriving DecidableEq, Repr

/-- A byte memory: the listed bytes (addresses strictly rising, none equal to what the unlisted address reads as)
and the spans of undefined content, latest first. -/
structure Mem where
  cells : List Host.Cell := []
  spans : List Span := []
  deriving DecidableEq, Repr

/-- What an unlisted address reads as: an open byte in a span of undefined content, otherwise zero
(DESIGN CHOICE, log entry 2). -/
def Mem.unlisted (m : Mem) (a : Nat) : Byte :=
  match m.spans.find? (fun p => p.lo ≤ a && a < p.hi) with
  | some p => Config.freeByte p.epoch a
  | none => 0

/-- One byte. -/
def Mem.read (m : Mem) (a : Nat) : Byte := (Tab.find m.cells a).getD (m.unlisted a)

/-- `n` bytes from `a`. -/
def Mem.readN (m : Mem) (a : Nat) : Nat → Bytes
  | 0 => []
  | n + 1 => m.read a :: m.readN (a + 1) n

/-- Store one byte. -/
def Mem.write (m : Mem) (a : Nat) (b : Byte) : Mem :=
  { m with cells := Tab.set (m.unlisted a) m.cells a b }

/-- Store a byte string from `a` upward. -/
def Mem.writeN (m : Mem) (a : Nat) : Bytes → Mem
  | [] => m
  | b :: bs => (m.write a b).writeN (a + 1) bs

/-- Bytes `[lo, hi)` become undefined: their listed bytes go, and they read as open bytes of event `epoch`. -/
def Mem.scramble (m : Mem) (lo hi epoch : Nat) : Mem :=
  { cells := m.cells.filter (fun c => c.1 < lo || hi ≤ c.1), spans := ⟨lo, hi, epoch⟩ :: m.spans }

/-- The canonical form. -/
abbrev Mem.Wf (m : Mem) : Prop :=
  Tab.Sorted m.cells ∧ ∀ c ∈ m.cells, c.2 ≠ m.unlisted c.1

end Sys2Proof.Machine
end

