-- ==== Sys2Proof/Machine/State.lean ====
section
/-!
DEFINITION. The state of the block as plain data, its reset, and the reasons a step can stop.
-/
namespace Sys2Proof.Machine

/-! ## Sites: the sequencer's issue side (03, 04, 05) and the vector side (06, 07, 08) -/

/-- What a vector carries: where it lies, how it is judged and what it attaches (R102–R104, R112, R113). -/
structure Vec where
  va : Nat := 0
  facet : Nat := 0
  cms : Nat := 0
  capc : Nat := 0
  event : Option Nat := none
  mark : Option Nat := none
  failMark : Bool := false
  deriving DecidableEq, Repr

/-- Where a bundle's codes come from (R178, R186, R194). -/
inductive Source where
  | stored | ring | held
  deriving DecidableEq, Repr

/-- A condition of Table 4-4 with NEG and INDEX (R121). -/
structure Cond where
  cls : Nat
  neg : Bool
  idx : Nat
  deriving DecidableEq, Repr

/-- An entry of the issue queue. `head` describes the next vector; its attributes of the first vector clear as it plays.
`inherit` marks a target-head bundle that takes the Facet in force at the branch point (R127); `dlv` is the tick at which
the bundle was delivered to the engines. -/
inductive Item where
  | bundle (src : Source) (n : Nat) (head : Vec) (inherit : Bool) (dlv : Option Nat)
  | replay (lo hi times pos : Nat) (dlv : Option Nat)
  | recStart
  | recEnd
  | matchLoop (cond : Cond) (first len max : Nat) (hit dlv : Option Nat)
  | waitx (cond : Cond) (first bound : Nat) (hit : Option Nat) (head : Vec) (dlv : Option Nat)
  | sync (ring : Bool) (bar timeout : Nat) (release : Option Nat)
  | sectionEnd
  | sectionStart (tol : Bool)
  | halt (code : Nat) (err : Option Nat)
  deriving DecidableEq, Repr

/-- An open loop: the recorded IA and VA, whether it is buffered, and the vectors issued when it opened (R114, R116).
`recFrom` is the entry index of its first iteration in the recording in progress (R185). -/
structure LoopFrame where
  ia : Nat
  va : Nat
  buffered : Bool
  starter : Bool
  recFrom : Nat
  deriving DecidableEq, Repr

/-- A call stack entry (R118). -/
structure CallFrame where
  ia : Nat
  va : Nat
  depth : Nat
  deriving DecidableEq, Repr

/-- PIs, bundles and discontinuities of a pre-executed head, counted once its path is chosen (R125, R368). -/
structure HeadCounts where
  pis : Nat := 0
  bundles : Nat := 0
  discs : Nat := 0
  deriving DecidableEq, Repr

/-- A pending reduction-class BRC (R122–R127): reference vector, condition, the loop depth at the BRC and the
pre-executed target head with the sequencer state behind it, the attributes that its last PIs leave for the next vector
(R104, R112) among it. -/
structure PendingBrc where
  ref : Nat
  cond : Cond
  depth : Nat
  calls : Nat
  target : List Item
  targetIa : Nat
  targetVa : Nat
  targetFacet : Option Nat
  targetIssued : Nat
  targetPis : Nat
  targetNext : Vec := {}
  deriving DecidableEq, Repr

/-- A MATCH whose body is being issued (R130). -/
structure MatchBody where
  cond : Cond
  len : Nat
  max : Nat
  from_ : Nat
  hit : Option Nat := none
  deriving DecidableEq, Repr

/-- A ring frame's header as the sequencer checks it (R195). -/
structure RingFrame where
  va : Nat
  count : Nat
  last : Bool
  deriving DecidableEq, Repr

/-- The loaded pattern: D, fetch margin in ns, PI and vector counts, streamed spans, and whether it uses customer RAM
(R143, R144, R170, R175). -/
structure Pattern where
  d : Nat := 0
  fmargin : Int := 0
  npi : Nat := 0
  ns : Nat := 0
  spans : List (Nat × Nat) := []
  usesCust : Bool := false
  deriving DecidableEq, Repr

/-- What the last cycle of the site was, for Loupe and Prism (R84, R104, R112). -/
structure CycleInfo where
  start : Nat := 0
  pad : Bool := true
  vec : Vec := {}
  cond : Nat := 0
  deriving DecidableEq, Repr

/-- What Loupe and Prism see of a site from a tick on: the tick is the first of a cycle, the cycle is a pad cycle, the
capture qualifier, and SFAIL of the last judged vector (Tables 10-1, 11-2). -/
structure Show where
  from_ : Nat
  first : Bool
  pad : Bool
  qual : Bool
  sfail : Bool
  deriving DecidableEq, Repr

/-- Periodic work (R374): the start of its first interval, the number of the next instance, the instant of the last one and
the time at which that was finished. -/
structure Periodic where
  t0 : Nat := 0
  k : Nat := 1
  prev : Nat := 0
  done : Nat := 0
  deriving DecidableEq, Repr

/-- A sampled dump whose write into the ring in force at its sampling ends at tick `finish` (R372–R375). -/
structure DumpRec where
  finish : Nat
  base : Nat
  size : Nat
  data : Bytes
  deriving DecidableEq, Repr

/-- A CMS_WRITE staged in the channels of a RUNNING site (R232): its job, the set and the new bitmap. -/
structure CmsStage where
  job : Nat
  cms : Nat
  map : Nat
  deriving DecidableEq, Repr

/-- A vote word that waits at the home chip for the other side's (R358): its vector, its bits C, F, A, M, and whether it
came in at the east port. -/
structure Vote where
  v : Nat
  word : Nat
  east : Bool
  deriving DecidableEq, Repr

/-- One site: the sequencer and the site's vector play. `fresh` is the condition word of the newest vector while its ring
flags are still to be sampled (R83), `playedEnd` the VA behind the last stored vector played (R183). On a cross-chip site
`own` holds this chip's own condition word and fail mark of each vector in `hist`, newest first. `ia` is the PI in progress; `stallCond` and `stallExp` are C' of a
stalled customer word and whether its wait expired (R151, R155); `closing` tells that only the replay bundle of a MATCH is
still stalled; `xopIssued` that the customer routine has issued a bundle. `draining` tells that after a machine check the
vector side has not yet stopped (R172); `leftTime` when the site last left RUNNING, `leftFrom` the in-chip barrier it had
arrived at then, or 16 more than the ring barrier (R98, R352). `dump` is the schedule of the run's dumps, `dumps` those whose
write has not ended, `ticksTo` the tick up to which event 0x14 of Table 14-2 has been counted. `badRegions` lists the control-store regions with an error since their last load, `mcRegion` the
region of the machine check (R172, R173). -/
structure Seq where
  u : Tab Nat := []
  zf : Bool := false
  cf : Bool := false
  nf : Bool := false
  mstack : List Nat := []
  pi : Nat := 0
  ia : Nat := 0
  inRoutine : Bool := false
  waited : Nat := 0
  stall : Option Nat := none
  stallCond : Bool := false
  stallExp : Bool := false
  closing : Bool := false
  xopIssued : Bool := false
  facet : Nat := 0
  next : Vec := {}
  issued : Nat := 0
  lastVa : Option Nat := none
  runEnd : Option Nat := none
  heldRuns : List (Nat × Nat) := []
  loops : List LoopFrame := []
  calls : List CallFrame := []
  queue : List Item := []
  recBase : Option Nat := none
  brc : Option PendingBrc := none
  body : Option MatchBody := none
  gate : Bool := false
  headCount : Nat := 0
  headHeld : HeadCounts := {}
  ended : Bool := false
  section_ : Bool := false
  tol : Bool := false
  facetsAtRun : Nat := 0
  pat : Pattern := {}
  started : Bool := false
  cyc : Nat := 0
  vk : Nat := 0
  played : Bool := false
  lastVec : Vec := {}
  hist : List (Option Nat) := []
  own : List (Nat × Bool) := []
  votes : List Vote := []
  sfm : Bool := false
  sfailRun : Bool := false
  frames : List RingFrame := []
  rpos : Nat := 0
  lastSeen : Bool := false
  secRing : Bool := false
  episode : Bool := false
  recording : Bool := false
  attrs : List Vec := []
  fresh : Option Nat := none
  playedEnd : Option Nat := none
  capQual : Bool := false
  lost : Bool := false
  haltAt : Nat := 0
  haltTick : Nat := 0
  vecEnd : Bool := false
  draining : Bool := false
  cmsStage : List CmsStage := []
  arrived : Bool := false
  barTime : Nat := 0
  leftTime : Nat := 0
  leftFrom : Option Nat := none
  waitBarrier : Bool := false
  lastCycle : CycleInfo := {}
  shows : List Show := []
  dump : Periodic := {}
  dumps : List DumpRec := []
  ticksTo : Nat := 0
  hiLatch : Tab Nat := []
  faulty : Tab Nat := []
  badRegions : List Nat := []
  mcRegion : Option Nat := none
  deriving DecidableEq, Repr

/-! ## Channel engines, Mirrors and REF channels (06, 07, 08) -/

/-- A Facet of a channel (R201): positions in steps, the waveform table as its 16 entry words. -/
structure Facet where
  period : Nat := 0
  burst : Bool := false
  bdir : Nat := 0
  padsel : Nat := 0
  en : Nat := 0
  de : List Nat := [0, 0, 0, 0]
  ce : List Nat := [0, 0, 0, 0]
  table : List Nat := List.replicate 16 0
  deriving DecidableEq, Repr

/-- A granule request: the buffer it is for (0 the stream buffer, 1 and 2 the branch-target entries), the first VA, the
number of codes, and its number among the requests of the group (R178, R179, R183). -/
structure GranReq where
  dst : Nat
  va : Nat
  n : Nat
  no : Nat := 0
  deriving DecidableEq, Repr

/-- A code in a stream buffer: its VA (0 for a ring code), the code, and the tick at which it came in (R180). -/
structure Code where
  va : Nat
  code : Nat
  at_ : Nat
  deriving DecidableEq, Repr

/-- A branch-target buffer entry: the VA of its first code, the codes, and how many have not come in (R183). -/
structure BtbEntry where
  va : Nat
  codes : List Code
  left : Nat
  deriving DecidableEq, Repr

/-- A change of one output line at an instant in half steps: a burst slot is 312.5 steps long (R211, R219). -/
structure Edge where
  time : Int
  level : Bool
  deriving DecidableEq, Repr

/-- What the load stage loads into an edge generator (R211, R310): the path of Table 12-1, the tick counter, and the
fine-delay code with the path's correction, scaled by the gain, in 1/131,072 of a step. -/
structure Load where
  path : Nat
  tick : Int
  fine : Int
  deriving DecidableEq, Repr

/-- An open compare window (R226, R227, R234): the levels of PE_CH and PE_CL at its opening, and for how many steps each has
been away from that level at the end of the last cycle. -/
structure Window where
  bad : Bool
  changed : Bool
  cycles : Nat
  pad : Bool
  refH : Bool := false
  refL : Bool := false
  awayH : Option Nat := none
  awayL : Option Nat := none
  deriving DecidableEq, Repr

/-- A write that reached a channel while it was being measured: it applies when the channel returns to the pad (R317). -/
inductive HeldWrite where
  | timing (k : Nat) (f : Facet)
  | table (k : Nat) (ws : List Nat)
  | cms (k : Nat) (member : Bool)
  | bind
  | unbind
  deriving DecidableEq, Repr

/-- One channel engine, Mirror or REF channel, by unit ID (R14, R33). `facetLog` lists the Facets replaced of late, newest
first: tick, index and what the Facet held before (Table 1-3, R208); `pending` holds records with the CK_SEQ cycle in which
they entered (R235), `failLog` the ends in steps of the last failing cycles and the count before each, newest first (R356),
`loads` what the last cycle loaded, `held` the writes of R317. -/
structure Chan where
  facets : Tab Facet := []
  facetLog : List (Nat × Nat × Facet) := []
  failLog : List (Nat × Nat) := []
  fifo : List Code := []
  reqs : List GranReq := []
  walk : List (Nat × Nat) := []
  cand : List (Nat × BtbEntry) := []
  source : Option BtbEntry := none
  ringCodes : List Code := []
  ringRead : Nat := 0
  loopBuf : List Nat := []
  lastCode : Nat := 0
  enCmd : Bool := false
  enQ : List Edge := []
  drvEdges : List Edge := []
  enEdges : List Edge := []
  loads : List Load := []
  win : Option Window := none
  pending : List (Nat × Bytes) := []
  forced : Bool := false
  held : List HeldWrite := []
  deriving DecidableEq, Repr

/-- A transfer on a group's PE control bus (R63, R492): the chip select that is low for it, T in cycles of CK_CTL, and the
bits that PE_MOSI presents, first bit in bit 7 of byte 0. -/
structure PeTransfer where
  cs : Nat
  div : Nat
  count : Nat
  sent : Bytes
  deriving DecidableEq, Repr

/-- A group's fail record queue (R235–R241): the complete records; those whose four words are being written, header at
tick `movedAt`; whose turn it is among the pending buffers; SUPMON records that wait; the number of the next granule
request (R179); and the last transfer on the PE control bus. -/
structure Group where
  records : List Bytes := []
  turn : Nat := 0
  supPending : List (Nat × Bytes) := []
  nextReq : Nat := 0
  moving : List Bytes := []
  movedAt : Nat := 0
  pe : Option PeTransfer := none
  deriving DecidableEq, Repr

/-! ## Mailbox, jobs and host link (02, 15) -/

/-- A consumed command not yet finally answered: its descriptor and the tester time of the doorbell that first covered
it (R51, R61, TIME_GET). -/
structure Consumed where
  op : Nat
  d : Desc
  dbTime : Nat
  seqNo : Nat
  deriving DecidableEq, Repr

/-- A job of the job engine (R46, R55): JOBID, start and its tick, payload received so far (by request), stop time of
R42. -/
structure Job where
  cmd : Consumed
  id : Nat
  started : Bool := false
  since : Nat := 0
  deferred : Bool := false
  data : Tab Bytes := []
  want : Nat := 0
  worker : Option Nat := none
  abort : Bool := false
  deriving DecidableEq, Repr

/-- An outstanding DMARD (R387): its tag, its job, and the payload offset and length it asks for. -/
structure DmaReq where
  tag : Nat
  job : Nat
  off : Nat
  len : Nat
  deriving DecidableEq, Repr

/-- A frame the device sends (R385): type, FSEQ, tag, payload and the tick of the TXTS it carries (none: TSV = 0). -/
structure TxFrame where
  type : Nat
  fseq : Nat
  tag : Nat
  payload : Bytes
  txts : Option Nat
  deriving DecidableEq, Repr

/-- The mailbox (R39–R61). -/
structure Mailbox where
  visit : Nat := 0
  imm : List Consumed := []
  jobs : List Job := []
  reqs : List DmaReq := []
  doorbells : List (Nat × Nat × Nat) := []
  replay : List Nat := []
  stopAt : Tab Nat := []
  evtSeq : Nat := 0
  evtOver : Bool := false
  flowSeq : Nat := 0
  deriving DecidableEq, Repr

/-- The host link (R376–R394): `lanesIn` the lanes that take part in the bring-up, retrain or rate step (bit l = lane l),
`locking` its LOCK part has begun, `fresh` FSEQ counts from 0 at the next ACTIVE (R390), `capsIn` a valid CAPS frame has
arrived, `chosen` the rate of R384, `newRate` the rate of a rate step, `resends` the resends without progress (R391). -/
structure Link where
  txSeq : Nat := 0
  rxSeq : Nat := 0
  unacked : List TxFrame := []
  waiting : List TxFrame := []
  lastControl : Option TxFrame := none
  resends : Nat := 0
  lanesIn : Nat := 0
  locking : Bool := false
  fresh : Bool := true
  capsIn : Bool := false
  chosen : Nat := 0
  newRate : Nat := 0
  deriving DecidableEq, Repr

/-! ## Measurement units (09) -/

/-- A measurement unit (R250–R262): the parameters of the last TIA_ARM (R254), the measurement in progress and the
result buffer (R260). Instants are absolute, in frac. -/
structure Tia where
  mode : Nat := 0
  start : Nat := 0
  sedge : Nat := 0
  pedge : Nat := 0
  nstop : Nat := 0
  holdoff : Nat := 0
  event : Nat := 0
  timeout : Nat := 0
  stime : Nat := 0
  gate : Nat := 0
  chan : Nat := 0
  endless : Bool := false
  armedAt : Nat := 0
  calAt : Nat := 0
  startAt : Option Nat := none
  values : List Int := []
  dirs : Nat := 0
  count : Nat := 0
  skipped : Nat := 0
  lastEdge : Option Nat := none
  lastStamp : Nat := 0
  ch : Bool := false
  cl : Bool := false
  sawHigh : Bool := false
  sawLow : Bool := false
  rseq : Nat := 0
  records : List Bytes := []
  busy : List Nat := [0, 0, 0, 0]
  deriving DecidableEq, Repr

/-! ## Loupe (10) -/

/-- A stored unit: its record kind (Table 10-3; 0x800 for a plain state row), its instant in frac, the tag's DIR, the
repeat count of a compressed row, and what follows the tag. -/
structure LUnit where
  kind : Nat
  time : Nat
  dir : Bool := false
  rep : Nat := 1
  body : Bytes := []
  deriving DecidableEq, Repr

/-- A segment (Table 10-8). `rebase` is the time that the tags being written count from (R272). -/
structure Segment where
  st : Nat := 0
  flags : Nat := 0
  trigT : Nat := 0
  trigF : Nat := 0
  preact : Nat := 0
  postact : Nat := 0
  passed : Nat := 0
  rebase : Nat := 0
  pre : List LUnit := []
  post : List LUnit := []
  deriving DecidableEq, Repr

/-- A loss that a GAP record will report (R270, R285, R286). -/
structure Gap where
  chan : Nat
  all : Bool
  start : Nat
  stop : Option Nat
  count : Nat
  deriving DecidableEq, Repr

/-- The capture configuration (Table 10-4). -/
structure LoupeCfg where
  mode : Nat := 0
  comp : Bool := false
  nseg : Nat := 1
  qsrc : Nat := 0
  div : Nat := 1
  soff : Nat := 0
  qsite : Nat := 0
  qedge : Nat := 0
  qch : Nat := 0
  pre : Nat := 0
  post : Nat := 1
  probes : List Nat := []
  extents : List (Nat × Nat) := []
  signals : List Nat := []
  deriving DecidableEq, Repr

/-- Loupe (R266–R290). `rearmAt` is the start of the last re-arm window, `rearms` the starts of all, newest first; `buf` the
records in the groups' buffers, `gaps` the losses not yet reported, `held` the units whose interpolators the capture holds,
`qstamps` the accepted QEDGE edges whose rows are not yet stored, `lastEdge` the last accepted edge of each listed line,
`calLost` the edges lost while calibration had a unit. -/
structure Loupe where
  cfg : LoupeCfg := {}
  armT : Nat := 0
  rearmAt : Nat := 0
  segs : Tab Segment := []
  jump : Option Nat := none
  buf : List LUnit := []
  gaps : List Gap := []
  marks : List Bytes := []
  held : List Nat := []
  drained : Nat := 0
  nextExtent : Nat := 0
  filled : List Nat := []
  qstamps : List Nat := []
  rearms : List Nat := []
  lastEdge : Tab Nat := []
  calLost : Tab Nat := []
  deriving DecidableEq, Repr

/-! ## Prism (11) -/

/-- A resource that is 1 in the aligned ticks `[from_, till)` (Table 11-2). -/
structure PzPulse where
  code : Nat
  from_ : Nat
  till : Nat
  deriving DecidableEq, Repr

/-- An edge comparator (R299, R300): its lines, the last stamped crossing, the last leaving of each extreme, the last
complete swing, the last event's instant, and the aligned ticks and placements of the last events, newest first. -/
structure EdgeComp where
  ch : Bool := false
  cl : Bool := false
  last : Option Nat := none
  extreme : Nat := 0
  left : Option Nat := none
  pulse : Option Nat := none
  lastEvent : Option Nat := none
  placed : List (Nat × Nat) := []
  deriving DecidableEq, Repr

/-- A trigger on its way to Loupe and the measurement units (R302, R303). -/
structure PzTrigger where
  time : Nat
  forced : Bool
  ring : Bool
  deriving DecidableEq, Repr

/-- Prism (R291–R309). `aligned` is the next aligned tick, `restart` the closes that restart it, `pulses` the resources that
are 1 for a time, `sig` the level of the tick before, `ringTrig` the arrivals and instants of the last ring triggers, newest
first; `lastIssue` the real tick of the last trigger, `ends` when pulsed outputs go idle, `autoEnd` when the auto timer
expires, `stopAt` the aligned tick at whose end Prism stops, `xownLog` the last changes of PZ_OUT.XOWN, newest first: the tick
and the value before. -/
structure Prism where
  prog : Bytes := []
  aligned : Nat := 0
  start : Bool := false
  restart : List Nat := []
  pulses : List PzPulse := []
  prevMatch : List Bool := []
  seen : Bool := false
  sig : Nat := 0
  ecs : Tab EdgeComp := []
  trigs : List PzTrigger := []
  ringTrig : List (Nat × Nat) := []
  lastIssue : Option Nat := none
  stopAt : Option Nat := none
  xownLog : List (Nat × Nat) := []
  ends : Tab Nat := []
  autoEnd : Option Nat := none
  deriving DecidableEq, Repr

/-! ## Calibration (12) -/

/-- Calibration of one group (R311–R324): the channels asked for; for the channel in calibration whether it goes through
the Mirror, its stage (0 none, 1 copy, 2 shadow and match, 3 matched, 4 measuring or waiting for the REF, 5 copy back,
6 shadowing again), when the stage began, whether the freed channel shadows again and for how many cycles the shadowing
engine has played, and who owned the interpolators; the channel that waits for a measurement or a capture to end; the
channels calibrated since CAL_DONE; deferred channels; whether TEMP_STEP was written; the threshold of the last temperature
reading (R316); whether the calibration is given up while the Mirror stands in, and the fenced channel that the Mirror
then replaces (R443). -/
structure CalGroup where
  wanted : List Nat := []
  mirror : Bool := false
  stage : Nat := 0
  since : Nat := 0
  back : Bool := false
  cycles : Nat := 0
  owner : Nat := 0
  waiting : Option Nat := none
  preempted : Bool := false
  count : Nat := 0
  deferred : List Nat := []
  stepped : Bool := false
  thresh : Nat := 8
  release : Bool := false
  replace : Option Nat := none
  deriving DecidableEq, Repr

/-- A CAL_RUN job in progress (R315). -/
structure CalJob where
  job : Nat
  left : List Nat
  done : Nat
  deferred : Nat
  deriving DecidableEq, Repr

/-- A RUN job that waits for a measurement or a COLLIMATE: its job, its site, and the Facets defined when RUN was served
(R215, R317, R349). -/
structure RunWait where
  job : Nat
  site : Nat
  facets : Nat
  deriving DecidableEq, Repr

/-- The calibration controller. `record` is the sealed record in force, `older` the other copy (R333–R336); `applied` the
corrections that REF channels and Mirrors apply and `goal` what their tables ask for, 8 per unit (R325, R326);
`resealed` the channels due by a seal write (R313); `sensors` the 24 temperature readings. -/
structure Cal where
  groups : Tab CalGroup := []
  jobs : List CalJob := []
  refQ : Tab (List Nat) := []
  record : Option Bytes := none
  older : Option Bytes := none
  applied : Tab Int := []
  goal : Tab Int := []
  resealed : List Nat := []
  sensors : Tab Nat := []
  waiters : List RunWait := []
  deriving DecidableEq, Repr

/-! ## Faults and memory (17, 18) -/

/-- The collector beside its registers: when the quiet time of each unit that a fault message has named ends (R449), when
a source and kind last became an event (R448), when each unit was unfenced (R450), whether a DEVICE_CRITICAL fault was
taken (R441), and the sequencers fenced for a mask ROM error (R450). -/
structure Collector where
  quiet : Tab Nat := []
  repeats : Tab Nat := []
  unfenced : Tab (List Nat) := []
  critical : Bool := false
  romFault : List Nat := []
  deriving DecidableEq, Repr

/-- An allocation (R70): handle, base and size. -/
structure Alloc where
  handle : Nat
  base : Nat
  size : Nat
  deriving DecidableEq, Repr

/-- The memory controllers beside their registers: allocations, the temperature of each pseudo-channel's last sweep (°C,
16 bits signed), recent errors by pseudo-channel, the last CORRECTED report, the delay code that firmware wants, which
fenced pseudo-channels have passed a sweep since, the pseudo-channels whose sweep waits for another of the group (R426), and
when the scrub pass began. -/
structure MemCtl where
  allocs : List Alloc := []
  nextHandle : Nat := 1
  sweepTemp : Tab Nat := []
  burst : Tab (List Nat) := []
  lastCorr : Tab Nat := []
  wantCode : Tab Nat := []
  swept : List Nat := []
  sweepDue : List Nat := []
  scrubStart : Nat := 0
  deriving DecidableEq, Repr

/-! ## The sync ring (13) -/

/-- A frame this chip has launched and that has not returned: TYPE, payload, launch time, resends (R346), and the ring words as
they left (R344). -/
structure RingSent where
  type : Nat
  payload : Bytes
  launched : Nat
  resends : Nat := 0
  words : Bytes := []
  deriving DecidableEq, Repr

/-- A FLAGS frame in wait of its apply time (R354). -/
structure RingFlags where
  time : Nat
  origin : Nat
  set : Nat
  clr : Nat
  deriving DecidableEq, Repr

/-- A TIMED_FRAME job in wait of its launch (R361). -/
structure TimedWait where
  job : Nat
  time : Nat
  data : Bytes
  deriving DecidableEq, Repr

/-- A cross-chip site entry of RING_CONFIG (Table 13-9): span (0: none), position, home position, P_min. -/
structure XSite where
  k : Nat := 0
  pos : Nat := 0
  home : Nat := 0
  pmin : Nat := 0
  deriving DecidableEq, Repr

/-- A frame of another chip already acted on (R346): TYPE, ORIGIN, what it names, and the tick of its arrival. -/
structure RingActed where
  type : Nat
  origin : Nat
  key : List Nat
  at_ : Nat
  deriving DecidableEq, Repr

/-- The sync ring (R339–R364). Barriers are numbered 0–15 for RB0–RB15, 64 + s for the start barrier of site s, 128 for
the test barrier. `held` gives one more than the ORIGIN of a GATHER held here (this chip's own before it has arrived),
`passed` the barriers whose GATHER has gone on since the last release, `part` the members that this instance counts,
`release` one more than T_r; `acted` the frames already acted on (R346); `collate` the COLLIMATE job of chip 0, `collecting`
that this chip makes its 4,096 exchanges, with the number made and the sums of their doubled offsets and delays (in frac),
`collAt` when RUN began to wait; `asked` the departure of the last TIMECHECK request in frac; `base` the sum of 4,096 doubled
offsets at the last COLLIMATE in 1/1,250 frac, `exchanges` the doubled offsets of R350 in frac, `checks` their schedule;
`fwdDiscover` and `fwdCollect` the last frames that went on with this chip's own part added; `syncLow` the consecutive edges at
which SYNC_IN was low, `zeroAt` the tick at which tester time reads 0 again (R347). `started` lists the sites that have arrived at their start barrier, `syncOut` the SYNCOUT of SYNC_ARM,
`outUntil` the tick until which SYNC_OUT is high. `rfLog` lists the last changes of the ring flags, newest first: the tick,
and the flags before. -/
structure Ring where
  sent : List RingSent := []
  acted : List RingActed := []
  held : Tab Nat := []
  passed : List Nat := []
  part : Tab (List Nat) := []
  release : Tab Nat := []
  flags : List RingFlags := []
  snap : Option (Nat × Nat) := none
  snapJobs : List Nat := []
  image : Option Bytes := none
  timed : List TimedWait := []
  inbox : List Bytes := []
  inboxHead : Nat := 0
  discover : Option Nat := none
  entries : Tab XSite := []
  reset : Option Nat := none
  collate : Option Nat := none
  collecting : Bool := false
  collN : Nat := 0
  collSum : Int := 0
  collDelay : Int := 0
  asked : Nat := 0
  checks : Periodic := {}
  fwdDiscover : Option Discover := none
  fwdCollect : Option Collect := none
  syncLow : Nat := 0
  zeroAt : Option Nat := none
  collAt : Nat := 0
  base : Option Int := none
  exchanges : List Int := []
  rfLog : List (Nat × Nat) := []
  syncOut : Bool := false
  outUntil : Nat := 0
  started : List Nat := []
  deriving DecidableEq, Repr

/-! ## Clocks and reset (16) -/

/-- Clocks and reset beside their registers: islands whose close waits (R407), a frequency count in progress (R405),
whether CK_REF has been ready since the last reset (R399), a loss event held back by CLOCK_HOLD (R401), the last
completed boot step of Table 16-4 (0 before PWR_GOOD, 12 in service), a trim run that restarts at the next frame mark, the
schedule of the trim runs once one has settled since ACTIVE, by age (R374, R404), and the phase of CK_SYNC against tester time, in 25ths of a tick, below 512
(R24, R25). -/
structure Clock where
  closing : Nat := 0
  counting : Bool := false
  refSeen : Bool := false
  latched : Bool := false
  boot : Nat := 0
  trimWait : Bool := false
  trim : Option Periodic := none
  syncPhase : Nat := 0
  deriving DecidableEq, Repr

/-! ## Security and update (19) -/

/-- A firmware image as its manifest describes it (Table 19-6). -/
structure Image where
  fwver : Nat := 0x0302
  svn : Nat := 0
  floor : Nat := 0
  rmin : Nat := 2
  rmax : Nat := 2
  nchunk : Nat := 1
  ilen : Nat := 1
  patchver : Nat := 0
  dig : Bytes := []
  chunks : List Bytes := []
  deriving DecidableEq, Repr

/-- The update session in MRAM (R472–R474): the manifest's image, the bitmap and the powered seconds since the session
was last named. -/
structure Session where
  img : Image
  bitmap : Nat := 0
  idle : Nat := 0
  deriving DecidableEq, Repr

/-- An activation in progress (R477): its job, and whether the standby has declared itself ready (end of step 3). -/
structure Activation where
  job : Nat
  ready : Bool := false
  deriving DecidableEq, Repr

/-- The security core beside its registers: the two image slots, session and activation; the public owner and seal keys
(97 + 56 bytes, R458); the last trip of each alarm class (R465), the next alarm log entry, the erase marker (R467), the
powered seconds stored and the power-on resets since manufacture; whether the standby restarts; whether the active image
failed its last verification. -/
structure Security where
  active : Image := {}
  prev : Option Image := none
  session : Option Session := none
  act : Option Activation := none
  slot : Mem := {}
  staging : Mem := {}
  ownerKey : Bytes := []
  sealKey : Bytes := []
  lastTrip : Tab Nat := []
  alogNext : Nat := 0
  marker : Bool := false
  powered : Nat := 0
  powerOns : Nat := 0
  standbyDown : Bool := false
  imageBad : Bool := false
  deriving DecidableEq, Repr


/-! ## The whole machine -/

/-- What the last register access from outside answered (R10, R28, R31, R35). -/
structure BusReply where
  err : Bool := false
  data : List Nat := []
  deriving DecidableEq, Repr

/-- The state of the block. Registers stand in `regs` under the keys of Machine/Regs.lean; an unlisted register holds
its power-on value. `free` counts the open values drawn so far (the model's own field), `tt` is tester time in ticks
(R25), `epoch` the ticks it had counted when it was last set to 0, `vmem` vector memory (R9), `pad` the scratchpad, `cap` capture SRAM and `win` the host window's ring memory (R39). `vpe` tells whether VPE is in
its range, `latch` whether the VAUX latch holds the PE outputs at 0 (R490). -/
structure State where
  pending : List Instr := []
  regs : Tab Nat := []
  free : Nat := 0
  tt : Nat := 0
  epoch : Nat := 0
  ttRuns : Bool := false
  bus : BusReply := {}
  ext : ExtLines := {}
  win : Mem := {}
  vmem : Mem := {}
  pad : Mem := {}
  cap : Mem := {}
  seqs : Tab Seq := []
  chans : Tab Chan := []
  groups : Tab Group := []
  mbx : Mailbox := {}
  link : Link := {}
  tias : Tab Tia := []
  loupe : Loupe := {}
  prism : Prism := {}
  cal : Cal := {}
  faults : Collector := {}
  mem : MemCtl := {}
  ring : Ring := {}
  clk : Clock := {}
  sec : Security := {}
  vpe : Bool := false
  latch : Bool := false
  deriving DecidableEq, Repr

/-- Reasons for a fault stop. -/
inductive Fault where
  /-- A microword of a customer routine asks for a function that Tables 5-3 to 5-7 mark vendor-only or Reserved, to which
  the specification gives no effect; the loader refuses such a word (R168), so only a state no load produces reaches it.
  Raised by MICROWORD, WAIT_BOUND_EXPIRY and ISSUE_STALL_END. Safe: the model stops. -/
  | vendorFunction
  /-- A customer routine has come to a micro-address in 0xC40–0xFFF, which does not exist (R146); the loader refuses a word
  that leads there (R168). Raised by MICROWORD, WAIT_BOUND_EXPIRY and ISSUE_STALL_END. Safe: the model stops. -/
  | noMicroword
  deriving DecidableEq, Repr

/-- Reasons for a refusal. -/
inductive Refusal where
  /-- A command without a meaning in this model, by its mnemonic. Raised by the dispatch only. Safe. -/
  | notModelled (mnemonic : String)
  deriving DecidableEq, Repr

/-- The block with every register at its power-on value, all queues empty and nothing written in memory (R409). -/
def State.reset : State := {}

end Sys2Proof.Machine
end

