-- ==== Sys2Proof/Machine/Ops.lean ====
section
/-!
DEFINITION. The named operations over registers, memories, units, frames and events. Everything else reads and writes
the state through them.
-/
namespace Sys2Proof.Machine

/-! ## Registers -/

/-- The value of copy `k` of a field in instance `i` of its window. -/
def State.rd (s : State) (f : Field) (i : Nat := 0) (k : Nat := 0) : Nat :=
  Tab.get (f.reset k) s.regs (f.key i k)

/-- A field set; a value wider than the field loses its upper bits. -/
def State.wr (s : State) (f : Field) (v : Nat) (i : Nat := 0) (k : Nat := 0) : State :=
  { s with regs := Tab.set (f.reset k) s.regs (f.key i k) (v % 2 ^ f.w) }

/-- A count raised by `n`; it saturates. -/
def State.inc (s : State) (f : Field) (i : Nat := 0) (k : Nat := 0) (n : Nat := 1) : State :=
  s.wr f (satAdd f.w (s.rd f i k) n) i k

/-- A count raised by one that wraps. -/
def State.bump (s : State) (f : Field) (i : Nat := 0) (k : Nat := 0) : State :=
  s.wr f (s.rd f i k + 1) i k

/-- A one-bit field as a truth value. -/
def State.on (s : State) (f : Field) (i : Nat := 0) (k : Nat := 0) : Bool := s.rd f i k == 1

/-- A one-bit field set from a truth value. -/
def State.flag (s : State) (f : Field) (b : Bool) (i : Nat := 0) (k : Nat := 0) : State := s.wr f (b2n b) i k

/-- Several fields of one instance set. -/
def State.wrs (s : State) (i : Nat) (fs : List (Field × Nat)) : State :=
  fs.foldl (fun s p => s.wr p.1 p.2 i) s

/-- Every register of the windows `p` accepts back at its power-on value. -/
def State.clearRegs (s : State) (p : Nat → Bool) : State :=
  { s with regs := s.regs.filter (fun e => !p (e.1 / 8)) }

/-- A fresh open number (State.free). -/
def State.draw (s : State) : Nat × State := (Config.freeNat s.free, { s with free := s.free + 1 })

/-- `n` open bytes. -/
def State.drawBytes (s : State) (n : Nat) : Bytes × State :=
  ((List.range n).map (Config.freeByte s.free), { s with free := s.free + 1 })

/-- CK_SYNC takes up an open phase against tester time: no phase relation is defined (R24). -/
def State.newSyncPhase (s : State) : State :=
  let (r, s) := s.draw
  { s with clk := { s.clk with syncPhase := r % 512 } }

/-- The tick count that the logic on CK_SYNC last read: it reads once per cycle, and 25 cycles span 512 ticks (R25). -/
def State.syncCount (s : State) : Nat :=
  let p := s.clk.syncPhase
  if 25 * (s.tt + 1) ≤ p then 0 else ((25 * (s.tt + 1) - 1 - p) / 512 * 512 + p) / 25

/-- Time reaches tick `t`, if it has not passed it. -/
def State.reach (s : State) (t : Nat) : State := { s with tt := max s.tt t }

/-- Ticks counted since tester time first ran, whatever has set it to 0 since: what spans of time are measured by. -/
def State.age (s : State) : Nat := s.tt + s.epoch

/-- Time goes on to age `t`, unless it is past it. -/
def State.reachAge (s : State) (t : Nat) : State := s.reach (t - s.epoch)

/-! ## Units -/

/-- Sequencer `i`. -/
def State.seq (s : State) (i : Nat) : Seq := Tab.get {} s.seqs i

/-- Sequencer `i` changed. -/
def State.modSeq (s : State) (i : Nat) (f : Seq → Seq) : State := { s with seqs := Tab.modify {} s.seqs i f }

/-- Channel engine, Mirror or REF channel by unit ID. -/
def State.chan (s : State) (i : Nat) : Chan := Tab.get {} s.chans i

/-- A channel engine changed. -/
def State.modChan (s : State) (i : Nat) (f : Chan → Chan) : State := { s with chans := Tab.modify {} s.chans i f }

/-- Group `g`. -/
def State.group (s : State) (g : Nat) : Group := Tab.get {} s.groups g

/-- A group changed. -/
def State.modGroup (s : State) (g : Nat) (f : Group → Group) : State := { s with groups := Tab.modify {} s.groups g f }

/-- The units of a list visited in order. -/
def forAll (xs : List Nat) (f : Nat → State → State) (s : State) : State := xs.foldl (fun s x => f x s) s

/-! ## Site states (Table 3-5) -/

/-- The site's state code. -/
def State.site (s : State) (i : Nat) : Nat := s.rd SQ_STATE.STATE i

def stUnbound : Nat := 0
def stIdle : Nat := 1
def stLoaded : Nat := 2
def stRunning : Nat := 3
def stHalting : Nat := 4
def stDone : Nat := 5
def stHalted : Nat := 6
def stInvalid : Nat := 7
def stMachineCheck : Nat := 8

/-- The site is RUNNING or HALTING: the lock of its window is closed. -/
def State.busySite (s : State) (i : Nat) : Bool := s.site i == stRunning || s.site i == stHalting

/-- The channels bound to a site, ascending (SQ_CHMAP). -/
def State.channels (s : State) (i : Nat) : List Nat :=
  (List.range 16).flatMap (fun w => (bitList 32 (s.rd SQ_CHMAP.MAP i w)).map (fun b => 32 * w + b))

/-- The site a channel is bound to. -/
def State.siteOf (s : State) (n : Nat) : Option Nat :=
  (List.range 64).find? (fun i => bit (s.rd SQ_CHMAP.MAP i (n / 32)) (n % 32))

/-- Group and quadrant of a channel (R16). -/
def groupOf (n : Nat) : Nat := n / 32

/-- Calibration of group `g`. -/
def State.calg (s : State) (g : Nat) : CalGroup := Tab.get {} s.cal.groups g

/-- A group's calibration changed. -/
def State.modCal (s : State) (g : Nat) (f : CalGroup → CalGroup) : State :=
  { s with cal := { s.cal with groups := Tab.modify {} s.cal.groups g f } }

/-- The group's Mirror stands in for the channel: for calibration or as a fence replacement (R229, CH_MSTAT). -/
def State.standIn (s : State) (n : Nat) : Bool :=
  2 ≤ s.rd CH_MSTAT.MODE (groupOf n) && s.rd CH_MSTAT.CHAN (groupOf n) == n

/-- The engine that drives and judges a channel's pad (R87, R229). -/
def State.padEngine (s : State) (n : Nat) : Nat := if s.standIn n then 512 + groupOf n else n

/-- The engine that only shadows a channel: its Mirror, or the channel's own engine before it takes back the pad (R318,
R321). -/
def State.shadowEngine (s : State) (n : Nat) : Option Nat :=
  let g := groupOf n
  if s.rd CH_MSTAT.MODE g = 0 ∨ s.rd CH_MSTAT.CHAN g ≠ n then none
  else if s.rd CH_MSTAT.MODE g = 1 then some (512 + g)
  else if s.rd CH_MSTAT.MODE g = 2 ∧ (s.calg g).back then some n
  else none

/-- Every engine that plays the site's vectors (R19, R180). -/
def State.engines (s : State) (i : Nat) : List Nat :=
  (s.channels i).flatMap (fun n => s.padEngine n :: (s.shadowEngine n).toList)

/-- The channel an engine plays for. -/
def State.playsFor (s : State) (e : Nat) : Nat := if e < 512 then e else s.rd CH_MSTAT.CHAN (e - 512)

/-- FIXDRV of a channel: its drive and enable transitions are this much earlier at the balls (R328). -/
def State.fixDrv (s : State) (n : Nat) : Int := sgn CH_FIX.FIXDRV.w (s.rd CH_FIX.FIXDRV n)

/-- Distance of the group temperature from the channel's TCAL, in 1/16 °C. -/
def State.drift (s : State) (n : Nat) : Nat :=
  (sgn 16 (s.rd CA_GRP.TEMP 0 (groupOf n)) - sgn 16 (s.rd CH_CALSTAT.TCAL n)).natAbs

/-- The unit is fenced (FC_UNITu). -/
def State.fenced (s : State) (u : Nat) : Bool := s.on FC_UNIT.FENCED 0 u

/-- The island of Table 16-6 is gated (R408). -/
def State.gated (s : State) (island : Nat) : Bool := !bit (s.rd CK_GATESTAT.OPEN) island

/-! ## Facets in time (R208) -/

/-- The Facet of an engine as it stands. -/
def State.facet (s : State) (n f : Nat) : Facet := Tab.get {} (s.chan n).facets f

/-- The Facet as a lookup stage that begins in tick `t` sees it: a write that arrived earlier shows, one of that tick or
later does not (R208). -/
def State.facetAt (s : State) (e f t : Nat) : Facet :=
  match ((s.chan e).facetLog.filter (fun x => t ≤ x.1 && x.2.1 == f)).getLast? with
  | some x => x.2.2
  | none => s.facet e f

/-- A Facet of an engine set, the write reaching it in tick `t`. -/
def State.setFacet (s : State) (e k t : Nat) (f : Facet) : State :=
  (s.modChan e (fun c => { c with
    facets := Tab.set {} c.facets k f, facetLog := ((t, k, s.facet e k) :: c.facetLog).take 16 })).wr CH_FVALID.DEF
    (setBits (s.rd CH_FVALID.DEF e) k 1 (b2n (f.period != 0))) e

/-! ## Host link frames (R385, R390) -/

/-- The header of a link frame (Table 15-5). -/
def linkHead (type flags len fseq tag txts : Nat) : Bytes :=
  toLe 1 type ++ toLe 1 flags ++ toLe 2 len ++ toLe 2 fseq ++ toLe 2 tag ++ toLe 8 txts

/-- A frame of the device as it leaves: header, payload, CRC (R385). TXTS holds ticks and frac, the place
within the tick open (DESIGN CHOICE, log entry 97); TSV tells whether it is valid (R388). -/
def TxFrame.bytes (f : TxFrame) : Bytes :=
  let ts := f.txts.elim 0 (fun t => t * 4096 + (Config.txFrac t f.type f.fseq).toNat)
  let b := linkHead f.type (b2n f.txts.isSome) f.payload.length f.fseq f.tag (ts % 2 ^ 64) ++ f.payload
  b ++ toLe 4 (crc32 b)

/-- Bytes a frame takes in the replay store: header, payload and CRC. -/
def TxFrame.size (f : TxFrame) : Nat := 20 + f.payload.length

/-- The link is ACTIVE. -/
def State.linkUp (s : State) : Bool := s.rd HL_STAT.STAGE == 4

/-- The tick of the TXTS of a frame sent now (R388). -/
def State.txts (s : State) : Option Nat := if s.on CK_MON.LOST then none else some s.tt

/-- The replay store holds 512 KiB. -/
def replayLimit : Nat := 524288

/-- A sequenced frame goes out at once if the link is ACTIVE and the replay store has room, otherwise it waits its turn
(R390). -/
def State.send (s : State) (type tag : Nat) (payload : Bytes) : State :=
  let f : TxFrame := ⟨type, s.link.txSeq, tag, payload, s.txts⟩
  if s.linkUp && s.link.waiting.isEmpty && (s.link.unacked.map TxFrame.size).foldl (· + ·) f.size ≤ replayLimit then
    { s with link := { s.link with unacked := s.link.unacked ++ [f], txSeq := (s.link.txSeq + 1) % 65536 } }
  else { s with link := { s.link with waiting := s.link.waiting ++ [f] } }

/-- An unsequenced control frame goes out. -/
def State.sendControl (s : State) (type : Nat) (payload : Bytes) : State :=
  { s with link := { s.link with lastControl := some ⟨type, 0, 0, payload, s.txts⟩ } }

/-- One waiting frame takes its FSEQ and goes out, if it has room. -/
def Link.flushOne (up : Bool) (ts : Option Nat) (l : Link) : Link :=
  match l.waiting with
  | [] => l
  | f :: fs =>
    if up && (l.unacked.map TxFrame.size).foldl (· + ·) f.size ≤ replayLimit then
      { l with unacked := l.unacked ++ [{ f with fseq := l.txSeq, txts := ts }], txSeq := (l.txSeq + 1) % 65536,
               waiting := fs }
    else l

/-- Waiting frames go out while there is room. -/
def State.flushLink (s : State) : State :=
  { s with link := s.link.waiting.foldl (fun l _ => l.flushOne s.linkUp s.txts) s.link }

/-- The NOTIFY frame after a complete record (R48, R392). -/
def State.notify (s : State) (kind ctx index : Nat) : State :=
  s.send 0x20 0 (toLe 1 kind ++ toLe 1 ctx ++ toLe 2 index ++ zeros 4)

/-! ## Ring frames (R342, R346) -/

/-- This chip takes part in a ring that is up. -/
def State.ringUp (s : State) : Bool := 1 < s.rd SY_CFG.N && s.on SY_STAT.RINGUP

/-- One byte in the CRC-8 with polynomial 0x07 (R344). -/
def crc8Byte (c : Nat) (b : Byte) : Nat :=
  (List.range 8).foldl (fun c _ => if bit c 7 then (2 * c % 256) ^^^ 7 else 2 * c % 256) (c ^^^ b.toNat)

/-- Header bytes 0–3 of a frame: TYPE, ORIGIN, LEN, VER (Table 13-1). -/
def frameHead (type origin ver : Nat) (payload : Bytes) : Bytes :=
  toLe 1 type ++ toLe 1 origin ++ toLe 1 (payload.length / 7) ++ toLe 1 ver

/-- The CRC-8 of a frame: over header bytes 0–3 and bytes 0–6 of every payload word (R344). -/
def frameCrc (type origin ver : Nat) (payload : Bytes) : Nat := (frameHead type origin ver payload ++ payload).foldl crc8Byte 0

/-- A frame as ring words: the header with TXTS, and the payload words with their byte 7 (R344, R345). `at_` is the departure in
frac. -/
def frameWords (type origin ver at_ : Nat) (payload : Bytes) : Bytes :=
  let n := payload.length / 7
  frameHead type origin ver payload ++ toLe 4 (at_ % 2 ^ 32)
    ++ (List.range n).flatMap (fun i => (payload.drop (7 * i)).take 7
      ++ toLe 1 (if i + 1 = n then frameCrc type origin ver payload else 0))

/-- The departure of a frame that leaves now, in frac: no rule gives the transmitter's place within the tick. -/
def State.departure (s : State) : Nat × State :=
  let (x, s) := s.draw
  (s.tt * 4096 + x % 4096, s)

/-- A frame of this chip leaves on the ring at an instant of the present tick, by `departure` (R342, R345). -/
def State.emit (s : State) (at_ type : Nat) (payload : Bytes) : State :=
  { s with ring := { s.ring with sent := s.ring.sent ++ [(⟨type, payload, s.tt, 0,
      frameWords type (s.rd SY_CFG.CHIP_ID) (s.rd SY_VER.CURV) at_ payload⟩ : RingSent)] } }

/-- A frame of this chip leaves on the ring, if that is up; it is kept until it returns (R342, R346). -/
def State.launch (s : State) (type : Nat) (payload : Bytes) : State :=
  if s.ringUp then
    let (at_, s) := s.departure
    s.emit at_ type payload
  else s

/-! ## Periodic work that runs late (R374) -/

/-- The instant of the next instance at interval `i`. -/
def Periodic.due (p : Periodic) (i : Nat) : Nat := max (p.t0 + p.k * i) (max (p.prev + i / 2) p.done)

/-- The next instance takes place at `t`; its work is done then, if nothing else says so. -/
def Periodic.take (p : Periodic) (t : Nat) : Periodic := { p with k := p.k + 1, prev := t, done := t }

/-- Changes of ring flags in the order in which they apply: by time, then by ORIGIN (R354). -/
def flagsInOrder (fs : List RingFlags) : List RingFlags :=
  let before (a b : RingFlags) : Bool := a.time < b.time || (a.time == b.time && a.origin ≤ b.origin)
  fs.foldr (fun f l => l.takeWhile (fun x => !before f x) ++ f :: l.dropWhile (fun x => !before f x)) []

/-- A change applied to the flags. -/
def RingFlags.apply (f : RingFlags) (rf : Nat) : Nat := (rf ||| f.set) &&& (15 - f.clr)

/-- The ring flags at tick `t`: as they were, or as the changes already distributed will leave them (R354). -/
def State.rfAt (s : State) (t : Nat) : Nat :=
  match (s.ring.rfLog.filter (fun e => t < e.1)).getLast? with
  | some e => e.2
  | none => (flagsInOrder (s.ring.flags.filter (·.time ≤ t))).foldl (fun rf f => f.apply rf) (s.rd SY_RF.RF)

/-- The ring flags take a value at tick `t`. -/
def State.setRf (s : State) (t v : Nat) : State :=
  { s with ring := { s.ring with
      rfLog := (t, s.rd SY_RF.RF) :: s.ring.rfLog.filter (fun e => decide (t ≤ e.1 + 2 ^ 24)) } }.wr SY_RF.RF v

/-! ## The XTRIG lines (R292, R304, R305) -/

/-- The lines that Prism pulls take a value now. -/
def State.setXown (s : State) (v : Nat) : State :=
  { s with prism := { s.prism with
      xownLog := (s.tt, s.rd PZ_OUT.XOWN) :: s.prism.xownLog.filter (fun e => decide (s.tt ≤ e.1 + 4096)) } }.wr PZ_OUT.XOWN v

/-- The lines that this chip has pulled without a break for 96 ticks at tick `t`: its pull is at the ball by then, and through
the synchroniser (R304, R305). -/
def State.ownPull (s : State) (t : Nat) : Nat :=
  let held := match (s.prism.xownLog.filter (fun e => decide (t < e.1))).getLast? with
    | some e => e.2
    | none => s.rd PZ_OUT.XOWN
  (s.prism.xownLog.filter (fun e => decide (e.1 ≤ t ∧ t < e.1 + 96))).foldl (fun v e => v &&& e.2) held

/-- The external lines as the device reads them at tick `t`: a line that this chip pulls is asserted (R292, R305). -/
def State.wired (s : State) (ext : ExtLines) (t : Nat) : ExtLines :=
  { ext with xtrig := ext.xtrig ||| BitVec.ofNat 8 (s.ownPull t) }

/-- A payload word's seven data bytes from its used bytes. -/
def ringWord (bs : Bytes) : Bytes := bs.take 7 ++ zeros (7 - bs.length)

/-! ## Events (R49, R71) -/

/-- Event records are numbered, kept in the event ring under the record queue rules (R239: the oldest is overwritten
when the ring is full) and announced by a NOTIFY. -/
def State.putEvent (s : State) (code source time : Nat) (data : Bytes) : State :=
  let prod := s.rd HW_EVT_PROD.PROD
  let full := (prod + 65536 - s.rd HW_EVT_CONS.CONS) % 65536 ≥ 1024
  let rec_ := toLe 1 code ++ zeros 1 ++ toLe 2 source ++ toLe 4 s.mbx.evtSeq ++ toLe 8 time ++ fit 16 data
  let s := if full then (s.bump HW_EVT_CONS.CONS).inc HW_EVT_LOST.LOST else s
  let s := { s with
    win := s.win.writeN (0x20000 + 32 * (prod % 1024)) rec_,
    mbx := { s.mbx with evtSeq := (s.mbx.evtSeq + 1) % 2 ^ 32, evtOver := s.mbx.evtOver || full } }
  let s := s.wr HW_EVT_PROD.PROD (prod + 1)
  s.notify 1 0xFF ((prod + 1) % 65536)

/-- The event code is suppressed by HW_EVT_MASK (codes 1–10). -/
def State.suppressed (s : State) (code : Nat) : Bool :=
  1 ≤ code && code ≤ 10 && bit (s.rd HW_EVT_MASK.MASK) (code - 1)

/-- An event that happened at tick `time` (R71). -/
def State.event (s : State) (code source time : Nat) (data : Bytes) : State :=
  if s.suppressed code then s else s.putEvent code source time data

end Sys2Proof.Machine
end

