-- ==== Sys2Proof/Machine/Barrier.lean ====
section
/-!
DEFINITION. Ring barriers seen from one chip (R352, R353): who has arrived, the GATHER held here, and the laps of the
ring (R341, R342).
-/
namespace Sys2Proof.Machine

/-- The ring changed. -/
def State.modRing (s : State) (f : Ring → Ring) : State := { s with ring := f s.ring }

/-! ## Times on the ring (R341, R342, R345) -/

/-- Hops of a lap (R341): N on a closed ring, 2 (N − 1) on a wrapped one. -/
def State.lap (s : State) : Nat := let n := s.rd SY_CFG.N; if s.on SY_STAT.WRAP ∧ 1 < n then 2 * (n - 1) else n

/-- Ticks of `ns` nanoseconds, rounded up: a tick is 312.5 ps. -/
def ticksUp (ns : Nat) : Nat := ceilDiv (16 * ns) 5

/-- A transmit time in frac plus L × 12 ns + 32 ns, rounded up to a tick (R352, R354). -/
def State.lapTime (s : State) (at_ : Nat) : Nat := ceilDiv (5 * at_ + 65536 * (12 * s.lap + 32)) 20480

/-- The whole of a time of which only the lowest `w` bits were sent: the value nearest to `now` (R345). -/
def nearest (w t now : Nat) : Nat :=
  let c := now / 2 ^ w * 2 ^ w + t % 2 ^ w
  if now + 2 ^ (w - 1) < c ∧ 2 ^ w ≤ c then c - 2 ^ w
  else if c + 2 ^ (w - 1) ≤ now then c + 2 ^ w
  else c

/-! ## Barriers -/

/-- A barrier's number as a GATHER or RELEASE carries it. -/
def barPayload (b : Nat) : Bytes := ringWord (toLe 1 b)

/-- Member sequencers of ring barrier `b` (SQ_RBARMEM). -/
def State.ringMembers (s : State) (b : Nat) : List Nat :=
  (List.range 64).filter (fun i => bit (s.rd SQ_RBARMEM.MEMBER i) b)

/-- The site waits at ring barrier `b`. -/
def State.ringWaits (s : State) (b i : Nat) : Bool :=
  s.site i == stRunning && s.on SQ_RBARSTAT.WAITING i && s.rd SQ_RBARSTAT.BAR i == b

/-- RUNNING members of barrier `b`, RB or start barrier. -/
def State.barMembers (s : State) (b : Nat) : List Nat :=
  if b < 16 then (s.ringMembers b).filter (fun i => s.site i == stRunning)
  else if 64 ≤ b ∧ b < 128 then (if s.site (b - 64) = stRunning then [b - 64] else [])
  else []

/-- When member `i` stopped being awaited at a barrier (`b` in the chip, 16 + `b` for a ring barrier): at its arrival, or when it
left RUNNING without having arrived (R97, R98, R352). -/
def State.awaitedUntil (s : State) (b i : Nat) : Nat :=
  let q := s.seq i
  if s.site i = stRunning then q.barTime else if q.leftFrom = some b then 0 else q.leftTime

/-- This chip has arrived at barrier `b`: every RUNNING member has. A member chip of a cross-chip site arrives at its start
barrier 2 µs after its site has entered RUNNING (R352, R360). -/
def State.chipArrived (s : State) (b : Nat) : Bool :=
  if b < 16 then (s.barMembers b).all (s.ringWaits b)
  else if 64 ≤ b ∧ b < 128 then
    decide ((Tab.get {} s.ring.entries (b - 64)).k = 0) || s.ring.started.contains (b - 64)
  else true

/-- A GATHER of this chip for `b` is under way. -/
def State.gatherOut (s : State) (b : Nat) : Bool :=
  s.ring.sent.any (fun f => f.type == 2 && f.payload == barPayload b)

/-- A GATHER held here goes on once this chip has arrived; this chip's own leaves on the ring (R352). -/
def State.advanceBar (b : Nat) (s : State) : State :=
  let h := Tab.get 0 s.ring.held b
  if h = 0 ∨ ¬ s.chipArrived b then s
  else if h = s.rd SY_CFG.CHIP_ID + 1 ∧ ¬ s.ringUp then s
  else
    let s := if h = s.rd SY_CFG.CHIP_ID + 1 then s.launch 2 (barPayload b) else s
    s.modRing (fun r => { r with
      held := Tab.erase r.held b, passed := b :: r.passed.filter (· != b), part := Tab.insert r.part b (s.barMembers b) })

/-- Every GATHER held here that can go on does. -/
def State.advanceBars (s : State) : State := forAll (s.ring.held.map (·.1)) State.advanceBar s

/-- A member has arrived at barrier `b`: with no GATHER held, passed or under way this chip makes one (R352). -/
def State.arriveBar (b : Nat) (s : State) : State :=
  let s := if Tab.get 0 s.ring.held b = 0 ∧ ¬ s.ring.passed.contains b ∧ ¬ s.gatherOut b then
      s.modRing (fun r => { r with held := Tab.insert r.held b (s.rd SY_CFG.CHIP_ID + 1) })
    else s
  s.advanceBar b

/-- A link of this chip to another member of the cross-chip site is down (R360). -/
def State.memberLinkDown (s : State) (i : Nat) : Bool :=
  let pos := s.rd SQ_XSITE.POS i
  (decide (pos + 1 < s.rd SQ_STATE.CHIPS i) && !s.on SY_LINK.EUP) || (pos != 0 && !s.on SY_LINK.WUP)

/-- A site is no longer part of any barrier. -/
def State.leaveBars (s : State) (i : Nat) : State :=
  (s.modRing (fun r => { r with started := r.started.filter (· != i) })).advanceBars

end Sys2Proof.Machine
end

