-- ==== Sys2Proof/Machine/Mailbox.lean ====
section
/-!
DEFINITION. The mailbox and the job engine (02): the command table, the checks of R505, responses, and the life of an
immediate command and of a job.
-/
namespace Sys2Proof.Machine

/-! ## Status codes (Tables 0-6, 2-11 and the codes of the chapters) -/

def ok : Nat := 0x0000
def accepted : Nat := 0x0001
def busy : Nat := 0x0010
def queueFull : Nat := 0x0011
def badOpcode : Nat := 0x0020
def badParam : Nat := 0x0021
def outOfRange : Nat := 0x0022
def notReady : Nat := 0x0030
def refusedState : Nat := 0x0031
def authFail : Nat := 0x0040
def sigFail : Nat := 0x0041
def fencedCode : Nat := 0x0060
def machineCheckCode : Nat := 0x0061
def aborted : Nat := 0x0101

/-! ## The command table (Tables 2-4 to 2-9) -/

/-- Who the SITE byte may name (R45, R66). -/
inductive SiteRule where
  | site | none | timing
  deriving DecidableEq, Repr

/-- Payload direction. -/
inductive Payload where
  | none | toDevice | toHost
  deriving DecidableEq, Repr

/-- One row of the command tables: whether it is a job, its payload, the descriptor bytes that hold parameters, its SITE
rule, and the least and largest LENGTH. -/
structure CmdRow where
  job : Bool
  payload : Payload
  params : List (Nat × Nat)
  site : SiteRule := .none
  minLen : Nat := 1
  maxLen : Nat := 16777216
  deriving DecidableEq, Repr

/-- The command's row, if the opcode is defined (R13, R63–R69). -/
def cmdRow : Nat → Option CmdRow
  | 0x0100 => some ⟨false, .none, [], .none, 1, 16777216⟩
  | 0x0101 => some ⟨false, .none, [], .none, 1, 16777216⟩
  | 0x0102 => some ⟨false, .none, [(24, 26)], .none, 1, 16777216⟩
  | 0x0103 => some ⟨false, .none, [(24, 29)], .none, 1, 16777216⟩
  | 0x0104 => some ⟨false, .none, [(24, 32)], .none, 1, 16777216⟩
  | 0x0105 => some ⟨true, .toHost, [(24, 56)], .none, 1, 16777216⟩
  | 0x0106 => some ⟨false, .none, [], .none, 1, 16777216⟩
  | 0x0107 => some ⟨true, .none, [(24, 29), (32, 48)], .none, 1, 16777216⟩
  | 0x0200 => some ⟨true, .toDevice, [(24, 29)], .site, 1, 16777216⟩
  | 0x0201 => some ⟨false, .none, [], .site, 1, 16777216⟩
  | 0x0202 => some ⟨true, .toDevice, [(24, 25)], .site, 1, 16777216⟩
  | 0x0203 => some ⟨true, .toDevice, [(24, 25)], .site, 1, 16777216⟩
  | 0x0204 => some ⟨true, .none, [(24, 29)], .site, 1, 16777216⟩
  | 0x0205 => some ⟨false, .none, [], .site, 1, 16777216⟩
  | 0x0206 => some ⟨false, .none, [], .site, 1, 16777216⟩
  | 0x0207 => some ⟨false, .none, [(24, 37)], .site, 1, 16777216⟩
  | 0x0208 => some ⟨true, .toDevice, [], .site, 1, 16777216⟩
  | 0x0209 => some ⟨false, .none, [], .site, 1, 16777216⟩
  | 0x020A => some ⟨true, .toHost, [(24, 25), (28, 32)], .site, 1, 16777216⟩
  | 0x020B => some ⟨false, .none, [(24, 26)], .site, 1, 16777216⟩
  | 0x0300 => some ⟨true, .toDevice, [(24, 27)], .timing, 1, 16777216⟩
  | 0x0301 => some ⟨true, .toHost, [(24, 27)], .timing, 1, 16777216⟩
  | 0x0302 => some ⟨true, .toDevice, [(24, 27)], .timing, 1, 16777216⟩
  | 0x0303 => some ⟨true, .toDevice, [(24, 25)], .site, 1, 16777216⟩
  | 0x0400 => some ⟨false, .none, [(24, 27), (28, 64)], .none, 1, 16777216⟩
  | 0x0401 => some ⟨true, .toHost, [(24, 26)], .none, 1, 16777216⟩
  | 0x0402 => some ⟨true, .toDevice, [], .none, 1, 16777216⟩
  | 0x0403 => some ⟨false, .none, [], .none, 1, 16777216⟩
  | 0x0404 => some ⟨false, .none, [], .none, 1, 16777216⟩
  | 0x0405 => some ⟨false, .none, [], .none, 1, 16777216⟩
  | 0x0406 => some ⟨true, .toHost, [(24, 32)], .none, 1, 16777216⟩
  | 0x0407 => some ⟨true, .toDevice, [], .none, 1, 16777216⟩
  | 0x0500 => some ⟨true, .none, [(24, 27)], .none, 1, 16777216⟩
  | 0x0501 => some ⟨true, .toHost, [], .none, 1, 16777216⟩
  | 0x0502 => some ⟨true, .toDevice, [], .none, 1, 16777216⟩
  | 0x0503 => some ⟨false, .none, [(24, 26), (28, 32)], .none, 1, 16777216⟩
  | 0x0504 => some ⟨true, .toHost, [(24, 64)], .none, 1, 16777216⟩
  | 0x0505 => some ⟨true, .toDevice, [], .none, 1, 16777216⟩
  | 0x0506 => some ⟨true, .toDevice, [], .none, 1, 16777216⟩
  | 0x0600 => some ⟨true, .toHost, [], .none, 1, 16777216⟩
  | 0x0601 => some ⟨false, .none, [(24, 25)], .none, 1, 16777216⟩
  | 0x0602 => some ⟨false, .none, [(24, 26)], .none, 1, 16777216⟩
  | 0x0603 => some ⟨false, .none, [(24, 29)], .none, 1, 16777216⟩
  | 0x0604 => some ⟨false, .none, [(24, 64)], .site, 1, 16777216⟩
  | 0x0605 => some ⟨false, .none, [(24, 25)], .none, 1, 16777216⟩
  | 0x0606 => some ⟨true, .toHost, [(24, 25)], .none, 1, 16777216⟩
  | 0x0700 => some ⟨true, .toDevice, [], .none, 1, 16777216⟩
  | 0x0701 => some ⟨true, .toDevice, [(24, 28)], .none, 1, 16777216⟩
  | 0x0702 => some ⟨false, .none, [], .none, 1, 16777216⟩
  | 0x0703 => some ⟨false, .none, [], .none, 1, 16777216⟩
  | 0x0704 => some ⟨true, .none, [], .none, 1, 16777216⟩
  | 0x0705 => some ⟨true, .toDevice, [], .none, 1, 16777216⟩
  | 0x0706 => some ⟨true, .toDevice, [(24, 25)], .none, 1, 16777216⟩
  | 0x0800 => some ⟨true, .toDevice, [(24, 25), (28, 36)], .none, 1, 16777216⟩
  | 0x0801 => some ⟨true, .toHost, [(24, 25), (28, 36)], .none, 1, 16777216⟩
  | 0x0802 => some ⟨false, .none, [(24, 34)], .none, 1, 16777216⟩
  | 0x0803 => some ⟨false, .none, [(24, 28)], .none, 1, 16777216⟩
  | 0x0900 => some ⟨false, .none, [(24, 64)], .none, 1, 16777216⟩
  | 0x0901 => some ⟨false, .none, [(24, 64)], .none, 1, 16777216⟩
  | 0x0902 => some ⟨true, .toHost, [], .none, 1, 16777216⟩
  | 0x0903 => some ⟨true, .none, [(24, 28)], .none, 1, 16777216⟩
  | 0x0904 => some ⟨true, .toDevice, [(24, 32)], .none, 1, 16777216⟩
  | 0x0905 => some ⟨true, .toHost, [(24, 32)], .none, 1, 16777216⟩
  | 0x0A00 => some ⟨false, .none, [], .none, 1, 16777216⟩
  | 0x0A01 => some ⟨true, .toHost, [(24, 25)], .none, 1, 16777216⟩
  | 0x0A02 => some ⟨false, .none, [(24, 25)], .none, 1, 16777216⟩
  | _ => none

/-! ## Descriptors (R43) -/

/-- The parameter of `n` bytes at descriptor byte `off` (24–63). -/
def par (d : Desc) (off n : Nat) : Nat := bits d.params.toNat (8 * (off - 24)) (8 * n)

/-- The NOACK flag. -/
def noack (d : Desc) : Bool := bit d.flags.toNat 0

/-- The ORDER flag. -/
def ordered (d : Desc) : Bool := bit d.flags.toNat 1

/-- A descriptor's 64 bytes as OPCODE and the rest (Table 2-2). -/
def descOf (c : Fin 8) (b : Bytes) : Nat × Desc :=
  (field b 0 2,
   ⟨c, BitVec.ofNat 16 (field b 2 2), BitVec.ofNat 32 (field b 4 4), BitVec.ofNat 32 (field b 8 4),
    BitVec.ofNat 8 (field b 12 1), BitVec.ofNat 24 (field b 13 3), BitVec.ofNat 64 (field b 16 8),
    BitVec.ofNat 320 (field b 24 40)⟩)

/-- Checks 1–4 of R505, in order: the first that fails. -/
def checkDesc (op : Nat) (d : Desc) : Option Nat :=
  match cmdRow op with
  | none => some badOpcode
  | some r =>
    let used (i : Nat) : Bool := r.params.any (fun p => p.1 ≤ 24 + i ∧ 24 + i < p.2)
    let site := d.site.toNat
    if d.rsv.toNat ≠ 0 ∨ 4 ≤ d.flags.toNat
        ∨ (List.range 40).any (fun i => !used i && bits d.params.toNat (8 * i) 8 != 0) then some badParam
    else if r.payload = .none ∧ (d.haddr.toNat ≠ 0 ∨ d.length.toNat ≠ 0) then some outOfRange
    else if r.payload ≠ .none ∧ (d.haddr.toNat % 8 ≠ 0 ∨ d.length.toNat < r.minLen ∨ r.maxLen < d.length.toNat) then
      some outOfRange
    else match r.site with
      | .site => if 64 ≤ site then some badParam else none
      | .none => if site ≠ 255 then some badParam else none
      | .timing => if (if par d 24 2 = 0xFFFF then 64 ≤ site else site ≠ 255) then some badParam else none

/-- The opcodes that recovery firmware serves (R412). -/
def recoveryOps : List Nat :=
  [0x0100, 0x0101, 0x0102, 0x0105, 0x0700, 0x0701, 0x0702, 0x0703, 0x0704, 0x0705, 0x0706, 0x0A00, 0x0A01, 0x0A02]

/-- The checks made when a descriptor is consumed (R412, R505). -/
def State.checkConsumed (s : State) (op : Nat) (d : Desc) : Option Nat :=
  if s.on CK_RSTCAUSE.RECOV ∧ (cmdRow op).isSome ∧ ¬ recoveryOps.contains op then some notReady else checkDesc op d

/-! ## Responses (R46–R48) -/

/-- Free slots of a context's response ring. -/
def State.rspFree (s : State) (c : Nat) : Nat :=
  64 - (s.rd HW_RSP_PROD.PROD 0 c + 65536 - s.rd HW_RSP_CONS.CONS 0 c) % 65536

/-- Jobs of a context not yet finally answered (HW_CTX_STAT.JOBS). -/
def State.ctxJobs (s : State) (c : Nat) : Nat := s.mbx.jobs.countP (fun j => j.cmd.d.ctx.val == c)

/-- A response: 32 bytes in the response ring, the producer index advanced, a NOTIFY. -/
def State.respond (s : State) (op : Nat) (d : Desc) (status rflags jobid : Nat) (result : Bytes) : State :=
  let c := d.ctx.val
  let i := s.rd HW_RSP_PROD.PROD 0 c
  let r := toLe 2 op ++ toLe 2 status ++ toLe 4 d.seq.toNat ++ toLe 2 rflags ++ toLe 2 jobid ++ fit 20 result
  let s := { s with win := s.win.writeN (0x18000 + c * 0x800 + 32 * (i % 64)) r }
  (s.wr HW_RSP_PROD.PROD (i + 1) 0 c).notify 0 c ((i + 1) % 65536)

/-- The single response to an immediate command or to a refusal at consumption; REPLAY if it is served again (R61). -/
def State.answer (s : State) (c : Consumed) (status : Nat) (result : Bytes) : State :=
  s.respond c.op c.d status (1 + 4 * b2n (s.mbx.replay.contains c.seqNo)) 0 result

/-- Data written to host memory from HADDR upward, as DMAWR frames of at most 4,096 bytes (Table 15-6). -/
def State.dmaWrite (s : State) (haddr : Nat) : (fuel : Nat) → Bytes → State
  | 0, _ => s
  | fuel + 1, data =>
    if data.isEmpty then s
    else (s.send 0x10 0 (toLe 8 haddr ++ data.take 4096)).dmaWrite (haddr + 4096) fuel (data.drop 4096)

/-! ## The job engine (R46, R55, R387) -/

/-- The lowest JOBID no job holds. -/
def State.freeJobId (s : State) : Nat :=
  ((List.range 256).find? (fun i => s.mbx.jobs.all (fun j => j.id != i))).getD 0

/-- The job's flow: context and SITE byte. -/
def Job.flow (j : Job) : Nat × Nat := (j.cmd.d.ctx.val, j.cmd.d.site.toNat)

/-- A job changed. -/
def State.modJob (s : State) (id : Nat) (f : Job → Job) : State :=
  { s with mbx := { s.mbx with jobs := s.mbx.jobs.map (fun j => if j.id = id then f j else j) } }

/-- The job that holds a JOBID. -/
def State.job (s : State) (id : Nat) : Option Job := s.mbx.jobs.find? (fun j => j.id == id)

/-- A number that no job holds. -/
def noJob : Nat := 256

/-- The job is gone: its requests, and its place among waiting RUNs, calibrations, snapshots, timed frames, a COLLIMATE and
an activation. A CMS that it staged still takes effect. -/
def State.dropJob (s : State) (id : Nat) : State :=
  let act := s.sec.act.any (fun a => a.job == id)
  let s := { s with
    mbx := { s.mbx with jobs := s.mbx.jobs.filter (fun x => x.id != id), reqs := s.mbx.reqs.filter (fun r => r.job != id) }
    cal := { s.cal with waiters := s.cal.waiters.filter (fun w => w.job != id), jobs := s.cal.jobs.filter (fun j => j.job != id) }
    ring := { s.ring with
      snapJobs := s.ring.snapJobs.filter (fun j => j != id), timed := s.ring.timed.filter (fun w => w.job != id),
      collate := if s.ring.collate = some id then none else s.ring.collate }
    sec := if act then { s.sec with act := none } else s.sec
    seqs := s.seqs.map (fun p => (p.1, { p.2 with
      cmsStage := p.2.cmsStage.map (fun c => if c.job = id then { c with job := noJob } else c) })) }
  if act then s.wr SC_STAT.SESSION 2 else s

/-- A job's final response, after its data; its number and its requests are free again. -/
def State.finishJob (s : State) (j : Job) (status : Nat) (result out : Bytes) : State :=
  let s := s.dmaWrite j.cmd.d.haddr.toNat (out.length + 1) out
  (s.dropJob j.id).respond j.cmd.op j.cmd.d status 3 j.id result

/-- A deferred job completes, if it still exists. -/
def State.completeJob (s : State) (id status : Nat) (result out : Bytes) : State :=
  match s.job id with
  | some j => s.finishJob j status result out
  | none => s

/-- A command becomes a job: it takes its JOBID and its ACCEPTED response is written unless NOACK (R47). -/
def State.enqueue (s : State) (c : Consumed) : State :=
  let id := s.freeJobId
  let s := { s with mbx := { s.mbx with jobs := s.mbx.jobs ++ [{ cmd := c, id := id }] } }
  if noack c.d then s else s.respond c.op c.d accepted 2 id []

/-- Workers W0–W7 that hold no job and are not fenced (unit IDs 695–702). -/
def State.freeWorkers (s : State) : List Nat :=
  (List.range 8).filter (fun w => !s.fenced (695 + w) && s.mbx.jobs.all (fun j => j.worker != some w))

/-- The command with an earlier turn of the context is not yet finally answered (ORDER, R56). -/
def State.earlier (s : State) (c : Consumed) : Bool :=
  s.mbx.jobs.any (fun j => j.cmd.d.ctx == c.d.ctx && j.cmd.seqNo < c.seqNo)
    || s.mbx.imm.any (fun i => i.d.ctx == c.d.ctx && i.seqNo < c.seqNo)

/-- The job is startable: first of its flow, ORDER met, a worker free (R55, R56). -/
def State.startable (s : State) (j : Job) : Bool :=
  !j.started && s.mbx.jobs.all (fun x => x.flow != j.flow || j.cmd.seqNo ≤ x.cmd.seqNo)
    && !(ordered j.cmd.d && s.earlier j.cmd) && !s.freeWorkers.isEmpty

/-- DMARD requests for what the job still wants, at most 64 outstanding (R387). -/
def State.requestData (s : State) (id : Nat) : (fuel : Nat) → State
  | 0 => s
  | fuel + 1 =>
    match s.job id, (List.range 64).find? (fun t => s.mbx.reqs.all (fun r => r.tag != t)) with
    | some j, some tag =>
      let len := j.cmd.d.length.toNat
      if len ≤ j.want then s
      else
        let n := min 4096 (len - j.want)
        let s := s.send 0x11 tag (toLe 8 (j.cmd.d.haddr.toNat + j.want) ++ toLe 4 n)
        let s := { s with mbx := { s.mbx with reqs := s.mbx.reqs ++ [(⟨tag, id, j.want, n⟩ : DmaReq)] } }
        (s.modJob id (fun j => { j with want := j.want + n })).requestData id fuel
    | _, _ => s

/-- The payload a job has received, in order. -/
def Job.payload (j : Job) : Bytes := j.data.flatMap (·.2)

/-- The whole payload is there. -/
def Job.complete (j : Job) : Bool := decide (j.cmd.d.length.toNat ≤ j.payload.length)

/-- The job starts on the lowest free worker. -/
def State.startJob (s : State) (id : Nat) : State :=
  s.modJob id (fun j => { j with started := true, since := s.tt, worker := s.freeWorkers.head? })

/-! ## Serving one command -/

/-- What a command does when it is served: its status, its result bytes 12–31, the data it writes to host memory and the
state; or, for a job that ends later, the state in which it goes on; or that a job waits to be carried out. A refusal has
changed no state (R47). -/
inductive Act where
  | done (status : Nat) (result out : Bytes) (s : State)
  | later (s : State)
  | wait

/-- A refusal. -/
def refuse (status : Nat) (s : State) : Act := .done status [] [] s

/-- Success with a result. -/
def success (result : Bytes) (s : State) : Act := .done ok result [] s

/-- Conditions 1 and 2 of R53 for a new descriptor of the context. -/
def State.canServe (s : State) (c : Nat) : Bool :=
  s.on HW_STATUS.MBRDY && !s.on HW_STATUS.HANDOVER && s.on HW_CTX_CTRL.EN 0 c && decide (s.ctxJobs c + 2 ≤ s.rspFree c)

/-- The core visits the context and finds there no descriptor but this one: none waits in the context's ring ahead of it, and
with ORDER every earlier command of the context is finally answered (R53, R54, R56). -/
def State.takesNow (s : State) (d : Desc) : Bool :=
  let c := d.ctx.val
  s.canServe c && s.mbx.visit == c && s.rd HW_CMD_CONS.CONS 0 c == s.rd HW_CMD_DB.PROD 0 c
    && !(ordered d && (s.mbx.jobs.any (fun j => j.cmd.d.ctx == d.ctx) || s.mbx.imm.any (fun i => i.d.ctx == d.ctx)))

/-- The descriptor is consumed in this visit: it takes the next consumption number, and the core goes on to the next
context. -/
def State.stamp (s : State) (op : Nat) (d : Desc) : Consumed × State :=
  (⟨op, d, s.tt, s.mbx.flowSeq⟩,
    { s with mbx := { s.mbx with flowSeq := s.mbx.flowSeq + 1, visit := (d.ctx.val + 1) % 8 } })

/-- The consumed command is the one with this opcode, context and SEQ. -/
def Consumed.isFor (c : Consumed) (op : Nat) (d : Desc) : Bool := c.op == op && c.d.ctx == d.ctx && c.d.seq == d.seq

/-- What becomes of the command that a row names: it waits; its descriptor is refused at consumption; or it is carried out,
with its payload, from the state given. -/
inductive Due (α : Type) where
  | wait
  | refused (c : Consumed) (status : Nat) (s : State)
  | go (cmd : α) (p : Bytes) (s : State)
  deriving DecidableEq, Repr

/-- An immediate command that is in flight is served after the earlier ones of its context; with none in flight, the
command is one that this step consumes and serves (R47, R53, R54, R56, R505). -/
def State.due (s : State) (op : Nat) (d : Desc) : Due Consumed :=
  match s.mbx.imm.find? (fun c => c.isFor op d) with
  | some c =>
    if s.on HW_STATUS.MBRDY ∧ ¬ s.on HW_STATUS.HANDOVER
        ∧ s.mbx.imm.all (fun x => x.d.ctx != d.ctx || decide (c.seqNo ≤ x.seqNo)) then
      .go c [] { s with mbx := { s.mbx with imm := s.mbx.imm.filter (fun x => x.seqNo != c.seqNo) } }
    else .wait
  | none =>
    if ¬ s.takesNow d then .wait
    else
      let (c, s) := s.stamp op d
      match s.checkConsumed op d with
      | some e => .refused c e s
      | none => .go c [] s

/-- The payload that a job with LENGTH is given: that many bytes for a payload of the kind "in", otherwise none. -/
def payloadOf (op : Nat) (d : Desc) (p : Bytes) : Bytes :=
  if (cmdRow op).any (fun r => r.payload == .toDevice) then fit d.length.toNat p else []

/-- A job that is in flight is carried out once it has started and has its payload; with none in flight, the job is one that
this step consumes, accepts and starts with the payload `p`, which takes a free worker, no job of its flow and no older
job that could start (R47, R53–R56, R505). -/
def State.dueJob (s : State) (op : Nat) (d : Desc) (p : Bytes) : Due Job :=
  match s.mbx.jobs.find? (fun j => j.cmd.isFor op d) with
  | some j =>
    if j.started ∧ ¬ j.deferred ∧ ((cmdRow op).any (fun r => r.payload != .toDevice) ∨ j.complete) then
      .go j (payloadOf op j.cmd.d j.payload) s
    else .wait
  | none =>
    if ¬ s.takesNow d ∨ 256 ≤ s.mbx.jobs.length ∨ s.freeWorkers.isEmpty
        ∨ s.mbx.jobs.any (fun j => j.flow == (d.ctx.val, d.site.toNat) || s.startable j) then .wait
    else
      let (c, s) := s.stamp op d
      match s.checkConsumed op d with
      | some e => .refused c e s
      | none =>
        let id := s.freeJobId
        let s := (s.enqueue c).startJob id
        match s.job id with
        | some j => .go j (payloadOf op d p) s
        | none => .wait

/-- An immediate command is served once it is due; `act` makes checks 5 and 6 and has the command's effect. -/
def State.serve (op : Nat) (d : Desc) (act : Consumed → State → Act) (s : State) : State :=
  match s.due op d with
  | .wait => s
  | .refused c e s => s.answer c e []
  | .go c _ s =>
    match act c s with
    | .done st r _ s => s.answer c st r
    | .later s => s
    | .wait => s

/-- A job is carried out once it is due; `act` makes checks 5 and 6 and has the job's effect; it is given the job's
number. -/
def State.serveJob (op : Nat) (d : Desc) (p : Bytes) (act : Consumed → Nat → Bytes → State → Act) (s : State) : State :=
  match s.dueJob op d p with
  | .wait => s
  | .refused c e s => s.answer c e []
  | .go j p s =>
    if j.abort then s.finishJob j aborted [] []
    else
      match act j.cmd j.id p s with
      | .done st r out s => s.finishJob j st r out
      | .later s => s.modJob j.id (fun j => { j with deferred := true })
      | .wait => s.modJob j.id (fun j => { j with data := [(0, p)], want := p.length })

end Sys2Proof.Machine
end

