-- ==== Sys2Proof/Machine/Sites.lean ====
section
/-!
DEFINITION. What happens to a site as a whole: slot counters and dumps (14), halt causes (R90–R96), the lines at rest
(R92), and the end of a run.
-/
namespace Sys2Proof.Machine

/-! ## Registers of a sequencer and the VA that is next -/

/-- A microcode register (Table 5-5). U0 reads zero. -/
def Seq.ureg (q : Seq) (r : Nat) : Nat := if r = 0 then 0 else Tab.get 0 q.u r

/-- The width of a microcode register's value: U12 and U14 hold 40 bits, U13 an IA, U15 24 bits (R152, Table 5-5). -/
def uregWidth (r : Nat) : Nat :=
  if r = 12 ∨ r = 14 then 40 else if r = 13 then 32 else if r = 15 then 24 else 48

/-- A microcode register written; U0 ignores writes; a wider value is truncated (R152). -/
def Seq.setU (q : Seq) (r v : Nat) : Seq := if r = 0 then q else { q with u := Tab.set 0 q.u r (v % 2 ^ uregWidth r) }

/-- The VA of the next vector to play (SQ_VA), from what is issued, else from the site's VA. -/
def Seq.nextVa (q : Seq) : Nat :=
  match q.queue.find? (fun | .bundle .. => true | .replay .. => true | .matchLoop .. => true | .waitx .. => true | _ => false) with
  | some (.bundle _ _ v _ _) => v.va
  | some (.waitx _ _ _ _ v _) => v.va
  | some (.replay lo hi _ pos _) => (q.attrs.getD (lo + pos % max 1 (hi - lo)) {}).va
  | some (.matchLoop _ first len _ _ _) => (q.attrs.getD ((q.vk - first) % max 1 len) {}).va
  | _ => q.ureg 14

/-- The site's vectors play: RUNNING or HALTING, or a machine check whose vector side has not stopped yet (R172). -/
def State.playing (s : State) (site : Nat) : Bool := s.busySite site || (s.seq site).draining

/-- SQ_VA as it reads: the VA of the next vector while vectors play, afterwards that of the first vector that did not
(R93). -/
def State.vaNow (s : State) (site : Nat) : Nat :=
  let q := s.seq site
  if s.playing site && !q.vecEnd then q.nextVa else s.rd SQ_VA.VA site

/-- No later vector plays (R90): SQ_VA keeps the VA of the first one, and what is still queued is discarded. -/
def State.stopVectors (s : State) (site : Nat) : State :=
  (s.wr SQ_VA.VA (s.vaNow site) site).modSeq site (fun q => { q with vecEnd := true, queue := [] })

/-! ## Counters and dumps (R365–R375) -/

/-- One counter raised by `n`; it stops at 2^48 − 1 and its PM_SAT bit is set (R368). -/
def State.pmAdd (s : State) (site k n : Nat) : State :=
  let v := s.rd PM_CNT.COUNT site k
  let s := if v + n ≥ 2 ^ 48 - 1 then s.wr PM_SAT.CNT (setBits (s.rd PM_SAT.CNT site) k 1 1) site else s
  s.wr PM_CNT.COUNT (satAdd 48 v n) site k

/-- Event `code` of Table 14-2 happened `n` times: every counter that selects it counts (R368). -/
def State.pm (s : State) (site code n : Nat) : State :=
  if code = 0 ∨ n = 0 ∨ ¬ s.busySite site then s
  else (List.range 8).foldl
    (fun s k => if bits (s.rd PM_SEL.SEL site) (8 * k) 8 = code then s.pmAdd site k n else s) s

/-- The slot counter counts one slot (R368). -/
def State.pmSlot (s : State) (site : Nat) : State :=
  let v := s.rd PM_SLOTS.COUNT site
  let s := if v + 1 ≥ 2 ^ 48 - 1 then s.wr PM_SAT.SLOTS 1 site else s
  s.wr PM_SLOTS.COUNT (satAdd 48 v 1) site

/-- The ticks since the last count are counted (event 0x14 of Table 14-2): the counters are as of now. -/
def State.pmTicks (s : State) (site : Nat) : State :=
  (s.pm site 0x14 (s.tt - (s.seq site).ticksTo)).modSeq site (fun q => { q with ticksTo := s.tt })

/-- Zero the slot counter, PC0–PC7 and PM_SAT. -/
def State.pmClear (s : State) (site : Nat) : State :=
  let s := s.wrs site [(PM_SLOTS.COUNT, 0), (PM_SAT.CNT, 0), (PM_SAT.SLOTS, 0)]
  (List.range 8).foldl (fun s k => s.wr PM_CNT.COUNT 0 site k) s

/-- The dump record of Table 14-4. -/
def State.dumpRecord (s : State) (site dseq time nominal : Nat) (late final : Bool) : Bytes :=
  let sat := s.rd PM_SAT.CNT site ≠ 0 ∨ s.on PM_SAT.SLOTS site
  toLe 1 1 ++ toLe 1 site ++ toLe 1 (b2n late + 2 * b2n final + 4 * b2n (decide sat)) ++ toLe 1 (s.site site)
    ++ toLe 4 dseq ++ toLe 8 time ++ toLe 8 nominal ++ toLe 8 (s.rd PM_SLOTS.COUNT site)
    ++ (List.range 8).flatMap (fun k =>
        toLe 6 (s.rd PM_CNT.COUNT site k) ++ toLe 1 (bits (s.rd PM_SEL.SEL site) (8 * k) 8) ++ zeros 1)
    ++ toLe 5 (s.vaNow site) ++ zeros 3 ++ toLe 4 (s.rd SQ_IA.IA site) ++ zeros 20

/-- One dump is in its ring: PM_DWR advances (R372). -/
def State.writeDump (site : Nat) (s : State) (r : DumpRec) : State :=
  ({ s with vmem := s.vmem.writeN (r.base + 128 * (s.rd PM_DWR.WR site % max 1 r.size)) r.data }).bump PM_DWR.WR site

/-- The dumps whose write has ended by now are in the ring (R372). -/
def State.settleDumps (s : State) (site : Nat) : State :=
  let ds := (s.seq site).dumps
  (ds.takeWhile (fun r => decide (r.finish ≤ s.tt))).foldl (State.writeDump site)
    (s.modSeq site (fun q => { q with dumps := ds.dropWhile (fun r => decide (r.finish ≤ s.tt)) }))

/-- Every dump whose write has ended is in vector memory. -/
def State.dumpsWritten (s : State) : State := forAll (List.range 64) (fun i s => s.settleDumps i) s

/-- A sampled dump takes its slot of the ring, or is discarded at a full ring without WRAP (R373). -/
def State.putDump (s : State) (site : Nat) (r : DumpRec) : State :=
  let taken := s.rd PM_DWR.WR site + (s.seq site).dumps.length
  let full := (taken + 2 ^ 32 - s.rd PM_DRD.RD site) % 2 ^ 32 ≥ r.size
  if full ∧ ¬ s.on PM_CTL.WRAP site then s.inc PM_DDROP.DROP site
  else
    let s := if full then (s.bump PM_DRD.RD site).inc PM_DDROP.DROP site else s
    s.modSeq site (fun q => { q with dumps := q.dumps ++ [r] })

/-- The next dump sampled now, into the ring in force; its write ends at `finish`, after those before it (R374). Dumps are
numbered from 1 (DEDUCED, log entry 23). -/
def State.sampleDump (s : State) (site nominal finish : Nat) (final : Bool) : State :=
  let s := (s.pmTicks site).settleDumps site
  let k := max 1 (s.rd PM_DSEQ.K site)
  let finish := max (max s.tt finish) (s.seq site).dump.done
  let r : DumpRec := ⟨finish, s.rd PM_DBASE.BASE site * 128, s.rd PM_DSIZE.SIZE site,
    s.dumpRecord site k s.tt nominal (decide (nominal < s.tt)) final⟩
  let s := ((s.putDump site r).wr PM_DSEQ.K (k + 1) site).settleDumps site
  s.modSeq site (fun q => { q with dump := ⟨q.dump.t0, q.dump.k + 1, s.tt, finish⟩ })

/-- T_k of the next dump: k intervals after the run's start time (R374). -/
def State.dumpNominal (s : State) (site : Nat) : Nat :=
  s.rd SQ_RUNT.T site + (s.seq site).dump.k * (s.rd PM_CTL.INTERVAL site * 3200)

/-- The dump with FINAL = 1 of R375. -/
def State.finalDump (s : State) (site : Nat) : State :=
  if s.on PM_CTL.DUMPEN site then s.sampleDump site (s.dumpNominal site) 0 true else s

/-! ## Lines at rest (R92, R400, R441, R442, R465) -/

/-- PE_EN of an engine forced to 0 until its force ends; PE_DRV keeps its level. -/
def State.forceEn (u : Nat) (s : State) : State :=
  (s.modChan u (fun c => { c with enCmd := false, enQ := [], forced := true })).wr CH_PELIVE.EN 0 u

/-- The force on PE_EN ends: at the site's next RUN, or at SITE_UNBIND (R400). -/
def State.endForce (u : Nat) (s : State) : State := s.modChan u (fun c => { c with forced := false })

/-- PE_EN of every channel and Mirror forced to 0. -/
def State.forceAllEn (s : State) : State := forAll (List.range 528) State.forceEn s

/-! ## The end of a run -/

/-- An engine's open window goes. -/
def State.dropWindow (u : Nat) (s : State) : State :=
  (s.wr CH_WINSTAT.OPEN 0 u).modChan u (fun c => { c with win := none })

/-- An open window of a channel is discarded without a judgement; the engine at the pad counts it (R227, R229). -/
def State.abandonWindow (n : Nat) (s : State) : State :=
  let s := if (s.chan (s.padEngine n)).win.isSome then s.inc CH_WINSTAT.ABAND n else s
  forAll (s.padEngine n :: (s.shadowEngine n).toList) State.dropWindow s

/-- A run that ended inside a stream-ring frame leaves the rest of that frame behind: the next section begins with the next
frame (R190; DEDUCED, log entry 43). -/
def State.dropHalfFrame (s : State) (site : Nat) : State :=
  let q := s.seq site
  if q.rpos = 0 then s
  else
    let left := (q.frames.head?.map (fun f => f.count - q.rpos)).getD 0
    let s := forAll (s.engines site) (fun e s => s.modChan e (fun c => { c with ringCodes := c.ringCodes.drop left })) s
    s.modSeq site (fun q => { q with frames := q.frames.tail, rpos := 0 })

/-- The ring flags are sampled for the newest vector at the start of the cycle after it (R83). -/
def State.sampleRf (s : State) (site : Nat) : State :=
  if (s.seq site).fresh.isSome then s.wr SQ_COND.RF (s.rfAt ((s.seq site).cyc / 1250)) site else s

/-- A channel of a site that has stopped: no edge is placed any more (R92) and the prefetched codes go. -/
def State.stopChan (u : Nat) (s : State) : State :=
  let s := s.modChan u (fun c => { c with
    enQ := [], fifo := [], reqs := [], walk := [], cand := [], source := none })
  s.wrs u [(CH_STRMSTAT.FILL, 0), (CH_STRMSTAT.BTB0, 0), (CH_STRMSTAT.BTB1, 0), (CH_STRMSTAT.LACK, 0),
    (CH_LBSTAT.REC, 0), (CH_LBSTAT.REPLAY, 0)]

/-- A channel is measured directly, away from the pad (R317). -/
def State.directly (s : State) (n : Nat) : Bool :=
  let c := s.calg (groupOf n)
  c.stage == 4 && !c.mirror && s.rd CA_GRP.CHAN 0 (groupOf n) == n

/-- A write takes effect in an engine, which it reaches in tick `t`. -/
def State.applyWrite (n t : Nat) (s : State) : HeldWrite → State
  | .timing k f => s.setFacet n k t { f with table := (s.facet n k).table }
  | .table k ws => s.setFacet n k t { (s.facet n k) with table := ws }
  | .cms k m => s.wr CH_CMSMASK.MEMBER (setBits (s.rd CH_CMSMASK.MEMBER n) k 1 (b2n m)) n
  | .bind => s.wr CH_CMSMASK.MEMBER 1 n
  | .unbind => (State.endForce n (State.forceEn n s)).wrs n [(CH_CMSMASK.MEMBER, 0), (CH_STRMCFG.VALID, 0)]

/-- The group's Mirror has the channel's state, or stands in for it: it takes the channel's writes too (R208, R318, R324). -/
def State.attached (s : State) (n : Nat) : Bool :=
  let g := groupOf n
  (s.rd CH_MSTAT.MODE g != 0 && s.rd CH_MSTAT.CHAN g == n)
    || (2 ≤ (s.calg g).stage && (s.calg g).mirror && s.rd CA_GRP.CHAN 0 g == n)

/-- A write reaches a channel in tick `t`; one that is being measured directly applies it when it returns to the pad (R317). -/
def State.writeChannel (s : State) (n t : Nat) (w : HeldWrite) : State :=
  if s.directly n then s.modChan n (fun c => { c with held := c.held ++ [w] })
  else
    let s := s.applyWrite n t w
    if s.attached n then s.applyWrite (512 + groupOf n) t w else s

/-- The writes that waited for a channel apply. -/
def State.applyHeld (s : State) (n : Nat) : State :=
  (s.chan n).held.foldl (State.applyWrite n s.tt) (s.modChan n (fun c => { c with held := [] }))

/-- The CMS staged by a CMS_WRITE takes effect on every channel of the site together (R232). -/
def State.applyCms (s : State) (site cms map : Nat) : State :=
  forAll (s.channels site) (fun n s => s.writeChannel n s.tt (.cms cms (bit map n))) s

/-- Every staged CMS takes effect, and its job completes (R232). -/
def State.issueCms (s : State) (site : Nat) : State :=
  let st := (s.seq site).cmsStage
  st.foldl (fun s c => (s.applyCms site c.cms c.map).completeJob c.job ok [] []) (s.modSeq site (fun q => { q with cmsStage := [] }))

/-- A RUN job for the site. -/
def Job.runsSite (j : Job) (site : Nat) : Bool := j.cmd.op == 0x0204 && j.cmd.d.site.toNat == site

/-- A RUN job that has put its site in RUNNING and waits for the start barrier (R82). -/
def State.startWaits (s : State) (j : Job) : Bool :=
  j.deferred && (s.seq j.cmd.d.site.toNat).waitBarrier && s.cal.waiters.all (fun w => w.job != j.id)

/-- The RUN job of a site that ends before its start barrier releases ends with ABORTED (DESIGN CHOICE, log entry 22). -/
def State.abortWaiting (s : State) (site : Nat) : State :=
  (s.mbx.jobs.filter (fun j => j.runsSite site && s.startWaits j)).foldl (fun s j => s.finishJob j aborted [] []) s

/-- A site leaves RUNNING: a staged CMS takes effect at once (R232), and the other members of a cross-chip site are told
(R82). An in-chip barrier that awaits the site stops counting it now (R98). -/
def State.leaveRunning (s : State) (site : Nat) : State :=
  if s.site site = stRunning then
    let from_ := if s.on SQ_BARSTAT.WAITING site then some (s.rd SQ_BARSTAT.BAR site)
      else if s.on SQ_RBARSTAT.WAITING site then some (16 + s.rd SQ_RBARSTAT.BAR site) else none
    let s := (s.issueCms site).modSeq site (fun q => { q with leftTime := s.tt, leftFrom := from_ })
    if 1 < s.rd SQ_STATE.CHIPS site then s.launch 0x08 (ringWord (toLe 1 site)) else s
  else s

/-- The run of a site is over in state `st` (DONE, HALTED or MACHINE_CHECK): R92, R193, R227, R232, R375. A HALT
instruction is no halt of R227: a window open at DONE stays until the next RUN discards it (log entry 36). -/
def State.endRun (s : State) (site st : Nat) : State :=
  let drained := (s.seq site).draining
  let s := s.pmTicks site
  let s := if (s.seq site).vecEnd then s else s.stopVectors site
  let s := (if (s.seq site).waitBarrier then s.abortWaiting site else s).leaveRunning site
  let s := s.wrs site [(SQ_STATE.STATE, st), (SQ_STATE.HALTPEND, 0), (SQ_CTRL.HALTREQ, 0), (SQ_NEST.STRM, 0),
    (SQ_NEST.PENDBR, 0), (SQ_BARSTAT.WAITING, 0), (SQ_RBARSTAT.WAITING, 0), (SQ_QDEPTH.DEPTH, 0), (SQ_SRSTAT.INPAD, 0),
    (SQ_UPC.STALL, 0), (SQ_UPC.WAITING, 0)]
  let s := if st = stDone then s else forAll (s.channels site) State.abandonWindow s
  let s := forAll (s.engines site) State.stopChan ((s.sampleRf site).dropHalfFrame site)
  let s := forAll ((s.channels site).filter s.fenced) State.forceEn s
  let s := s.modSeq site (fun q => { q with
    queue := [], brc := none, body := none, gate := false, section_ := false, started := false, inRoutine := false,
    stall := none, closing := false, episode := false, recording := false, arrived := false, recBase := none,
    vecEnd := false, draining := false, waitBarrier := false, fresh := none, mstack := [], own := [], votes := [] })
  let s := s.leaveBars site
  if drained then s else s.finalDump site

/-- Priority of a halt cause (Table 3-7). -/
def haltPriority (cause : Nat) : Nat :=
  if cause = 2 then 1 else if cause = 3 then 2 else if cause = 4 then 3 else if cause = 1 then 4 else 5

/-- A halt cause other than a machine check reaches a site (R90, R94): RUNNING becomes HALTING. The cause reaches the
vector side within 20 ns; how soon is open, so a drawn number of ticks up to 64 passes (log entry 12). Of causes in one
CK_SEQ cycle the one of the lowest priority number is recorded; which ticks form a cycle is open (R24), the model takes
those of one quotient by 4 (DESIGN CHOICE, log entry 77). -/
def State.postHalt (s : State) (site cause : Nat) : State :=
  if s.site site = stRunning then
    let (r, s) := (s.leaveRunning site).draw
    let s := s.wrs site [(SQ_STATE.STATE, stHalting), (SQ_STATE.CAUSE, cause), (SQ_STATE.HALTPEND, 1), (SQ_QDEPTH.DEPTH, 0)]
    let s := s.leaveBars site
    let s := s.modSeq site (fun q => { q with haltAt := s.tt + r % 65, haltTick := s.tt })
    if (s.seq site).started then s else s.stopVectors site
  else if s.site site = stHalting ∧ s.tt / 4 = (s.seq site).haltTick / 4
      ∧ haltPriority cause < haltPriority (s.rd SQ_STATE.CAUSE site) then
    s.wr SQ_STATE.CAUSE cause site
  else s

/-- The SITE_HALTED event (Table 2-10): cause, the IA at which the sequencer stopped and the VA of the first vector that
did not play (R93). -/
def State.haltedEvent (s : State) (site : Nat) : State :=
  s.event 2 site s.tt (toLe 1 (s.rd SQ_STATE.CAUSE site) ++ zeros 3 ++ toLe 4 (s.rd SQ_IA.IA site)
    ++ toLe 5 (s.vaNow site))

/-- A site in RUNNING or HALTING goes to MACHINE_CHECK with cause 3: its sequencer stops at once, the vector side as for any
halt cause; SITE_HALTED follows when both have stopped (R90, R172, Table 3-6). `region` is the control-store region in
error. -/
def State.machineCheck (s : State) (site region : Nat) : State :=
  if s.busySite site then
    let halting := s.site site == stHalting
    let (r, s) := ((s.pmTicks site).leaveRunning site).draw
    let s := s.wrs site [(SQ_STATE.STATE, stMachineCheck), (SQ_STATE.CAUSE, 3), (SQ_STATE.HALTPEND, 1),
      (SQ_UPC.STALL, 0), (SQ_UPC.WAITING, 0)]
    let s := (s.leaveBars site).modSeq site (fun q => { q with
      inRoutine := false, stall := none, closing := false, ended := true, draining := true, mcRegion := some region,
      haltAt := if halting then q.haltAt else s.tt + r % 65 })
    (if (s.seq site).started ∨ (s.seq site).vecEnd then s else s.stopVectors site).finalDump site
  else s

/-- What is left of a machine check whose vector side has not stopped ends: the run is over and SITE_HALTED is written. -/
def State.endDrain (s : State) (site : Nat) : State :=
  if (s.seq site).draining then (s.endRun site stMachineCheck).haltedEvent site else s

/-- A loaded pattern that can no longer be used makes its site INVALID (Table 3-6). -/
def State.invalidate (s : State) (site : Nat) : State :=
  if [stIdle, stLoaded, stDone, stHalted].contains (s.site site) then s.wr SQ_STATE.STATE stInvalid site else s

/-- Every site in RUNNING or HALTING takes a halt cause. -/
def State.haltAll (s : State) (cause : Nat) : State :=
  forAll (List.range 64) (fun i s => s.postHalt i cause) s

end Sys2Proof.Machine
end

