-- ==== Sys2Proof/Machine/Issue.lean ====
section
/-!
DEFINITION. The issue side of a sequencer (04): dispatch of pattern instructions, the dispatch checks, and the issue of
bundles. The meanings of the pattern instructions stand in Pattern.lean.
-/
namespace Sys2Proof.Machine

/-! ## The instruction word (Table 4-1) -/

def piOp (w : Nat) : Nat := bits w 56 8
def piFacet (w : Nat) : Nat := bits w 51 5
def piFv (w : Nat) : Bool := bit w 50
def piCms (w : Nat) : Nat := bits w 46 4
def piCapc (w : Nat) : Nat := bits w 44 2
def piCond (w : Nat) : Nat := bits w 40 4
def piOpd (w : Nat) : Nat := bits w 0 40

/-- The instruction word of an opcode and its fields. -/
def piWord (op : Nat) (p : PI) : Nat :=
  op * 2 ^ 56 + p.facet.toNat * 2 ^ 51 + b2n p.fv * 2 ^ 50 + p.cms.toNat * 2 ^ 46 + p.capc.toNat * 2 ^ 44
    + p.cond.toNat * 2 ^ 40 + p.operand.toNat

/-- The PI at an IA of the site's instruction region (R100). -/
def State.piAt (s : State) (site ia : Nat) : Nat := le (s.vmem.readN (s.rd SQ_INSTBASE.BASE site + 8 * ia) 8)

/-! ## Places of the control store (R146, Table 5-12) -/

/-- A place's key in the table of places in error. -/
def placeKey : CsPlace → Nat
  | .word a => a.toNat
  | .entry e => 0x1000 + e.toNat
  | .matchReg i => 0x2000 + i.val

/-- The place's number, as SQ_UERR.UADDR holds it. -/
def placeNumber : CsPlace → Nat
  | .word a => a.toNat
  | .entry e => e.toNat
  | .matchReg i => i.val

/-- The address of a fault message about the place (R172): for a match register the micro-address of its patch word, since
its number would name a mask ROM word (DESIGN CHOICE, log entry 80). -/
def placeAddress : CsPlace → Nat
  | .matchReg i => 0xC00 + i.val
  | p => placeNumber p

/-- The region of a key: 0 mask ROM, 1 customer RAM, 2 patch RAM. -/
def csRegion (key : Nat) : Nat :=
  if key < 0x800 then 0 else if key < 0xC00 then 1 else if key < 0x1000 then 2
  else if key < 0x10C0 then 0 else if key < 0x2000 then 1 else 2

/-- The region of a place. -/
def placeRegion (p : CsPlace) : Nat := csRegion (placeKey p)

/-- Slices of a control-store place that a scrub found in error (R173). -/
def Seq.badSlices (q : Seq) (p : CsPlace) : Nat := Tab.get 0 q.faulty (placeKey p)

/-! ## The issue queue -/

/-- The item is a bundle of the 64-entry issue queue; a WAITX with bound 0 issues none (R133). -/
def Item.isBundle : Item → Bool
  | .bundle .. | .replay .. | .matchLoop .. => true
  | .waitx _ _ bound .. => bound != 0
  | _ => false

/-- Vectors an item still plays, where that is fixed. -/
def Item.vectors : Item → Nat
  | .bundle _ n _ _ _ => n
  | .replay lo hi times pos _ => (hi - lo) * times - pos
  | _ => 0

/-- Bundles in the issue queue. -/
def Seq.depth (q : Seq) : Nat := q.queue.countP Item.isBundle

/-- Bundles in the issue queue as SQ_QDEPTH and CSEL show them: once a halt cause is taken those left are discarded, though
the ones whose issue stage begins before it reaches the engines still play (R90). -/
def State.depthNow (s : State) (site : Nat) : Nat := if s.site site = stRunning then (s.seq site).depth else 0

/-- The issue queue is full (R155). -/
def Seq.full (q : Seq) : Bool := 64 ≤ q.depth

/-- An item enters the queue; in HALTING what a routine still writes is discarded (R90). -/
def State.push (s : State) (site : Nat) (it : Item) : State :=
  if s.site site = stHalting then s else s.modSeq site (fun q => { q with queue := q.queue ++ [it] })

/-- SQ_NEST and the pending mark follow the sequencer (Table 4-7). -/
def State.syncNest (s : State) (site : Nat) : State :=
  let q := s.seq site
  s.wrs site [(SQ_NEST.LDEPTH, q.loops.length), (SQ_NEST.SDEPTH, q.calls.length), (SQ_NEST.STRM, b2n q.section_)]

/-- The target head is speculative: the shadow is complete and the decision is not known (R125). -/
def State.speculative (s : State) (site : Nat) : Bool :=
  let q := s.seq site
  match q.brc with
  | some b => q.issued - b.ref - 1 ≥ s.rd SQ_DLAT.D site - 1 && q.loops.length ≤ b.depth
  | none => false

/-- A device halt code ends the site as a HALT at the faulting PI would (R140). SQ_PIERR takes the IA at once; on the
fall-through head of a pending branch, which may yet be discarded (R125), it takes it when the code is reached. -/
def State.devHalt (s : State) (site code : Nat) : State :=
  let ia := (s.seq site).ia
  let s := if s.speculative site then s else s.wr SQ_PIERR.IA ia site
  (s.push site (.halt code (some ia))).modSeq site (fun q => { q with ended := true, inRoutine := false })

/-! ## Dispatch checks (R105, R123–R125, R130, R137, R141) -/

/-- The opcodes a head may hold (R124), and a MATCH body (R130). -/
def headOps : List Nat := [0x01, 0x02, 0x03, 0x21, 0x22]

/-- The opcodes a shadow may hold (R123). -/
def shadowOps : List Nat := [0x01, 0x02, 0x03, 0x21, 0x22, 0x23, 0x08, 0x09]

/-- The opcodes a streamed section may hold (R137). -/
def sectionOps : List Nat := [0x01, 0x03, 0x21, 0x22, 0x23, 0x19, 0x2F, 0x24, 0x08, 0x09]

/-- What the dispatch checks say of the next PI. -/
inductive Gate where
  | go | wait | bad (code : Nat)
  deriving DecidableEq, Repr

/-- The loop whose body starts at `ia` is buffered: its body holds only VEC, VEC.A, RPT, TSW, CAP and buffered loops, and
one iteration plays at most 4,096 vectors (R116). The stack holds, innermost first, the count of each open loop and the
vectors of its iteration so far; `fuel` bounds the PIs looked at. -/
def State.scanLoop (s : State) (site : Nat) : (fuel : Nat) → (ia : Nat) → (stack : List (Nat × Nat)) → Bool
  | 0, _, _ => false
  | fuel + 1, ia, stack =>
    let w := s.piAt site ia
    let op := piOp w
    match stack with
    | [] => false
    | (c, v) :: rest =>
      if 4096 < v then false
      else if op = 0x01 ∨ op = 0x03 then s.scanLoop site fuel (ia + 1) ((c, v + piOpd w) :: rest)
      else if op = 0x02 then s.scanLoop site fuel (ia + 1) ((c, v + 1) :: rest)
      else if op = 0x21 ∨ op = 0x22 then s.scanLoop site fuel (ia + 1) ((c, v) :: rest)
      else if op = 0x08 then s.scanLoop site fuel (ia + 1) ((piOpd w, 0) :: (c, v) :: rest)
      else if op = 0x09 then
        match rest with
        | [] => true
        | (c', v') :: rest' => s.scanLoop site fuel (ia + 1) ((c', v' + c * v) :: rest')
      else false

/-- The PI is a LOOP, at the IA before `ia`, that opens an unbuffered loop. -/
def State.opensUnbuffered (s : State) (site ia w : Nat) : Bool :=
  piOp w == 0x08 && !s.scanLoop site ((s.seq site).pat.npi - ia) ia [(bits (piOpd w) 0 32, 0)]

/-- The dispatch checks on the next PI (R123, R124, R130, R137). -/
def State.gateOf (s : State) (site w : Nat) : Gate :=
  let q := s.seq site
  let op := piOp w
  let open_ := s.opensUnbuffered site (q.ureg 13 + 1) w
  let head : Gate := if headOps.contains op ∧ q.headCount < 4 then .go else .wait
  match q.brc with
  | some b =>
    if q.issued - b.ref - 1 < s.rd SQ_DLAT.D site - 1 ∨ b.depth < q.loops.length then
      if shadowOps.contains op ∧ ¬ open_ ∧ ¬ (op = 0x09 ∧ q.loops.length ≤ b.depth) then .go else .bad 0xFF02
    else head
  | none =>
    let inSection : Gate := if q.section_ ∧ (¬ sectionOps.contains op ∨ open_) then .bad 0xFF0C else .go
    if q.gate then (if head = .go then inSection else .wait)
    else match q.body with
      | some _ => if headOps.contains op then .go else .bad 0xFF0F
      | none => inSection

/-- Reserved and required-zero fields of a PI (R102, R103, R105, Table 4-3). -/
def piReservedOk (w : Nat) : Bool :=
  let op := piOp w
  let o := piOpd w
  let c := piCond w
  (piFv w || piFacet w == 0) &&
  ([0x01, 0x02, 0x03, 0x19].contains op || 0xC0 ≤ op || piCms w == 0) &&
  (if [0x01, 0x02, 0x03].contains op then c == 0
   else if [0x08, 0x10, 0x11].contains op then c == 0 && bits o 32 8 == 0
   else if [0x09, 0x12, 0x21].contains op then c == 0 && o == 0
   else if op == 0x14 then bits o 32 4 == 0
   else if op == 0x20 then bits o 20 19 == 0
   else if op == 0x22 then bits o 16 24 == 0
   else if op == 0x23 then bits o 2 38 == 0
   else if op == 0x24 then bits c 2 2 == 0 && o == 0
   else if op == 0x2F then c == 0 && bits o 16 24 == 0 && o < 0xFF00
   else true)

/-- A condition class and index that an opcode permits (Table 4-4). -/
def condOk (op cls idx : Nat) : Bool :=
  let red := 1 ≤ cls && cls ≤ 9
  let int_ := cls == 0xA || cls == 0xB
  (if op == 0x14 then red || int_ else if op == 0x18 then red else 6 ≤ cls && cls ≤ 9) &&
  (if cls ≤ 5 then idx == 0 else if cls == 6 || cls == 9 || cls == 0xB then idx ≤ 3 else true)

/-- The condition of a PI (R121). -/
def piCondition (w : Nat) : Cond := ⟨piCond w, bit (piOpd w) 39, bits (piOpd w) 36 3⟩

/-! ## Issuing (R102–R104, R108–R111, R154) -/

/-- The Facet the PI's vectors take, if FV names one that was defined at RUN (R102, R215). -/
def Seq.facetOf (q : Seq) (w : Nat) : Option Nat :=
  if piFv w then (if bit q.facetsAtRun (piFacet w) then some (piFacet w) else none) else some q.facet

/-- How many of `n` vectors from `va` the loaded pattern has (R111, R177). -/
def Pattern.covered (p : Pattern) (inSection : Bool) (va n : Nat) : Nat :=
  if inSection then
    p.spans.foldl (fun k sp => if sp.1 ≤ va + k ∧ va + k < sp.1 + sp.2 then min n (sp.1 + sp.2 - va) else k) 0
  else min n (p.ns - va)

/-- Attributes of the first vector a PI issues: its own CAPC, else one left by PIs that issued none; the CAP event and
mark value and the fail mark that wait for the next vector (R104, R112, R113). -/
def Seq.headVec (q : Seq) (va facet cms capc : Nat) : Vec :=
  { q.next with va := va, facet := facet, cms := cms, capc := if capc = 0 then q.next.capc else capc }

/-- A bundle is issued: it and a discontinuity count at once, or, in a head that may yet be discarded, with the decision
(R125, R368). In HALTING it is discarded. -/
def State.countBundle (s : State) (site disc : Nat) : State :=
  if s.site site = stHalting then s
  else if s.speculative site then s.modSeq site (fun q => { q with
    headHeld := { q.headHeld with bundles := q.headHeld.bundles + 1, discs := q.headHeld.discs + disc } })
  else (s.pm site 0x0C 1).pm site 0x11 disc

/-- A bundle enters the issue queue; `n` is not 0. -/
def State.issue (s : State) (site : Nat) (src : Source) (n : Nat) (v : Vec) : State :=
  let q := s.seq site
  let disc := src ≠ .held ∧ q.runEnd.isSome ∧ q.runEnd ≠ some v.va
  let s := s.countBundle site (if disc then 1 else 0)
  let s := s.push site (.bundle src n v false none)
  s.modSeq site (fun q => { q with
    issued := q.issued + n, next := {},
    lastVa := some (if src = .held then v.va else v.va + n - 1),
    runEnd := if src = .held then q.runEnd else some (v.va + n) })

/-- The MATCH body is complete once LEN vectors have been issued: the recording ends and the replay bundle enters the
queue, at a full one after a stall (R155); more than LEN is a device halt (R130). -/
def State.closeBody (s : State) (site : Nat) : State :=
  let q := s.seq site
  match q.body with
  | some b =>
    if q.issued - b.from_ < b.len then s
    else if q.issued - b.from_ = b.len ∧ q.full ∧ s.site site = stRunning then
      (s.modSeq site (fun q => { q with stall := some q.pi, closing := true })).wr SQ_UPC.STALL 1 site
    else if q.issued - b.from_ = b.len then
      let s := ((s.push site .recEnd).push site (.matchLoop b.cond b.from_ b.len b.max b.hit none)).countBundle site 0
      s.modSeq site (fun q => { q with body := none, recBase := none, gate := true, headCount := 0, closing := false })
    else s.devHalt site 0xFF0F
  | none => s

/-- VA moves behind the vectors of a run that the pattern has (R108, R109, R111; DEDUCED, log entry 72). -/
def Seq.advanceVa (q : Seq) (va n facet : Nat) : Seq :=
  if bit q.facetsAtRun facet then q.setU 14 (va + q.pat.covered q.section_ va n) else q

/-- Vectors of a run or repeat PI are issued; those beyond the loaded vectors end the site with 0xFF10 after the ones
before them (R111). Vectors under a Facet that was undefined at RUN end it with 0xFF0D (R215; DEDUCED, log entry 29). -/
def State.issueVectors (s : State) (site : Nat) (src : Source) (va n facet cms capc : Nat) : State :=
  let q := s.seq site
  let ok := if src = .held then (if q.pat.covered q.section_ va 1 = 1 then n else 0) else q.pat.covered q.section_ va n
  if ¬ bit q.facetsAtRun facet then s.devHalt site 0xFF0D
  else
    let s := if ok = 0 then s else s.issue site src ok (q.headVec va facet cms capc)
    let s := s.closeBody site
    if ok < n then s.devHalt site 0xFF10 else s

/-! ## Dispatch (R159) -/

/-- A PI boundary: IA becomes U13, unless the PI ended the site, stalls or runs a customer routine (R159). -/
def State.boundary (s : State) (site : Nat) : State :=
  let q := s.seq site
  if q.ended ∨ q.stall.isSome ∨ q.inRoutine then s else s.wr SQ_IA.IA (q.ureg 13) site

/-- Dispatch of the next PI of a RUNNING site: U13 names its IA, the dispatch checks apply, U12, U13 and U15 load, and
its routine runs to the next PI boundary. While the site is not RUNNING, has ended, is inside a customer routine or
waits for a decision, nothing is dispatched. What shows of a PI of a head that may yet be discarded waits for the decision
(R125). Where a PI has two faults the specification gives no order: the checks of R159 come first, then R105, then FV, then
the routine's own in the order it makes them. For an IA at or above the PI count SQ_PIERR takes that IA (DESIGN CHOICE, log
entry 75). -/
def State.dispatch (s : State) (site w : Nat) (routine : State → Nat → Nat → State) : State :=
  let q := s.seq site
  if s.site site ≠ stRunning ∨ q.ended ∨ q.inRoutine ∨ q.stall.isSome then s
  else
    let ia := q.ureg 13
    let spec := s.speculative site
    let s1 := (if spec then s else s.wr SQ_IA.IA ia site).modSeq site (fun q => { q with ia := ia })
    if q.pat.npi ≤ ia then
      if spec ∨ q.gate then (if 4 ≤ q.headCount then s else s1.devHalt site 0xFF0B)
      else s1.devHalt site 0xFF0B
    else match s.gateOf site w with
      | .wait => s
      | .bad code => s1.devHalt site code
      | .go =>
        let s := s1.modSeq site (fun q =>
          { (((q.setU 12 (piOpd w)).setU 13 (ia + 1)).setU 15 (bits w 40 24)) with
            pi := w, headCount := if spec ∨ q.gate then q.headCount + 1 else q.headCount,
            headHeld := if spec then { q.headHeld with pis := q.headHeld.pis + 1 } else q.headHeld })
        let s := if spec then s else s.pm site 0x0B 1
        if piReservedOk w then
          let s := routine s site w
          (if spec then s else s.boundary site).syncNest site
        else s.devHalt site 0xFF0D

/-- A routine reached an issuing word with the issue queue full: it stalls there (R155). -/
def State.stallPi (s : State) (site w : Nat) : State :=
  (s.modSeq site (fun q => { q with stall := some w })).wr SQ_UPC.STALL 1 site

/-- The issuing part of a PI: it stalls while the queue is full and the PI issues something. -/
def State.withRoom (s : State) (site w n : Nat) (k : State → State) : State :=
  if (s.seq site).full ∧ n ≠ 0 ∧ s.site site = stRunning then s.stallPi site w else k s

/-! ## The target head (R124, R125, R127) -/

/-- The pre-executed target head: its items, and the IA, VA, Facet (none: the Facet at the branch point) and attributes
behind it. -/
structure HeadRun where
  items : List Item := []
  ia : Nat
  va : Nat
  facet : Option Nat := none
  next : Vec := {}
  last : Nat := 0
  n : Nat := 0
  deriving DecidableEq, Repr

/-- At most `fuel` PIs of the target head, pre-executed. A PI that would raise a device halt code ends the head: it is
dispatched after the decision. -/
def State.runHead (s : State) (site : Nat) : (fuel : Nat) → HeadRun → HeadRun
  | 0, h => h
  | fuel + 1, h =>
    let q := s.seq site
    let w := s.piAt site h.ia
    let op := piOp w
    let f := if piFv w then some (piFacet w) else h.facet
    let bad := q.pat.npi ≤ h.ia ∨ ¬ headOps.contains op ∨ ¬ piReservedOk w ∨ (piFv w ∧ ¬ bit q.facetsAtRun (piFacet w))
    if bad then h
    else
      let vec (va : Nat) : Vec :=
        { h.next with va := va, facet := f.getD 0, cms := piCms w, capc := if piCapc w = 0 then h.next.capc else piCapc w }
      let go (src : Source) (va n : Nat) : HeadRun :=
        { items := h.items ++ [.bundle src n (vec va) f.isNone none], ia := h.ia + 1,
          va := if src = .held then h.va else (va + n) % 2 ^ 40, facet := f, next := {},
          last := if src = .held then va else va + n - 1, n := h.n + n }
      let keep : HeadRun := { h with
        ia := h.ia + 1, facet := f, next := { h.next with capc := if piCapc w = 0 then h.next.capc else piCapc w } }
      if op = 0x02 then
        if q.pat.covered false (piOpd w) 1 = 1 then s.runHead site fuel (go .stored (piOpd w) 1) else h
      else if op = 0x01 then
        if piOpd w = 0 then s.runHead site fuel keep
        else if q.pat.covered false h.va (piOpd w) = piOpd w then s.runHead site fuel (go .stored h.va (piOpd w)) else h
      else if op = 0x03 then
        if piOpd w = 0 then s.runHead site fuel keep else s.runHead site fuel (go .held h.last (piOpd w))
      else if op = 0x22 then
        s.runHead site fuel { keep with
          next := { keep.next with event := some (piCond w), mark := some (piOpd w) } }
      else s.runHead site fuel keep

end Sys2Proof.Machine
end

