-- ==== Sys2Proof/Machine/Enter.lean ====
section
/-!
DEFINITION. Patch delivery and the entry of a site into RUNNING (R65, R101, R166, R181, R227, R233, R236, R371).
-/
namespace Sys2Proof.Machine

/-! ## Patch sets (R164–R166) -/

/-- The site after its region was loaded without error: a machine check of that region ends, its errors are forgotten, and
SQ_UERR clears if it names the region. -/
def State.endMachineCheck (s : State) (i region : Nat) : State :=
  let s := if s.site i = stMachineCheck ∧ (s.seq i).mcRegion = some region then
      (s.endDrain i).wr SQ_STATE.STATE (if (s.seq i).pat.npi = 0 then stIdle else stLoaded) i else s
  let left := (s.seq i).badRegions.filter (· != region)
  let s := if s.rd SQ_UERR.REGION i = region ∨ left = [] then s.wr SQ_UERR.VALID 0 i else s
  s.modSeq i (fun q => { q with
    faulty := q.faulty.filter (fun e => csRegion e.1 != region), badRegions := left,
    mcRegion := if q.mcRegion = some region then none else q.mcRegion })

/-- A patch set is written: the patch words, then the match registers (R166). -/
def State.loadPatch (s : State) (i : Nat) (p : Bytes) : State :=
  let s := (List.range 64).foldl (fun s j => s.wr SQ_PATCH.WORD (field p (264 + 24 * j) 18) i j) s
  let s := (List.range 64).foldl (fun s j =>
    let m := field p (8 + 4 * j) 4
    ((s.wr SQ_MATCH.ROMADDR m i j).wr SQ_MATCH.EN (m / 2 ^ 11) i j).wr SQ_MATCH.PAR (m / 2 ^ 12) i j) s
  (s.wrs i [(SQ_UPATCHVER.VERSION, field p 0 4), (SQ_UCTL.PATCHOK, 1)]).endMachineCheck i 2

/-- At RUN the active image's patch set is delivered if the loaded one is older (R166). The set's content stands in the
image (Config.patchSet). -/
def State.deliverPatch (s : State) (i : Nat) : State :=
  if s.rd SQ_UPATCHVER.VERSION i < s.sec.active.patchver then
    s.loadPatch i (toLe 4 s.sec.active.patchver ++ (fit 1800 (Config.patchSet s.sec.active.dig)).drop 4)
  else s

/-! ## Entering RUNNING -/

/-- The counters that clear bit 1 zeroes (R233). -/
def State.clearCounts (u : Nat) (s : State) : State :=
  s.wrs u [(CH_FCNT.COUNT, 0), (CH_FFVA.VA, 0), (CH_FFVA.VALID, 0), (CH_MCNT.COUNT, 0), (CH_ILLCNT.COUNT, 0),
    (CH_WINSTAT.STRAY, 0), (CH_WINSTAT.ABAND, 0)]

/-- An engine at the start of a run: the record counts restart (R236), PE_EN is driven on from the level it has (R92) and the
force on it ends unless the unit is fenced (R400, R442). Codes read from the stream ring and not played stay (R193, R194;
log entry 43). -/
def State.startChan (u : Nat) (s : State) : State :=
  let s := s.wrs u [(CH_FRCNT.PROD, 0), (CH_FRCNT.DROP, 0)]
  let keep := s.fenced u
  let en := s.on CH_PELIVE.EN u
  s.modChan u (fun c => { c with
    fifo := [], reqs := [], walk := [], cand := [], source := none, enCmd := en, enQ := [], forced := c.forced && keep,
    failLog := [] })

/-- Facets that every channel of the site defines when RUN is served (R215). -/
def State.facetsDefined (s : State) (i : Nat) : Nat :=
  (s.channels i).foldl (fun m n => m &&& s.rd CH_FVALID.DEF n) 0xFFFFFFFF

/-- The sequencer at RUN (R101): IA as named, VA 0, Facet 0, flags 0, nothing open. -/
def Seq.atRun (q : Seq) (ia facets : Nat) (barrier : Bool) : Seq :=
  { u := (({} : Seq).setU 13 ia).u, facetsAtRun := facets, pat := q.pat,
    hiLatch := q.hiLatch, faulty := q.faulty, badRegions := q.badRegions, waitBarrier := barrier,
    frames := q.frames }

/-- The site enters RUNNING from `ia`. With one chip the run starts 2 µs later (R181); with more the start barrier gives
its start time (R82). `facets` are the Facets defined when RUN was served (R215). -/
def State.enterRun (s : State) (i ia : Nat) (clear : Bool) (facets : Nat) : State :=
  let es := s.engines i
  let us := (s.channels i ++ es).eraseDups
  let s := if clear then forAll us State.clearCounts s else s
  let s := forAll us State.startChan (forAll (s.channels i) State.abandonWindow s)
  let s := if s.on PM_CTL.CLRRUN i then (s.pmClear i).wr PM_DSEQ.K 0 i else s
  let cross := 1 < s.rd SQ_STATE.CHIPS i
  let s := (List.range 4).foldl (fun s k => s.wr SQ_LC.COUNT 0 i k) s
  let s := s.wrs i [(SQ_STATE.STATE, stRunning), (SQ_STATE.CAUSE, 15), (SQ_STATE.HALTPEND, 0), (SQ_CTRL.HALTREQ, 0),
    (SQ_IA.IA, ia), (SQ_VA.VA, 0), (SQ_FLAGS.F, 0), (SQ_NEST.LDEPTH, 0), (SQ_NEST.SDEPTH, 0), (SQ_NEST.PENDBR, 0),
    (SQ_NEST.STRM, 0), (SQ_PIERR.IA, 0xFFFFFFFF), (SQ_SRSTAT.UR, 0), (SQ_SRSTAT.MISMATCH, 0), (SQ_SRSTAT.INPAD, 0),
    (SQ_SRSTAT.EPISODES, 0), (SQ_SRPAD.PAD, 0)]
  let s := if cross then s else s.wr SQ_RUNT.T (s.tt + 6400) i
  s.modSeq i (fun q => { q.atRun ia facets (decide cross) with barTime := s.tt, ticksTo := s.tt, dumps := q.dumps })

end Sys2Proof.Machine
end

