-- ==== Sys2Proof/Machine/Tia.lean ====
section
/-!
DEFINITION. The measurement units (09): arming, accepted edges, results.
-/
namespace Sys2Proof.Machine

/-- The measurement unit of a unit ID. -/
def State.tia (s : State) (u : Nat) : Tia := Tab.get {} s.tias u

/-- A measurement unit changed. -/
def State.modTia (s : State) (u : Nat) (f : Tia → Tia) : State := { s with tias := Tab.modify {} s.tias u f }

/-- The unit that measures for a channel: its own, or the Mirror's while that replaces the fenced channel (R262). -/
def State.tiaUnit (s : State) (n : Nat) : Nat := if s.rd CH_CALSTAT.STANDIN n = 2 then 512 + groupOf n else n

/-- The comparator lines of a unit are those of the channel it plays for. -/
def State.lineOf (s : State) (u : Nat) : Nat := if u < 512 then u else s.rd CH_MSTAT.CHAN (u - 512)

/-- One tick in frac. -/
def frac : Nat := 4096

/-- Half steps as frac, to the nearest (R258). -/
def fracOfHalfSteps (t : Nat) : Nat := (t * 4096 + 1250) / 2500

/-- The self-calibration of R250: each interpolator's averages are what it measured, so open values. -/
def State.selfCal (s : State) (u : Nat) : State :=
  let s := (List.range 4).foldl (fun s i =>
    let (a, s) := s.draw
    let (b, s) := s.draw
    (s.wr CH_TIACAL.R1 a u i).wr CH_TIACAL.R2 b u i) s
  s.modTia u (fun t => { t with calAt := s.tt })

/-- Rounded quotient of two integers, halves up. -/
def divRound (a b : Int) : Int := (2 * a + b) / (2 * b)

/-- The stamp of an edge, in frac: raw code `r` of interpolator `i`, charge ended at tick `t2` (R251). The fraction is
open where the two averages are equal. -/
def State.stampEdge (s : State) (u i t2 r : Nat) : Nat × State :=
  let r1 : Int := s.rd CH_TIACAL.R1 u i
  let r2 : Int := s.rd CH_TIACAL.R2 u i
  let (k, s) : Int × State :=
    if r2 = r1 then (let (x, s) := s.draw; (((x % 4097 : Nat) : Int), s))
    else
      let a := 4096 * ((r : Int) - r1)
      (if r2 < r1 then divRound (-a) (r1 - r2) else divRound a (r2 - r1), s)
  let k := (max 0 (min k 4096)).toNat
  (t2 * frac - frac - k, s)

/-! ## Results (R259, R260) -/

/-- The result record of Table 9-6. -/
def Tia.record (t : Tia) (u status skipped : Nat) : Bytes :=
  let nval := t.values.length
  let calOld := decide (t.values ≠ [] ∧ t.lastStamp > (t.calAt + 3200000000) * frac)
  let st := t.startAt.getD 0
  toLe 1 t.mode ++ toLe 1 status ++ toLe 1 nval ++ toLe 1 (b2n (decide (512 ≤ u)) + 2 * b2n calOld)
    ++ toLe 2 t.chan ++ toLe 2 t.rseq ++ toLe 8 (st / frac) ++ toLe 2 (st % frac)
    ++ toLe 2 (if t.mode = 3 then t.dirs else 0) ++ toLe 4 (min skipped (2 ^ 32 - 1))
    ++ toLe 6 (if t.mode = 2 then t.count else 0) ++ zeros 2
    ++ fit 128 (t.values.flatMap (fun v => toLe 8 (unsgn 64 v)))

/-- A result stored: the buffer holds 16, the oldest is overwritten (R239, R260). -/
def State.storeResult (s : State) (u status : Nat) : State :=
  let t := s.tia u
  let r := t.record u status t.skipped
  let full := decide (16 ≤ t.records.length)
  let s := if full then s.inc CH_TIALOST.LOST u else s
  s.modTia u (fun t => { t with
    records := (if full then t.records.tail else t.records) ++ [r], rseq := (t.rseq + 1) % 65536 })

/-- The measurement's values cleared for the next one. -/
def Tia.fresh (t : Tia) : Tia :=
  { t with startAt := none, values := [], dirs := 0, count := 0, skipped := 0, lastEdge := none }

/-- A measurement ends: its result is stored, and with repetitions left the unit recalibrates (R257), or is held while
calibration has the channel (R261). -/
def State.endMeasure (s : State) (u status : Nat) : State :=
  let t := s.tia u
  let s := if status = 3 ∧ t.values = [] then s else s.storeResult u status
  let s := s.modTia u Tia.fresh
  let left := s.rd CH_TIASTAT.REMAIN u
  let left := if t.endless then left else left - 1
  let left := if status = 3 ∨ status = 4 then 0 else left
  let s := s.wr CH_TIASTAT.REMAIN left u
  s.wr CH_TIASTAT.STATE (if left = 0 then 0 else if status = 2 then 4 else 1) u

/-- The unit begins to follow its channel's lines from their present levels (R253). -/
def State.watchTia (s : State) (u : Nat) : State :=
  let n := s.lineOf u
  let ch := s.on CH_PELIVE.CH n
  let cl := s.on CH_PELIVE.CL n
  s.modTia u (fun t => { t.fresh with ch := ch, cl := cl, sawHigh := ch && !cl, sawLow := cl && !ch })

/-- The unit is armed from now (R254). -/
def State.armTia (s : State) (u : Nat) : State :=
  ((s.watchTia u).modTia u (fun t => { t with armedAt := s.tt })).wr CH_TIASTAT.STATE 2 u

/-- A unit gives up the interpolators without a result. -/
def State.releaseTia (s : State) (u : Nat) : State :=
  (s.modTia u Tia.fresh).wrs u [(CH_TIASTAT.OWNER, 0), (CH_TIASTAT.STATE, 0), (CH_TIASTAT.REMAIN, 0)]

/-- A held unit is free again: it recalibrates and goes on with its repetitions (R261). -/
def State.resumeTia (s : State) (u : Nat) : State :=
  if s.rd CH_TIASTAT.REMAIN u ≠ 0 then (s.selfCal u).armTia u else s.wr CH_TIASTAT.STATE 0 u

/-- A measurement is armed or running. -/
def State.tiaArmed (s : State) (u : Nat) : Bool := s.rd CH_TIASTAT.STATE u == 2 || s.rd CH_TIASTAT.STATE u == 3

/-- The unit runs, waits for or prepares a measurement. -/
def State.tiaBusy (s : State) (u : Nat) : Bool :=
  let st := s.rd CH_TIASTAT.STATE u
  st == 1 || st == 2 || st == 3

/-- The unit has repetitions left and is not armed yet: it recalibrates, or calibration holds it (R257, R261). -/
def State.tiaRearming (s : State) (u : Nat) : Bool :=
  s.rd CH_TIASTAT.STATE u == 1 || (s.rd CH_TIASTAT.STATE u == 4 && s.rd CH_TIASTAT.REMAIN u != 0)

/-- A start at an instant in frac: the armed measurement runs; before it is armed again the start is missed (R257, R258). -/
def State.startMeasure (s : State) (u t : Nat) : State :=
  let st := s.rd CH_TIASTAT.STATE u
  if s.tiaRearming u then s.inc CH_TIAMISS.MISS u
  else if st = 2 ∧ (s.tia u).armedAt * frac ≤ t then
    (s.modTia u (fun x => { x with startAt := some t })).wr CH_TIASTAT.STATE 3 u
  else s

/-- The PE_DRV transitions of a cycle: the first after arming starts the measurement of a unit armed with START 1, at its
commanded instant (R258). -/
def State.tiaDrive (s : State) (n : Nat) : State :=
  let u := s.tiaUnit n
  if (s.tia u).start = 1 ∧ (s.tia u).mode ≠ 1 then
    (s.chan (s.padEngine n)).drvEdges.foldl (fun s e =>
      s.startMeasure u (fracOfHalfSteps (e.time + 2 * s.fixDrv n).toNat)) s
  else s

/-- A vector that carries CAP event `e` starts the units armed with START 3 on the site's channels (R258). -/
def State.tiaCap (s : State) (site e start : Nat) : State :=
  forAll (s.channels site) (fun n s =>
    let u := s.tiaUnit n
    if (s.tia u).start = 3 ∧ (s.tia u).event = e then s.startMeasure u (fracOfHalfSteps (2 * start)) else s) s

/-- A Prism trigger starts the units armed with START 2 (R258). -/
def State.tiaTrigger (s : State) (t : Nat) : State :=
  forAll (s.tias.map (·.1)) (fun u s => if (s.tia u).start = 2 then s.startMeasure u t else s) s

/-! ## Edges (R252, R253) -/

/-- An edge specification selects a line and direction (Table 9-1). -/
def edgeSelects (spec : Nat) (low rising : Bool) : Bool :=
  bit spec 0 == low && (bit spec 2 || bit spec 1 == !rising)

/-- Condition 1 of R253: with HYST the state has passed from the other extreme. -/
def Tia.hystOk (t : Tia) (spec : Nat) (low rising : Bool) : Bool :=
  !bit spec 3 || (if rising != low then t.sawLow else t.sawHigh)

/-- The comparator state follows a line: the levels, and the extremes of Table 8-1 seen since the last accepted edge; ILLEGAL
is neither. -/
def Tia.follow (t : Tia) (low rising : Bool) : Tia :=
  let t := if low then { t with cl := rising } else { t with ch := rising }
  { t with sawHigh := t.sawHigh || (t.ch && !t.cl), sawLow := t.sawLow || (t.cl && !t.ch) }

/-- An accepted edge begins a new span for condition 1. -/
def Tia.newSpan (t : Tia) : Tia := { t with sawHigh := t.ch && !t.cl, sawLow := t.cl && !t.ch }

/-- Conditions 2 and 3 of R253. -/
def Tia.spaced (t : Tia) (at_ : Nat) : Bool :=
  match t.lastEdge with
  | some l => decide (l + 2 * frac < at_ ∧ l + t.holdoff * frac < at_)
  | none => true

/-- An accepted edge at `at_` gives its value (Table 9-4). -/
def State.takeEdge (s : State) (u at_ : Nat) (rising : Bool) : State :=
  let t := s.tia u
  let note (t : Tia) : Tia := { t.newSpan with lastEdge := some at_, lastStamp := at_ }
  match t.startAt with
  | none =>
    (s.modTia u (fun t => { note t with startAt := some at_ })).wr CH_TIASTAT.STATE 3 u
  | some st =>
    if t.mode = 2 then
      let v : Int := (at_ : Int) - st
      s.modTia u (fun t => { note t with
        count := min (t.count + 1) (2 ^ 48 - 1),
        values := match t.values with
          | [] => [v, v]
          | f :: _ => [f, v] })
    else
      let v : Int := if t.mode = 1 then (at_ : Int) - t.lastEdge.getD st else (at_ : Int) - st
      let k := t.values.length
      let s := s.modTia u (fun t => { note t with
        values := t.values ++ [v], dirs := if rising then t.dirs + 2 ^ k else t.dirs })
      if t.nstop ≤ k + 1 then s.endMeasure u 0 else s

/-- The level of a line after a transition. -/
def State.setLine (s : State) (n : Nat) (low level : Bool) : State :=
  s.flag (if low then CH_PELIVE.CL else CH_PELIVE.CH) level n

/-- A transition of a line of the unit's channel, stamped under R251 and judged under R253. A Mirror measures only while it
replaces a fenced channel (R262). -/
def State.tiaEdge (s : State) (u : Nat) (low rising : Bool) (ip t2 raw : Nat) : State :=
  let n := s.lineOf u
  let (at_, s) := s.stampEdge u ip t2 raw
  let s := (s.reach t2).setLine n low rising
  let t := s.tia u
  let st := s.rd CH_TIASTAT.STATE u
  let waitsForEdge := t.startAt.isNone && (t.start == 0 || t.mode == 1)
  let spec := if t.startAt.isNone ∧ t.mode ≠ 1 then t.sedge else t.pedge
  let relevant := edgeSelects spec low rising
  let s := s.modTia u (fun t => t.follow low rising)
  if 512 ≤ u ∧ s.rd CH_MSTAT.MODE (u - 512) ≠ 3 then s
  else if s.tiaRearming u then
    if t.start = 0 ∧ relevant ∧ t.hystOk spec low rising ∧ t.spaced at_ then
      (s.modTia u (fun t => { t.newSpan with lastEdge := some at_ })).inc CH_TIAMISS.MISS u
    else s
  else if st = 2 ∨ st = 3 then
    let judged := relevant && (if waitsForEdge then decide (t.armedAt * frac ≤ at_)
      else t.startAt.any (fun x => if t.mode = 2 then x ≤ at_ && at_ < x + t.gate * frac else x < at_))
    if ¬ judged then s
    else if ¬ t.spaced at_ then (s.modTia u (fun t => { t with skipped := t.skipped + 1 })).inc CH_TIASKIP.SKIP u
    else if t.hystOk spec low rising then s.takeEdge u at_ rising
    else s
  else s

/-! ## TIA_ARM and TIA_READ (R254–R260) -/

/-- A channel is fenced and no Mirror stands in for it. -/
def State.unserved (s : State) (n : Nat) : Bool := s.fenced n && s.rd CH_CALSTAT.STANDIN n != 2

/-- The first refusal of Table 9-3 that applies. -/
def State.tiaRefusal (s : State) (d : Desc) : Option Nat :=
  let n := par d 24 2
  let mode := par d 26 1
  let start := par d 28 1
  let sedge := par d 29 1
  let pedge := par d 30 1
  let nstop := par d 31 1
  let timeout := par d 36 4
  let stime := par d 40 8
  let gate := par d 48 8
  let bad : Bool :=
    if mode = 4 then decide (bits d.params.toNat 24 296 ≠ 0)
    else 4 < mode || 4 < start || 16 ≤ sedge || 16 ≤ pedge || bit sedge 2
      || (bit pedge 2 && mode ≠ 0 && mode ≠ 3)
      || (if mode = 2 then nstop ≠ 0 else nstop = 0 || 16 < nstop) || 64 < par d 32 1
      || (if start = 3 then 15 < par d 33 1 else par d 33 1 ≠ 0) || timeout = 0 || 60000000 < timeout
      || (start ≠ 4 && stime ≠ 0) || (if mode = 2 then gate = 0 || timeout * 3200 ≤ gate else gate ≠ 0)
      || par d 56 8 ≠ 0 || (mode = 1 && start ≠ 0)
  if 512 ≤ n ∨ bad then some badParam
  else if s.unserved n then some fencedCode
  else if mode ≠ 4 ∧ start = 3 ∧ (s.siteOf n).isNone then some refusedState
  else if mode ≠ 4 ∧ start = 4 ∧ stime < s.tt + 32000 then some outOfRange
  else if 2 ≤ s.rd CH_TIASTAT.OWNER (s.tiaUnit n) then some busy
  else none

/-- TIA_ARM: R254–R256. -/
def tiaArm (c : Consumed) (s : State) : Act :=
  let d := c.d
  match s.tiaRefusal d with
  | some e => refuse e s
  | none =>
    let n := par d 24 2
    let u := s.tiaUnit n
    let s := if s.tiaArmed u then s.endMeasure u 3 else s
    if par d 26 1 = 4 then
      success [] ((s.releaseTia u).wrs u [(CH_TIASKIP.SKIP, 0), (CH_TIAMISS.MISS, 0)])
    else
      let rep := par d 34 2
      let s := s.wrs u [(CH_TIASTAT.OWNER, 1), (CH_TIASTAT.REMAIN, if rep = 0 then 0xFFFF else rep),
        (CH_TIASKIP.SKIP, 0), (CH_TIAMISS.MISS, 0)]
      let s := s.modTia u (fun t => { t with
        mode := par d 26 1, start := par d 28 1, sedge := par d 29 1, pedge := par d 30 1, nstop := par d 31 1,
        holdoff := par d 32 1, event := par d 33 1, timeout := par d 36 4, stime := par d 40 8, gate := par d 48 8,
        chan := n, endless := decide (rep = 0) })
      success [] ((s.selfCal u).armTia u)

/-- TIA_READ: up to LENGTH div 160 results, oldest first (R260). -/
def tiaRead (c : Consumed) (_id : Nat) (_p : Bytes) (s : State) : Act :=
  let n := par c.d 24 2
  if 512 ≤ n then refuse badParam s
  else if c.d.length.toNat < 160 then refuse outOfRange s
  else
    let u := s.tiaUnit n
    let k := min (c.d.length.toNat / 160) (s.tia u).records.length
    .done ok (toLe 4 k) ((s.tia u).records.take k).flatten (s.modTia u (fun t => { t with records := t.records.drop k }))

/-! ## Commands -/

/-- TIA_ARM: R254. -/
def execTiaArm (d : Desc) (s : State) : Host.Outcome State Fault Refusal := .next (s.serve 0x0400 d tiaArm)

/-- TIA_READ: R260. -/
def execTiaRead (d : Desc) (s : State) : Host.Outcome State Fault Refusal := .next (s.serveJob 0x0401 d [] tiaRead)

/-- TIA_EDGE: R251, R253, R257. -/
def execTiaEdge (unit : Fin 528) (low rising : Bool) (ip : Fin 4) (t2 : BitVec 64) (raw : BitVec 16) (s : State) :
    Host.Outcome State Fault Refusal :=
  .next (s.tiaEdge unit low rising ip t2.toNat raw.toNat)

/-- TIA_TIME_START: tester time reaches STIME (R258). -/
def execTiaTimeStart (unit : Fin 528) (s : State) : Host.Outcome State Fault Refusal :=
  let t := s.tia unit
  if t.start = 4 ∧ (s.rd CH_TIASTAT.STATE unit = 2 ∨ s.rd CH_TIASTAT.STATE unit = 1) then
    .next ((s.reach t.stime).startMeasure unit (t.stime * frac))
  else .next s

/-- TIA_TIMEOUT: R259. -/
def execTiaTimeout (unit : Fin 528) (s : State) : Host.Outcome State Fault Refusal :=
  let st := s.rd CH_TIASTAT.STATE unit
  if st = 2 ∨ st = 3 then
    .next ((s.reach ((s.tia unit).armedAt + (s.tia unit).timeout * 3200)).endMeasure unit 1)
  else .next s

/-- TIA_GATE_END: R257. -/
def execTiaGateEnd (unit : Fin 528) (s : State) : Host.Outcome State Fault Refusal :=
  let t := s.tia unit
  if s.rd CH_TIASTAT.STATE unit = 3 ∧ t.mode = 2 then
    .next ((s.reach (t.startAt.getD 0 / frac + t.gate)).endMeasure unit 0)
  else .next s

/-- TIA_REARM: R257, R250. -/
def execTiaRearm (unit : Fin 528) (s : State) : Host.Outcome State Fault Refusal :=
  if s.rd CH_TIASTAT.STATE unit = 1 then .next ((s.selfCal unit).armTia unit) else .next s

end Sys2Proof.Machine
end

