-- ==== Sys2Proof/Machine/Loupe.lean ====
section
/-!
DEFINITION. Loupe (10): configuration, arming, stored units, triggers, segments, spill and the capture image.
-/
namespace Sys2Proof.Machine

/-! ## What Loupe does to Prism (R306–R309) -/

/-- Byte `i` of the trigger program (Table 11-1). -/
def Prism.byte (p : Prism) (i : Nat) : Nat := field p.prog i 1

/-- The loaded program is linked (START = 0). -/
def State.pzLinked (s : State) : Bool := s.on PZ_STAT.LINKED

/-- Prism is RUNNING. -/
def State.pzRunning (s : State) : Bool := s.rd PZ_STAT.STATE == 2

/-- An output driven active or idle (PZ_OUT). -/
def State.pzDrive (s : State) (i : Nat) (active : Bool) : State :=
  if i < 4 then s.wr PZ_OUT.TOUT (setBits (s.rd PZ_OUT.TOUT) i 1 (b2n active))
  else s.setXown (setBits (s.rd PZ_OUT.XOWN) (i - 4) 1 (b2n active))

/-- Prism leaves RUNNING: pulses in progress run to their end, every other output goes idle (R307). -/
def State.pzStop (s : State) : State :=
  if s.pzRunning then
    let s := (List.range 12).foldl (fun s i => if (Tab.find s.prism.ends i).isSome then s else s.pzDrive i false) s
    let s := (s.wr PZ_STAT.STATE 3).wr PZ_STAT.AUTORUN 0
    { s with prism := { s.prism with autoEnd := none, stopAt := none } }
  else s

/-- What ends a run of Prism has occurred at tick `t`: Prism stops at the end of that aligned tick (R307). -/
def State.pzStopAt (s : State) (t : Nat) : State :=
  if s.pzRunning then { s with prism := { s.prism with stopAt := some (min t (s.prism.stopAt.getD t)) } } else s

/-- Prism enters RUNNING with aligned tick `t` as its first (R306). -/
def State.pzStart (s : State) (t : Nat) : State :=
  let s := s.wrs 0 [(PZ_STAT.STATE, 2), (PZ_STAT.LEVEL, 0), (PZ_STAT.QUAL, 0), (PZ_TRIGCNT.COUNT, 0),
    (PZ_FORCED.COUNT, 0), (PZ_OUT.TOUT, 0)]
  let s := s.setXown 0
  let s := (List.range 8).foldl (fun s k => s.wr PZ_CNT.COUNT 0 0 k) s
  let s := (List.range 4).foldl (fun s e => s.wr PZ_ECLOST.COUNT 0 0 e) s
  { s with prism := { s.prism with
    aligned := t, start := true, restart := [], prevMatch := [], seen := false, sig := 0, ends := [], autoEnd := none, stopAt := none,
    ecs := s.prism.ecs.map (fun p => (p.1, { p.2 with last := none, left := none, pulse := none, lastEvent := none,
                                                       placed := [] })) } }

/-- A segment close at tick `t` restarts a linked program that names a restart level, in that aligned tick (R308). -/
def State.pzSegmentClose (s : State) (t : Nat) : State :=
  if s.pzRunning ∧ s.pzLinked ∧ s.prism.byte 2 ≠ 255 then
    { s with prism := { s.prism with restart := s.prism.restart ++ [t] } } else s

/-- A post phase of Loupe lasted from tick `a` to tick `b` (LPOST, Table 11-2). -/
def State.pzPost (s : State) (a b : Nat) : State :=
  if s.pzRunning then { s with prism := { s.prism with pulses := s.prism.pulses ++ [⟨0x03, a, b⟩] } } else s

/-! ## Signals (R266, Table 10-1) -/

/-- What a site shows at tick `t`. -/
def Seq.showAt (q : Seq) (t : Nat) : Show :=
  ((q.shows.filter (fun e => decide (e.from_ ≤ t))).getLast?).getD ⟨0, false, false, false, false⟩

/-- The tick is the first of a cycle of the site. -/
def Seq.firstAt (q : Seq) (t : Nat) : Option Show := q.shows.find? (fun e => e.first && e.from_ == t)

/-- A cycle just played, as Loupe and Prism see it. Entries older than Prism's delay of 64 ticks go, but the newest. -/
def State.noteShow (s : State) (site start period : Nat) (pad : Bool) : State :=
  s.modSeq site (fun q =>
    let a := start / 1250
    let b := max (a + 1) ((start + period) / 1250)
    let before := ((q.shows.getLast?).map Show.sfail).getD false
    let old := q.shows.filter (fun e => decide (e.from_ + 128 < a))
    { q with shows := (old.drop (old.length - 1)) ++ q.shows.filter (fun e => decide (a ≤ e.from_ + 128))
        ++ [⟨a, true, pad, q.capQual, before⟩, ⟨b, false, false, q.capQual, s.on SQ_COND.SFAIL site⟩] })

/-- Signal `n` at tick `t`, with the external lines and the comparator lines `high` and `low` at that instant. Signal 1,052 is
1 in the real tick in which Prism places a trigger, which R303 puts up to 80 ticks after the placed instant (DEDUCED, log
entry 87). -/
def State.signal (s : State) (ext : ExtLines) (high low : BitVec 512) (t n : Nat) : Bool :=
  if n < 1024 then (if n % 2 = 0 then high else low).getLsbD (n / 2)
  else
    let i := n - 1024
    if i < 8 then ext.supmon.getLsbD i
    else if i < 12 then ext.trig.getLsbD (i - 8)
    else if i < 20 then ext.xtrig.getLsbD (i - 12)
    else if i < 24 then bit (s.rfAt t) (i - 20)
    else if i < 28 then bit (s.rd PZ_STAT.LEVEL) (i - 24)
    else if i = 28 then s.prism.lastIssue == some t
    else if i < 32 then false
    else
      let site := s.loupe.cfg.probes.getD ((i - 32) / 4) 255
      if 64 ≤ site then false
      else
        let q := s.seq site
        match (i - 32) % 4 with
        | 0 => (q.firstAt t).isSome
        | 1 => (q.showAt t).sfail
        | 2 => (q.showAt t).pad
        | _ => (q.showAt t).qual

/-- Row width in bits: the list length rounded up to a multiple of 64. -/
def LoupeCfg.width (c : LoupeCfg) : Nat := ceilDiv c.signals.length 64 * 64

/-- The row of the signal list, W/8 bytes. -/
def State.rowOf (s : State) (high low : BitVec 512) (t : Nat) : Bytes :=
  let v := (s.loupe.cfg.signals.foldl (fun (acc : Nat × Nat) n =>
    (acc.1 + b2n (s.signal s.ext high low t n) * 2 ^ acc.2, acc.2 + 1)) (0, 0)).1
  toLe (s.loupe.cfg.width / 8) v

/-- The slot size R of R268. -/
def LoupeCfg.slot (c : LoupeCfg) : Nat :=
  if c.mode = 0 then (if c.comp then c.width / 8 + 8 else c.width / 8)
  else if c.mode = 1 then 16 else c.width / 8 + 8

/-! ## Segments -/

/-- Units that a record counts as: in STATE mode the sample instants it stands for, otherwise one (R268). -/
def LoupeCfg.counts (c : LoupeCfg) (u : LUnit) : Nat := if c.mode = 0 ∧ u.kind ≠ 0x800 ∧ u.kind ≠ 0x7FE then 0 else u.rep

/-- Bytes a unit takes. -/
def LUnit.size (u : LUnit) : Nat := if u.kind = 0x800 then u.body.length else 8 + u.body.length

/-- Bytes of a list of units. -/
def unitsSize (us : List LUnit) : Nat := (us.map LUnit.size).sum

/-- Loupe changed. -/
def State.modLoupe (s : State) (f : Loupe → Loupe) : State := { s with loupe := f s.loupe }

/-- Segment `j`. -/
def State.segment (s : State) (j : Nat) : Segment := Tab.get {} s.loupe.segs j

/-- A segment changed. -/
def State.modSegment (s : State) (j : Nat) (f : Segment → Segment) : State :=
  s.modLoupe (fun l => { l with segs := Tab.modify {} l.segs j f })

/-- ARMED or TRIGGERED. -/
def State.loupeActive (s : State) : Bool := s.rd LP_STAT.STATE == 2 || s.rd LP_STAT.STATE == 3

/-- Segment `j` opens in the pre-fill phase; its previous contents are gone, in spill too (R278, R281). -/
def State.openSegment (s : State) (j time : Nat) : State :=
  let s := s.modLoupe (fun l => { l with drained := 0, nextExtent := 0, filled := l.cfg.extents.map (fun _ => 0) })
  (s.modSegment j (fun _ => { st := 1, rebase := time / frac })).wrs 0 [(LP_STAT.SEG, j), (LP_STAT.STATE, 2)]

/-- The re-arm window of 640 ticks starts (R279). -/
def State.startRearm (s : State) (t : Nat) : State :=
  (s.modLoupe (fun l => { l with rearmAt := t, rearms := (t :: l.rearms).take 64 })).wr LP_STAT.REARM 1

/-- The capture ends in DONE at tick `t` (R281, R283, R307): the claimed interpolators are released, a linked program stops and
LOUPE_DONE is written. -/
def State.endCapture (s : State) (cause t : Nat) : State :=
  let s := s.wrs 0 [(LP_STAT.STATE, 4), (LP_STAT.END, cause), (LP_STAT.REARM, 0), (LP_STAT.OWN, 0)]
  let s := forAll s.loupe.held (fun u s => if s.rd CH_TIASTAT.OWNER u = 2 then s.wr CH_TIASTAT.OWNER 0 u else s) s
  let s := s.modLoupe (fun l => { l with held := [], jump := none, buf := [], qstamps := [] })
  let s := if s.pzLinked then s.pzStopAt t else s
  s.event 8 0xFFFF s.tt (toLe 8 (s.rd LP_STORED.UNITS))

/-- The current segment closes in state `st` at instant `t` (frac), and the next unit goes to the pending jump's segment
or the next one; after the last the capture ends (R281, R282). -/
def State.closeSegment (s : State) (st t : Nat) : State :=
  let j := s.rd LP_STAT.SEG
  let g := s.segment j
  let s := if g.st = 2 then s.pzPost g.trigT (t / frac) else s
  let s := s.modSegment j (fun g => { g with st := st })
  let s := (s.startRearm (t / frac)).pzSegmentClose (t / frac)
  match s.loupe.jump with
  | some k => (s.modLoupe (fun l => { l with jump := none })).openSegment k t
  | none => if j + 1 < s.loupe.cfg.nseg then s.openSegment (j + 1) t else s.endCapture 1 (t / frac)

/-- A jump acts on the unit just stored at instant `t` (R282), unless that unit closed the segment. -/
def State.jumpAt (s : State) (t : Nat) : State :=
  match s.loupe.jump with
  | none => s
  | some k =>
    let j := s.rd LP_STAT.SEG
    if s.rd LP_STAT.STATE = 3 then s.closeSegment 4 t
    else
      let s := s.modSegment j (fun _ => {})
      (s.modLoupe (fun l => { l with jump := none })).openSegment k t

/-! ## Storing (R268–R273, R280, R285) -/

/-- The instant of the last sample of a unit. -/
def LUnit.till (div : Nat) (u : LUnit) : Nat := u.time + (if u.kind = 0x7FE then (u.rep - 1) * (div * frac) else 0)

/-- Units before and from an instant; a compressed row that spans it is split. -/
def splitUnits (div t : Nat) : List LUnit → List LUnit × List LUnit
  | [] => ([], [])
  | u :: us =>
    if t ≤ u.time then ([], u :: us)
    else if u.kind = 0x7FE ∧ t ≤ u.till div then
      let k := ceilDiv (t - u.time) (div * frac)
      ([{ u with rep := k }], { u with rep := u.rep - k, time := u.time + k * (div * frac) } :: us)
    else
      let (a, b) := splitUnits div t us
      (u :: a, b)

/-- The unit put in its place in time (R287); a compressed row like the last one only raises its repeat count. -/
def appendUnit (div : Nat) (us : List LUnit) (u : LUnit) : List LUnit :=
  match us.getLast? with
  | some l =>
    if u.kind = 0x7FE ∧ l.kind = 0x7FE ∧ l.body = u.body ∧ l.rep < 2 ^ 40 - 1 then us.dropLast ++ [{ l with rep := l.rep + 1 }]
    else if l.till div ≤ u.time then us ++ [u]
    else
      let (a, b) := splitUnits div (u.time + 1) us
      a ++ u :: b
  | none => [u]

/-- Bytes of the post phase not yet in spill (LP_FIFO). -/
def State.fifoBytes (s : State) : Nat :=
  if s.loupe.cfg.extents = [] then 0 else unitsSize (s.segment 0).post - s.loupe.drained

/-- The records find no room behind the fixed pre-trigger region (R284, R285). -/
def State.noRoom (s : State) (us : List LUnit) : Bool :=
  let c := s.loupe.cfg
  let post := unitsSize (us.foldl (appendUnit c.div) (s.segment (s.rd LP_STAT.SEG)).post)
  if s.rd LP_STAT.STATE ≠ 3 then false
  else if c.extents = [] then decide (33554432 / c.nseg < c.pre * c.slot + post)
  else decide (33554432 + s.loupe.drained < c.pre * c.slot + post)

/-- The newest units that fit `limit` bytes. -/
def newest (limit : Nat) : List LUnit → List LUnit
  | [] => []
  | u :: us => if unitsSize (u :: us) ≤ limit then u :: us else newest limit us

/-- The pre-trigger region: PRE × R bytes of compressed rows, otherwise PRE units (R268, R280). -/
def LoupeCfg.keepPre (c : LoupeCfg) (us : List LUnit) : List LUnit :=
  if c.mode = 0 ∧ c.comp then newest (c.pre * c.slot) us else us.drop (us.length - c.pre)

/-- The pre-trigger units of a segment with one more; in the post phase the segment's PREACT and SHORT_PRE follow (R280). -/
def Segment.putPre (g : Segment) (c : LoupeCfg) (u : LUnit) : Segment :=
  let g := { g with pre := c.keepPre (appendUnit c.div g.pre u), passed := g.passed + c.counts u }
  if g.st = 2 then
    let n := min c.pre (g.preact + c.counts u)
    { g with preact := n, flags := setBits g.flags 2 1 (b2n (decide (n < c.pre))) }
  else g

/-- One record into the current segment, which is known to have room: after the trigger instant it is a post-trigger unit. -/
def State.putUnit (s : State) (u : LUnit) : State :=
  let j := s.rd LP_STAT.SEG
  let c := s.loupe.cfg
  (s.inc LP_STORED.UNITS 0 0 (c.counts u)).modSegment j (fun g =>
    if g.st = 2 ∧ g.trigT * frac + g.trigF ≤ u.time then
      { g with post := appendUnit c.div g.post u, postact := g.postact + c.counts u }
    else g.putPre c u)

/-- The GAP record of a loss (Table 10-3), ending at `now` unless it has an end of its own. -/
def Gap.record (g : Gap) (now : Nat) : LUnit :=
  let dur := match g.stop with
    | some e => min ((e - g.start) / frac) (2 ^ 40 - 2)
    | none => if g.all then min ((now - g.start) / frac) (2 ^ 40 - 2) else 2 ^ 40 - 1
  ⟨0x7F0, g.start, false, 1,
    toLe 8 (dur + g.chan * 2 ^ 40 + b2n g.all * 2 ^ 49 + min g.count 16383 * 2 ^ 50)⟩

/-- After a unit stored at instant `t` the segment may close and a jump may act (R281, R282). -/
def State.afterUnit (s : State) (t : Nat) : State :=
  if s.rd LP_STAT.STATE = 3 ∧ s.loupe.cfg.post ≤ (s.segment (s.rd LP_STAT.SEG)).postact then s.closeSegment 3 t else s.jumpAt t

/-- The first record of a segment in time starts its base. -/
def State.startBase (s : State) (u : LUnit) : State :=
  s.modSegment (s.rd LP_STAT.SEG) (fun g =>
    let us := g.pre ++ g.post
    if us = [] ∨ (u.time / frac < g.rebase ∧ us.all (fun x => x.kind != 0x7F2)) then { g with rebase := u.time / frac } else g)

/-- One record stored, a REBASE record before it where its OFFSET would not fit (R272). -/
def State.storeRecord (s : State) (u : LUnit) : State :=
  if ¬ s.loupeActive then s
  else
    let s := s.startBase u
    let j := s.rd LP_STAT.SEG
    let far := u.kind ≠ 0x800 ∧ u.kind ≠ 0x7FE ∧ (s.segment j).rebase + 2 ^ 40 ≤ u.time / frac
    let r : LUnit := ⟨0x7F2, u.time, false, 1, toLe 8 (u.time / frac)⟩
    let s := if far then
        let s := (s.putUnit r).modSegment j (fun g => { g with rebase := u.time / frac })
        if s.loupe.cfg.counts r = 0 then s else s.afterUnit u.time
      else s
    if ¬ s.loupeActive then s
    else
      let s := (s.startBase u).putUnit u
      if s.loupe.cfg.counts u = 0 then s else s.afterUnit u.time

/-- The instant of the last unit of a list. -/
def lastTime (c : LoupeCfg) (us : List LUnit) : Nat := (us.getLast?.map (LUnit.till c.div)).getD 0

/-- Losses of single channels are reported once there is room (R270, R286). -/
def State.flushGaps (s : State) : State :=
  let (all, one) := s.loupe.gaps.partition Gap.all
  let us := one.map (·.record (s.tt * frac))
  if us = [] ∨ ¬ s.loupeActive ∨ s.noRoom us then s
  else us.foldl State.storeRecord (s.modLoupe (fun l => { l with gaps := all }))

/-- The capture ends before its last segment has closed (R283). -/
def State.stopCapture (s : State) (cause : Nat) : State :=
  let s := s.flushGaps
  if ¬ s.loupeActive then s
  else
    (s.modSegment (s.rd LP_STAT.SEG) (fun g => { g with
      st := 5, flags := if cause = 3 then setBits g.flags 4 1 1 else g.flags })).endCapture cause s.tt

/-- A unit on its way to storage. Where it finds no room it is discarded, and a plain STATE segment closes OVERRUN at its last
stored unit; otherwise the GAP records of losses before it come first (R285). -/
def State.storeUnit (s : State) (u : LUnit) : State :=
  if ¬ s.loupeActive then s
  else
    let c := s.loupe.cfg
    let plain := c.mode = 0 ∧ ¬ c.comp
    let us := (if plain then [] else s.loupe.gaps.map (·.record u.time)) ++ [u]
    if s.noRoom us then
      if plain then
        let g := s.segment (s.rd LP_STAT.SEG)
        (s.closeSegment 6 (lastTime c (g.pre ++ g.post))).storeRecord u
      else
        let s := if u.kind < 1024 then s.inc LP_EDGELOST.COUNT else s
        let gs : List Gap := match s.loupe.gaps with
          | [] => [⟨0, true, u.time, none, 1⟩]
          | g :: gs => if g.all then { g with count := g.count + 1 } :: gs else ⟨0, true, u.time, none, 1⟩ :: g :: gs
        s.modLoupe (fun l => { l with gaps := gs })
    else us.foldl State.storeRecord (s.modLoupe (fun l => { l with gaps := [] }))

/-- A marked vector of a probe site (R104, R112, R273). -/
def State.loupeMark (s : State) (site start value : Nat) (cap : Bool) : State :=
  let c := s.loupe.cfg
  if ¬ s.loupeActive ∨ ¬ c.probes.contains site then s
  else if c.mode = 0 ∧ ¬ c.comp then
    if s.loupe.marks.length < 4096 then
      s.modLoupe (fun l => { l with marks := l.marks ++
        [toLe 8 (start / 1250) ++ toLe 2 value ++ toLe 1 site ++ toLe 1 (s.rd LP_STAT.SEG) ++ toLe 1 (b2n cap) ++ zeros 3] })
    else s.inc LP_MARKLOST.COUNT
  else s.storeUnit ⟨0x7F1, fracOfHalfSteps (2 * start), false, 1, toLe 8 (value + site * 2 ^ 16 + b2n cap * 2 ^ 22)⟩

/-- The marks and the qualifier of a played vector (R104). -/
def State.loupeVector (s : State) (site start : Nat) (v : Vec) : State :=
  let s := if v.capc = 1 ∨ v.capc = 2 then s.modSeq site (fun q => { q with capQual := v.capc == 1 }) else s
  let s := if v.capc = 3 then s.loupeMark site start 0 false else s
  match v.mark with
  | some m => s.loupeMark site start m true
  | none => s

/-! ## Triggers (R279, R280, R303) -/

/-- The first `n` units of a list and the rest; a compressed row that spans the end is split. -/
def takeUnits (c : LoupeCfg) : (n : Nat) → List LUnit → List LUnit × List LUnit
  | _, [] => ([], [])
  | n, u :: us =>
    if n = 0 then ([], u :: us)
    else
      let k := c.counts u
      if k ≤ n then
        let (a, b) := takeUnits c (n - k) us
        (u :: a, b)
      else ([{ u with rep := n }], { u with rep := k - n, time := u.time + n * (c.div * frac) } :: us)

/-- The instant lies in a re-arm window of the capture (R279). -/
def State.inRearm (s : State) (t : Nat) : Bool :=
  s.loupe.rearms.any (fun a => decide (a * frac ≤ t ∧ t < (a + 640) * frac))

/-- An instant meets the unit of the segment's trigger: no unit lies between the two (R279). -/
def Segment.sameUnit (g : Segment) (div t : Nat) : Bool :=
  let x := g.trigT * frac + g.trigF
  (g.pre ++ g.post).all (fun u => decide (u.till div < min x t ∨ max x t ≤ u.time))

/-- A trigger at instant `t` (frac) reaches Loupe. Window and phase are taken at that instant (R303): in the re-arm window of
an arming or of any close it is missed; in a post phase, or before the trigger of a segment that has its trigger (DEDUCED, log
entry 86), it finds Loupe busy. -/
def State.loupeTrigger (s : State) (t : Nat) (forced ring : Bool) : State :=
  if ¬ s.loupeActive then s
  else if ring ∧ t / frac + 3200 < s.tt then s.inc LP_MISSED.COUNT
  else if t < s.loupe.armT * frac then s
  else if s.inRearm t then s.inc LP_MISSED.COUNT
  else
    let j := s.rd LP_STAT.SEG
    let g := s.segment j
    let c := s.loupe.cfg
    if t < s.loupe.rearmAt * frac then s.inc LP_TRIGBUSY.COUNT
    else if s.rd LP_STAT.STATE = 3 then (if g.sameUnit c.div t then s else s.inc LP_TRIGBUSY.COUNT)
    else
      let (pre, post) := splitUnits c.div t g.pre
      let moved := (post.map c.counts).sum
      let (mine, rest) := takeUnits c c.post post
      let preact := min c.pre (g.passed - moved)
      let short := decide (preact < c.pre)
      let s := s.modSegment j (fun g => { g with
        st := 2, trigT := t / frac, trigF := t % frac, pre := pre, post := mine, preact := preact,
        postact := (mine.map c.counts).sum, flags := 1 + 2 * b2n forced + 4 * b2n short })
      let s := s.wrs 0 [(LP_STAT.STATE, 3), (PZ_STAT.AUTORUN, 0)]
      let s := { s with prism := { s.prism with autoEnd := none } }
      let s := s.event 7 0xFFFF (t / frac) (toLe 8 (t / frac) ++ toLe 2 (t % frac) ++ toLe 1 (b2n forced + 2 * b2n short))
      if c.post ≤ moved then
        let s := s.closeSegment 3 (lastTime c mine)
        if s.loupeActive then
          s.modSegment (s.rd LP_STAT.SEG) (fun g => { g with pre := c.keepPre rest, passed := (rest.map c.counts).sum })
        else s
      else s

/-! ## The capture image (R287) -/

/-- The tag of a unit, counted from `base` (Table 10-2). -/
def LUnit.tag (u : LUnit) (base : Nat) : Nat :=
  (if u.kind = 0x7FE then u.rep else (u.time / frac - base) % 2 ^ 40) + u.time % frac * 2 ^ 40
    + b2n u.dir * 2 ^ 52 + u.kind * 2 ^ 53

/-- The bytes of units in time order; a REBASE record moves the base of the tags that follow. -/
def unitsBytes : (base : Nat) → List LUnit → Bytes
  | _, [] => []
  | base, u :: us =>
    if u.kind = 0x800 then u.body ++ unitsBytes base us
    else if u.kind = 0x7F2 then toLe 8 (u.kind * 2 ^ 53) ++ u.body ++ unitsBytes (u.time / frac) us
    else toLe 8 (u.tag base) ++ u.body ++ unitsBytes base us

/-- Base time of a segment: the tick at or before its first stored unit (R278). -/
def Segment.base (g : Segment) : Nat := (((g.pre ++ g.post).head?).map (·.time / frac)).getD 0

/-- The segment's data. -/
def Segment.data (g : Segment) : Bytes := unitsBytes g.base (g.pre ++ g.post)

/-- Length of the segment's data. -/
def Segment.len (g : Segment) : Nat := unitsSize (g.pre ++ g.post)

/-- The segment numbers of the configuration. -/
def State.segNos (s : State) : List Nat := List.range s.loupe.cfg.nseg

/-- Bytes before the segments' data. -/
def State.imageHead (s : State) : Nat :=
  64 + 64 * s.loupe.cfg.nseg + (if s.loupe.cfg.mode = 0 ∧ ¬ s.loupe.cfg.comp then 16 * s.loupe.marks.length else 0)

/-- Offset of a segment's data. -/
def State.doff (s : State) (j : Nat) : Nat := s.imageHead + ((List.range j).map (fun i => (s.segment i).len)).sum

/-- Length of the capture image. -/
def State.ilen (s : State) : Nat := s.doff s.loupe.cfg.nseg

/-- A segment entry (Table 10-8). -/
def State.segEntry (s : State) (j : Nat) : Bytes :=
  let g := s.segment j
  let gap := (g.pre ++ g.post).any (fun u => u.kind == 0x7F0)
  let preact := if bit g.flags 0 then g.preact else min s.loupe.cfg.pre g.passed
  toLe 1 g.st ++ toLe 1 (setBits g.flags 3 1 (b2n gap)) ++ toLe 6 (unitsSize g.pre) ++ toLe 8 g.base ++ toLe 8 g.trigT ++ toLe 2 g.trigF ++ zeros 6
    ++ toLe 8 preact ++ toLe 8 g.postact ++ toLe 8 (s.doff j) ++ toLe 8 g.len

/-- The whole image. -/
def State.image (s : State) : Bytes :=
  let c := s.loupe.cfg
  toLe 1 1 ++ toLe 1 c.mode ++ toLe 1 (b2n c.comp + 2 * b2n (decide (c.extents ≠ []))) ++ toLe 1 c.nseg
    ++ toLe 2 c.signals.length ++ toLe 2 c.width ++ toLe 4 c.div ++ toLe 2 c.soff ++ toLe 1 (s.rd CK_STRAP.CHIPID)
    ++ toLe 1 (s.rd LP_STAT.END) ++ toLe 8 s.loupe.armT ++ toLe 4 s.loupe.marks.length ++ toLe 4 (s.rd LP_MARKLOST.COUNT)
    ++ toLe 4 (s.rd LP_MISSED.COUNT) ++ toLe 4 (s.rd LP_EDGELOST.COUNT) ++ toLe 8 s.ilen ++ zeros 16
    ++ s.segNos.flatMap s.segEntry
    ++ (if c.mode = 0 ∧ ¬ c.comp then s.loupe.marks.flatten else [])
    ++ s.segNos.flatMap (fun j => (s.segment j).data)

/-! ## Commands -/

/-- An extent or region lies wholly within one allocation. -/
def State.allocated (s : State) (base len : Nat) : Bool :=
  s.mem.allocs.any (fun a => a.base ≤ base && base + len ≤ a.base + a.size)

/-- Two extents of a list overlap. -/
def overlapping : List (Nat × Nat) → Bool
  | [] => false
  | e :: es => es.any (fun x => e.1 < x.1 + x.2 && x.1 < e.1 + e.2) || overlapping es

/-- The configuration of a payload (Table 10-4). -/
def loupeCfg (p : Bytes) : LoupeCfg :=
  let nsig := field p 4 2
  let next := field p 6 1
  { mode := field p 1 1, comp := bit (field p 2 1) 0, nseg := field p 3 1, qsrc := field p 7 1, div := field p 8 4,
    soff := field p 12 2, qsite := field p 14 1, qedge := field p 15 1, qch := field p 16 2, pre := field p 24 8,
    post := field p 32 8, probes := (List.range 8).map (fun i => field p (40 + i) 1),
    extents := (List.range next).map (fun i => (field p (64 + 16 * i) 8, field p (72 + 16 * i) 8)),
    signals := (List.range nsig).map (fun i => field p (64 + 16 * next + 2 * i) 2) }

/-- Table 10-5, order 2. -/
def loupeFormatOk (p : Bytes) (len : Nat) : Bool :=
  let c := loupeCfg p
  let grid := c.mode = 0 ∨ (c.mode = 2 ∧ c.qsrc ≤ 1)
  decide (len = 64 + 16 * field p 6 1 + 2 * field p 4 2) && field p 0 1 == 1 && c.mode ≤ 2 && field p 2 1 ≤ 1
    && (!c.comp || c.mode == 0) && 1 ≤ c.nseg && c.nseg ≤ 64 && 1 ≤ field p 4 2 && field p 4 2 ≤ 1088
    && c.extents.length ≤ 8 && (c.extents.isEmpty || c.nseg == 1)
    && (if c.mode = 2 then c.qsrc ≤ 3 else c.qsrc == 0) && 1 ≤ c.div && c.div ≤ 1048576 && c.soff ≤ 1249
    && (if c.mode = 2 ∧ (c.qsrc = 0 ∨ c.qsrc = 3) then c.qsite ≤ 63 else c.qsite == 0)
    && (if c.mode = 2 ∧ c.qsrc = 2 then c.qedge < 16 && !bit c.qedge 2 && c.qch ≤ 511 else c.qedge == 0 && c.qch == 0)
    && zeroAt p 18 6 && c.pre < 2 ^ 40 && 1 ≤ c.post && c.post < 2 ^ 40
    && c.probes.all (fun x => x ≤ 63 || x == 255) && zeroAt p 48 16
    && c.signals.all (· ≤ 1087) && decide c.signals.Nodup
    && (if grid then decide (c.width + (if c.mode = 2 ∨ c.comp then 64 else 0) ≤ 1024 * c.div) else true)
    && (if c.mode = 1 then c.signals.all (· ≤ 1023) && c.signals.length ≤ 256 else true)
    && c.extents.all (fun e => e.1 % 65536 == 0 && e.2 % 65536 == 0 && 65536 ≤ e.2)

/-- LOUPE_CONFIG: R274, R275. -/
def loupeConfig (_c : Consumed) (_id : Nat) (p : Bytes) (s : State) : Act :=
  let c := loupeCfg p
  if s.loupeActive then refuse busy s
  else if ¬ loupeFormatOk p p.length then refuse badParam s
  else if (if c.extents = [] then 33554432 / c.nseg else 16777216) < c.pre * c.slot
      ∨ 17179869184 < (c.extents.map (·.2)).sum ∨ overlapping c.extents then refuse badParam s
  else if c.extents.any (fun e => !s.allocated e.1 e.2) then refuse outOfRange s
  else if s.gated 16 then refuse notReady s
  else
    let s := { s with loupe := { cfg := c } }
    success [] (s.wrs 0 [(LP_STAT.STATE, 1), (LP_STAT.SEG, 0), (LP_STAT.REARM, 0), (LP_STAT.OWN, 0),
      (LP_STAT.END, 0)])

/-- The channels whose interpolators a capture needs (R277). -/
def LoupeCfg.claims (c : LoupeCfg) : List Nat :=
  if c.mode = 1 then (c.signals.map (· / 2)).eraseDups else if c.mode = 2 ∧ c.qsrc = 2 then [c.qch] else []

/-- LOUPE_ARM: R276–R278, R306. -/
def loupeArm (_c : Consumed) (s : State) : Act :=
  let c := s.loupe.cfg
  let space := if c.extents = [] then 33554432 / c.nseg else 33554432 + (c.extents.map (·.2)).sum
  let need := c.claims
  if space < (c.pre + c.post) * c.slot ∧ s.rd LP_STAT.STATE ≠ 0 then refuse 0x0071 s
  else if s.rd LP_STAT.STATE = 0 then refuse notReady s
  else if s.loupeActive then refuse busy s
  else if need.any s.unserved then refuse fencedCode s
  else if need.any (fun n => s.rd CH_TIASTAT.OWNER (s.tiaUnit n) ≠ 0) then refuse busy s
  else if s.gated 16 then refuse notReady s
  else
    let units := need.map s.tiaUnit
    let s := forAll units (fun u s => ((s.selfCal u).watchTia u).wr CH_TIASTAT.OWNER 2 u) s
    let s := s.wrs 0 [(LP_MISSED.COUNT, 0), (LP_TRIGBUSY.COUNT, 0), (LP_EDGELOST.COUNT, 0), (LP_MARKLOST.COUNT, 0),
      (LP_STORED.UNITS, 0), (LP_STAT.OWN, b2n (decide (need ≠ []))), (LP_STAT.END, 0)]
    let s := { s with loupe := { cfg := c, armT := s.tt, held := units },
                      cap := s.cap.scramble 0 33554432 s.free, free := s.free + 1 }
    let s := (s.openSegment 0 (s.tt * frac)).startRearm s.tt
    success [] (if s.pzLinked ∧ s.rd PZ_STAT.STATE ≠ 0 then s.pzStart (s.tt + 1) else s)

/-- LOUPE_FORCE: R279. -/
def loupeForce (_c : Consumed) (s : State) : Act :=
  if ¬ s.loupeActive then refuse refusedState s else success [] (s.loupeTrigger (s.tt * frac) true false)

/-- LOUPE_STOP: R283. -/
def loupeStop (_c : Consumed) (s : State) : Act :=
  if ¬ s.loupeActive then success [] s
  else success [] (s.stopCapture 2)

/-- The bytes `[off, off + len)` reach into a segment that is not closed or into data not yet drained (R288). -/
def State.unreadable (s : State) (off len : Nat) : Bool :=
  s.segNos.any (fun j =>
    let g := s.segment j
    let a := s.doff j
    let open_ := g.st = 1 ∨ g.st = 2
    let b := if open_ then a else a + unitsSize g.pre + (if s.loupe.cfg.extents = [] then unitsSize g.post else s.loupe.drained)
    decide (b < a + g.len ∧ off < a + g.len ∧ b < off + len))

/-- A jump request of LP_JUMP, ignored outside ARMED and TRIGGERED or for a segment that is not there; a Prism jump on the
same unit is the one taken (R282). -/
def State.loupeJump (s : State) (j : Nat) (go prism : Bool) : State :=
  if go ∧ s.loupeActive ∧ j < s.loupe.cfg.nseg ∧ (prism ∨ s.loupe.jump.isNone) then
    s.modLoupe (fun l => { l with jump := some j })
  else s

/-- LOUPE_CONFIG: R274, R275. -/
def execLoupeConfig (d : Desc) (p : Bytes) (s : State) : Host.Outcome State Fault Refusal :=
  .next (s.serveJob 0x0402 d p loupeConfig)

/-- LOUPE_ARM: R276–R278. -/
def execLoupeArm (d : Desc) (s : State) : Host.Outcome State Fault Refusal := .next (s.serve 0x0403 d loupeArm)

/-- LOUPE_FORCE: R279. -/
def execLoupeForce (d : Desc) (s : State) : Host.Outcome State Fault Refusal := .next (s.serve 0x0404 d loupeForce)

/-- LOUPE_STOP: R283. -/
def execLoupeStop (d : Desc) (s : State) : Host.Outcome State Fault Refusal := .next (s.serve 0x0405 d loupeStop)

/-- LOUPE_JUMP: R282. -/
def execLoupeJump (seg : Fin 64) (go : Bool) (s : State) : Host.Outcome State Fault Refusal :=
  .next (s.loupeJump seg go false)

/-- The instants of QUALIFIED mode, QSRC 0, 1 and 3 (R290). -/
def State.qualified (s : State) (tick : Nat) : Bool :=
  let c := s.loupe.cfg
  let q := s.seq c.qsite
  if c.qsrc = 3 then (q.firstAt tick).any (fun e => e.qual && !e.pad)
  else decide (tick % max 1 c.div = 0) && (if c.qsrc = 0 then (q.showAt tick).qual else s.on PZ_STAT.QUAL)

/-- LOUPE_UNIT: a sample instant, a qualified row, or the oldest buffered transition record is stored (R268, R271, R290). The
lines are those at the instant of the sample, SOFF steps after the grid tick, the edge or the vector start. -/
def execLoupeUnit (t : BitVec 64) (f : BitVec 12) (ext : ExtLines) (high low : BitVec 512) (s : State) :
    Host.Outcome State Fault Refusal :=
  let c := s.loupe.cfg
  let soff := fracOfHalfSteps (2 * c.soff)
  if ¬ s.loupeActive then .next s
  else if c.mode = 1 then
    match s.loupe.buf with
    | u :: us => .next (((s.reach t.toNat).modLoupe (fun l => { l with buf := us })).storeUnit u)
    | [] => .next (s.reach t.toNat).flushGaps
  else if c.mode = 2 ∧ c.qsrc = 2 then
    match s.loupe.qstamps with
    | e :: es =>
      let tick := (e + soff) / frac
      let s := { s.reach tick with ext := s.wired ext tick }
      let s := s.modLoupe (fun l => { l with qstamps := es })
      .next (s.storeUnit ⟨0x7FD, e + soff, false, 1, s.rowOf high low tick⟩)
    | [] => .next (s.reach t.toNat).flushGaps
  else
    let tick := t.toNat
    let s := { s.reach tick with ext := s.wired ext tick }
    let row := s.rowOf high low tick
    if c.mode = 0 then
      if tick % max 1 c.div = 0 then .next (s.storeUnit ⟨if c.comp then 0x7FE else 0x800, tick * frac + soff, false, 1, row⟩)
      else .next s
    else if s.qualified tick then
      .next (s.storeUnit ⟨0x7FD, tick * frac + (if c.qsrc = 3 then f.toNat else 0) + soff, false, 1, row⟩)
    else .next s

/-- An edge of a held channel is lost at an instant (R270). -/
def State.loseEdge (s : State) (n at_ : Nat) : State :=
  let mine (g : Gap) : Bool := !g.all && g.chan == n
  (s.inc LP_EDGELOST.COUNT).modLoupe (fun l => { l with
    gaps := if l.gaps.any mine then
        l.gaps.map (fun g => if mine g then { g with stop := some at_, count := g.count + 1 } else g)
      else l.gaps ++ [⟨n, false, at_, some at_, 1⟩] })

/-- The first free interpolator of a unit is busy from tick `t2` (R251). -/
def State.useInterpolator (s : State) (u at_ t2 : Nat) : State :=
  s.modTia u (fun t => { t with busy := t.busy.set ((t.busy.findIdx? (fun b => b ≤ at_)).getD 0) ((t2 + 8) * frac) })

/-- An edge of a channel that the capture holds: in TRANSITION mode an accepted edge of a listed line becomes a record in its
group's buffer; in QUALIFIED mode with QSRC 2 an accepted QEDGE edge names an instant of a row (R251, R253, R270, R290). -/
def State.loupeEdge (s : State) (u n : Nat) (low rising : Bool) (ip t2 raw : Nat) : State :=
  let c := s.loupe.cfg
  let sig := 2 * n + b2n low
  let before := s.tia u
  let s := s.modTia u (fun t => t.follow low rising)
  let wanted := if c.mode = 1 then c.signals.contains sig
    else edgeSelects c.qedge low rising && before.hystOk c.qedge low rising
  if ¬ wanted then s
  else if s.fenced u ∨ s.rd CH_TIASTAT.OWNER u ≠ 2 then
    (s.inc LP_EDGELOST.COUNT).modLoupe (fun l => { l with calLost := Tab.modify 0 l.calLost u (· + 1) })
  else
    let (at_, s) := s.stampEdge u ip t2 raw
    let last := if c.mode = 1 then Tab.find s.loupe.lastEdge sig else before.lastEdge
    if last.any (fun l => decide (at_ ≤ l + 2 * frac)) then s
    else if (s.tia u).busy.all (fun b => at_ < b) ∨
        (c.mode = 1 ∧ 64 ≤ s.loupe.buf.countP (fun x => groupOf (x.kind / 2) == groupOf n)) then s.loseEdge n at_
    else if c.mode = 1 then
      (s.useInterpolator u at_ t2).modLoupe (fun l => { l with
        buf := l.buf ++ [⟨sig, at_, rising, 1, []⟩], lastEdge := Tab.insert l.lastEdge sig at_ })
    else
      ((s.useInterpolator u at_ t2).modTia u (fun t => { t.newSpan with lastEdge := some at_ })).modLoupe (fun l => { l with
        qstamps := l.qstamps ++ [at_] })

/-- LOUPE_TRANSITION_EDGE: an edge of a channel's line is stamped for the capture that holds the channel, or lost (R270), as it
is while calibration has the channel or the channel is fenced (R286). -/
def execLoupeTransitionEdge (chan : Fin 512) (low rising : Bool) (ip : Fin 4) (t2 : BitVec 64) (raw : BitVec 16)
    (s : State) : Host.Outcome State Fault Refusal :=
  let n := chan.val
  let s := (s.reach t2.toNat).setLine n low rising
  let u := if s.loupe.held.contains (s.tiaUnit n) then s.tiaUnit n else n
  .next (if s.loupeActive ∧ s.loupe.held.contains u then s.loupeEdge u n low rising ip t2.toNat raw.toNat else s)

/-- LOUPE_TRIGGER: the oldest trigger that Prism has issued reaches Loupe (R279, R303). -/
def execLoupeTrigger (s : State) : Host.Outcome State Fault Refusal :=
  match s.prism.trigs with
  | [] => .next s
  | p :: ps => .next ({ s with prism := { s.prism with trigs := ps } }.loupeTrigger p.time p.forced p.ring)

/-- REARM_WINDOW_END: the window ends, and Prism's auto timer starts (R279, R309). -/
def execRearmWindowEnd (s : State) : Host.Outcome State Fault Refusal :=
  if ¬ s.on LP_STAT.REARM then .next s
  else
    let s := (s.reach (s.loupe.rearmAt + 640)).wr LP_STAT.REARM 0
    if s.pzRunning ∧ bit (s.prism.byte 3) 1 ∧ s.rd LP_STAT.STATE = 2 then
      let t := field s.prism.prog 4 4
      .next ({ s with prism := { s.prism with autoEnd := some (s.loupe.rearmAt + 640 + t * 3200) } }.wr PZ_STAT.AUTORUN 1)
    else .next s

/-- SPILL_DRAIN: one block of at most 64 KiB of post-phase data goes to the next extent that has room (R284). -/
def execSpillDrain (s : State) : Host.Outcome State Fault Refusal :=
  let c := s.loupe.cfg
  let g := s.segment 0
  let k := c.extents.length
  let order := (List.range k).map (fun i => (s.loupe.nextExtent + i) % max 1 k)
  let n := min 65536 s.fifoBytes
  match order.find? (fun i => s.loupe.filled.getD i 0 < (c.extents.getD i (0, 0)).2) with
  | some i =>
    if n = 0 ∨ (n < 65536 ∧ (g.st = 1 ∨ g.st = 2)) then .next s
    else
      let data := ((unitsBytes g.base (g.pre ++ g.post)).drop (unitsSize g.pre + s.loupe.drained)).take n
      let at_ := (c.extents.getD i (0, 0)).1 + s.loupe.filled.getD i 0
      let s := { s with vmem := s.vmem.writeN at_ data }
      let s := s.modLoupe (fun l => { l with
        drained := l.drained + n, nextExtent := (i + 1) % max 1 k, filled := l.filled.set i (l.filled.getD i 0 + 65536) })
      .next s
  | none => .next s

end Sys2Proof.Machine
end

