-- ==== Sys2Proof/Machine/Prism.lean ====
section
/-!
DEFINITION. Prism (11): the trigger program, resources in aligned time, clauses, edge comparators, outputs.
-/
namespace Sys2Proof.Machine

/-- Prism changed. -/
def State.modPrism (s : State) (f : Prism → Prism) : State := { s with prism := f s.prism }

/-! ## The program (Tables 11-1, 11-3, 11-4) -/

/-- Bytes of clause `c` of level `l`. -/
def Prism.clause (p : Prism) (l c : Nat) : Nat := field p.prog (560 + 64 * l + 16 * c) 16

/-- Field of `n` bytes of edge comparator `e`. -/
def Prism.ec (p : Prism) (e off n : Nat) : Nat := field p.prog (384 + 32 * e + off) n

/-- Output mode and pulse width of output `i`. -/
def Prism.omode (p : Prism) (i : Nat) : Nat := field p.prog (512 + 4 * i) 1
def Prism.width (p : Prism) (i : Nat) : Nat := field p.prog (512 + 4 * i + 2) 2

/-- Tap site of a tap, 255 for none. -/
def Prism.tap (p : Prism) (t : Nat) : Nat := p.byte (8 + t)

/-- A resource code of Table 11-2 whose tap, if it has one, names a site. -/
def resourceOk (prog : Bytes) (r : Nat) : Bool :=
  let tapped (t : Nat) : Bool := field prog (8 + t) 1 != 255
  r ≤ 4 || (8 ≤ r && r ≤ 0x1B) || (0x20 ≤ r && r ≤ 0x37)
    || (0x40 ≤ r && r ≤ 0x57 && tapped ((r - 0x40) % 4)) || (0x60 ≤ r && r ≤ 0x9F && tapped ((r - 0x60) / 16))

/-- A clause of the program is well-formed; with VALID = 0 every byte but OP is 0 (R294). -/
def clauseOk (prog : Bytes) (l c : Nat) : Bool :=
  let w := field prog (560 + 64 * l + 16 * c) 16
  let by_ (i n : Nat) : Nat := bits w (8 * i) (8 * n)
  let op := by_ 2 1
  let act := by_ 4 1
  if ¬ bit op 7 then w == op * 2 ^ 16 && bits op 4 3 == 0 && (bits op 0 2 != 0 || !bit op 3)
  else
    resourceOk prog (by_ 0 1) && resourceOk prog (by_ 1 1) && bits op 4 3 == 0
      && (bits op 0 2 != 0 || (by_ 1 1 == 0 && !bit op 3)) && by_ 3 1 ≤ 15
      && act < 64 && !(bit act 1 && bit act 2) && by_ 5 1 ≤ 5
      && (if bit act 3 then by_ 6 1 ≤ 63 else by_ 6 1 == 0) && by_ 7 1 == 0
      && (List.range 8).all (fun k => bits w (64 + 2 * k) 2 != 3)
      && (List.range 12).all (fun i => field prog (512 + 4 * i) 1 != 2 || bits w (80 + 2 * i) 2 == 0)
      && by_ 13 3 == 0

/-- An edge comparator's bytes are well-formed. -/
def ecOk (prog : Bytes) (e : Nat) : Bool :=
  let f (off n : Nat) : Nat := field prog (384 + 32 * e + off) n
  let mode := f 0 1
  mode ≤ 4 && f 1 1 ≤ 2 && (f 1 1 != 2 || mode == 1 || mode == 2)
    && (if mode = 1 then f 2 1 ≤ 1 else f 2 1 == 0) && (if mode = 3 then f 3 1 ≤ 2 else f 3 1 == 0)
    && f 4 2 ≤ 511 && f 7 1 ≤ 64
    && (if mode = 3 then f 8 8 < 2 ^ 44 && f 16 8 < 2 ^ 44 && f 8 8 ≤ f 16 8 else f 8 8 == 0 && f 16 8 == 0)
    && f 24 8 == 0

/-- The program's format (R294). -/
def prismOk (p : Bytes) : Bool :=
  let auto := bit (field p 3 1) 1
  p.length == 1584 && field p 0 1 == 1 && field p 1 1 ≤ 1 && (field p 2 1 ≤ 15 || field p 2 1 == 255) && field p 3 1 < 4
    && (if auto then 1 ≤ field p 4 4 && field p 4 4 ≤ 60000000 else field p 4 4 == 0)
    && (List.range 4).all (fun t => field p (8 + t) 1 ≤ 63 || field p (8 + t) 1 == 255) && zeroAt p 12 52
    && (List.range 8).all (fun k => resourceOk p (field p (64 + 16 * k + 6) 1) && field p (64 + 16 * k + 7) 1 ≤ 1
          && zeroAt p (64 + 16 * k + 8) 8)
    && (List.range 8).all (fun k => field p (192 + 24 * k) 1 ≤ 4 && field p (193 + 24 * k) 1 ≤ 16 && zeroAt p (194 + 24 * k) 6)
    && (List.range 4).all (ecOk p)
    && (List.range 12).all (fun i => field p (512 + 4 * i) 1 ≤ 2 && field p (513 + 4 * i) 1 == 0 && 1 ≤ field p (514 + 4 * i) 2)
    && (List.range 16).all (fun l => (List.range 4).all (clauseOk p l))

/-- PRISM_LOAD: R293, R294. -/
def prismLoad (_c : Consumed) (_id : Nat) (p : Bytes) (s : State) : Act :=
  if s.pzRunning then refuse busy s
  else if ¬ prismOk p then refuse badParam s
  else if s.gated 17 then refuse notReady s
  else
    let s := s.wrs 0 [(PZ_STAT.STATE, 1), (PZ_STAT.LINKED, b2n (field p 1 1 == 0)), (PZ_STAT.LEVEL, 0), (PZ_STAT.QUAL, 0),
      (PZ_OUT.TOUT, 0)]
    let s := s.setXown 0
    let s := (List.range 8).foldl (fun s k => s.wr PZ_CNT.COUNT 0 0 k) s
    success [] { s with prism := { prog := p, trigs := s.prism.trigs, ringTrig := s.prism.ringTrig,
                                   lastIssue := s.prism.lastIssue, xownLog := s.prism.xownLog } }

/-! ## What the pattern side shows Prism (R296, Table 11-2) -/

/-- A resource is 1 in the aligned ticks `[a, b)`. What is over before a program could start is forgotten. -/
def State.pzPulse (s : State) (code a b : Nat) : State :=
  let st := s.rd PZ_STAT.STATE
  if st = 0 then s
  else s.modPrism (fun p => { p with
    pulses := (if st = 2 then p.pulses else p.pulses.filter (fun x => s.tt < x.till)) ++ [⟨code, a, b⟩] })

/-- The taps of a site. -/
def State.taps (s : State) (site : Nat) : List Nat := (List.range 4).filter (fun t => s.prism.tap t == site)

/-- A vector cycle of a tapped site: SFAIL, SPASS and its CAP event, in its last tick. -/
def State.pzVector (s : State) (site start period : Nat) (v : Vec) (sfail spass : Bool) : State :=
  let last := (start + period - 1) / 1250
  (s.taps site).foldl (fun s t =>
    let s := if sfail then s.pzPulse (0x48 + t) last (last + 1) else s
    let s := if spass then s.pzPulse (0x4C + t) last (last + 1) else s
    match v.event with
    | some e => s.pzPulse (0x60 + 16 * t + e) last (last + 1)
    | none => s) s

/-- What the site of a bound tap shows at tick `t` (R296). -/
def State.tapShows (s : State) (tap : Nat) (p : Seq → Bool) : Bool :=
  let site := s.prism.tap tap
  site < 64 && s.site site != stUnbound && p (s.seq site)

/-- A tapped site enters DONE or HALTED. -/
def State.pzEnd (s : State) (site tick : Nat) : State :=
  (s.taps site).foldl (fun s t => s.pzPulse (0x50 + t) tick (tick + 1)) s

/-! ## Triggers and outputs (R302–R304) -/

/-- An output pulses for its PW ticks from the end of aligned tick `t`, evaluated 64 ticks later; a pulse in progress
restarts. -/
def State.pzPulseOut (s : State) (i t : Nat) : State :=
  (s.pzDrive i true).modPrism (fun p => { p with ends := Tab.insert p.ends i (t + 65 + p.width i) })

/-- Prism issues a trigger placed at `at_` (frac) in aligned tick `t`: counts, the measurement units' start, outputs in
follow mode, and the trigger on its way to Loupe. -/
def State.issueTrigger (s : State) (t at_ : Nat) (forced ring : Bool) : State :=
  let s := (s.inc PZ_TRIGCNT.COUNT).wrs 0 [(PZ_LASTT.T, at_ / frac), (PZ_LASTF.FRAC, at_ % frac), (PZ_LASTF.FORCED, b2n forced)]
  let s := if s.prism.autoEnd = some t then s.wr PZ_STAT.AUTORUN 0 else s
  let s := s.modPrism (fun p => { p with
    trigs := p.trigs ++ [⟨at_, forced, ring⟩], lastIssue := some (t + 64), autoEnd := if p.autoEnd = some t then none else p.autoEnd })
  let s := s.tiaTrigger at_
  (List.range 12).foldl (fun s i => if s.prism.omode i = 2 then s.pzPulseOut i t else s) s

/-- A new entry in a list of events by their ticks, newest first; of those before tick `t` only the newest can still matter. -/
def noteAt (t : Nat) (e : Nat × Nat) (es : List (Nat × Nat)) : List (Nat × Nat) :=
  e :: (es.takeWhile (fun x => decide (t ≤ x.1)) ++ (es.dropWhile (fun x => decide (t ≤ x.1))).take 1)

/-- The trigger's instant by PLACE, on the most recent event up to aligned tick `t`; with nothing to place it on it falls back to
the aligned tick and sets NOPLACE (R302). -/
def State.place (s : State) (t place : Nat) : Nat × State :=
  if place = 0 then (t * frac, s)
  else
    let es := if place = 5 then s.prism.ringTrig else (Tab.get {} s.prism.ecs (place - 1)).placed
    match es.find? (fun e => decide (e.1 ≤ t)) with
    | some e => (e.2, s)
    | none => (t * frac, s.wr PZ_STAT.NOPLACE 1)

/-! ## One aligned tick (R291, R295–R298) -/

/-- Pattern comparator `p` matches: M = 0. Signals 1,048–1,052 give their values of the previous aligned tick. -/
def State.pcMatch (s : State) (ext : ExtLines) (high low : BitVec 512) (t p : Nat) : Bool :=
  let f (off n : Nat) : Nat := field s.prism.prog (192 + 24 * p + off) n
  let bank := f 1 1
  let value := f 8 8
  let mask := f 16 8
  (List.range 64).all (fun i =>
    !bit mask i ||
      (let n := 64 * bank + i
       let v := if 1048 ≤ n ∧ n < 1052 then bit s.prism.sig (n - 1048)
         else if n = 1052 then s.prism.lastIssue == some (t + 63) else s.signal ext high low t n
       v == bit value i))

/-- The resource of a pattern comparator from its match now and in the tick before. -/
def pcValue (mode : Nat) (now before first : Bool) : Bool :=
  match mode with
  | 1 => now
  | 2 => !now
  | 3 => now && (first || !before)
  | 4 => !now && (first || before)
  | _ => false

/-- The resources of aligned tick `t` (Table 11-2). -/
def State.resource (s : State) (ext : ExtLines) (ms : List Bool) (t r : Nat) : Bool :=
  if r = 1 then true
  else if r = 2 then s.prism.start
  else if r = 3 ∧ s.rd LP_STAT.STATE = 3 then
    decide ((s.segment (s.rd LP_STAT.SEG)).trigT ≤ t) || s.prism.pulses.any (fun p => p.code == 3 && p.from_ ≤ t && t < p.till)
  else if 8 ≤ r ∧ r < 16 then decide (field s.prism.prog (64 + 16 * (r - 8)) 6 ≤ s.rd PZ_CNT.COUNT 0 (r - 8))
  else if 16 ≤ r ∧ r < 24 then
    pcValue (field s.prism.prog (192 + 24 * (r - 16)) 1) (ms.getD (r - 16) false) (s.prism.prevMatch.getD (r - 16) false)
      (!s.prism.seen)
  else if 0x20 ≤ r ∧ r < 0x24 then ext.trig.getLsbD (r - 0x20)
  else if 0x24 ≤ r ∧ r < 0x2C then ext.xtrig.getLsbD (r - 0x24)
  else if 0x2C ≤ r ∧ r < 0x34 then ext.supmon.getLsbD (r - 0x2C)
  else if 0x34 ≤ r ∧ r < 0x38 then bit (s.rfAt t) (r - 0x34)
  else if 0x40 ≤ r ∧ r < 0x44 then s.tapShows (r - 0x40) (fun q => (q.firstAt t).any (fun e => !e.pad))
  else if 0x44 ≤ r ∧ r < 0x48 then s.tapShows (r - 0x44) (fun q => (q.showAt t).pad)
  else if 0x54 ≤ r ∧ r < 0x58 then s.tapShows (r - 0x54) (fun q => (q.showAt t).qual)
  else s.prism.pulses.any (fun p => p.code == r && p.from_ ≤ t && t < p.till)

/-- The clause is true (R295). -/
def clauseTrue (w : Nat) (res : Nat → Bool) : Bool :=
  let op := bits w 16 8
  let a := res (bits w 0 8) != bit op 2
  let b := res (bits w 8 8) != bit op 3
  bit op 7 && (match bits op 0 2 with
    | 0 => a
    | 1 => a && b
    | 2 => a || b
    | _ => a != b)

/-- Counter `k` at the end of the tick (R297); `op` is the firing clause's action on it. -/
def State.countPz (s : State) (k op : Nat) (src : Bool) : State :=
  let v := s.rd PZ_CNT.COUNT 0 k
  s.wr PZ_CNT.COUNT (if op = 2 then 0 else satAdd 48 v (b2n src + b2n (op == 1))) 0 k

/-- The output actions of a firing clause (R304). -/
def State.outPz (s : State) (w t i : Nat) : State :=
  if s.prism.omode i ≠ 1 then s
  else match bits w (80 + 2 * i) 2 with
    | 1 => (s.pzDrive i true).modPrism (fun p => { p with ends := Tab.erase p.ends i })
    | 2 => (s.pzDrive i false).modPrism (fun p => { p with ends := Tab.erase p.ends i })
    | 3 => s.pzPulseOut i t
    | _ => s

/-- WIDTH comparators with WCMP 2 whose first swing lies MAX back in this tick have their event now (R299). -/
def State.lateWidth (s : State) (t e : Nat) : State :=
  let c := Tab.get {} s.prism.ecs e
  if s.prism.ec e 0 1 = 3 ∧ s.prism.ec e 3 1 = 2 then
    match c.pulse with
    | some p =>
      let at_ := p + s.prism.ec e 16 8
      let note := noteAt s.prism.aligned (t, at_) c.placed
      let quiet : Bool := match c.lastEvent with
        | some l => decide (l + s.prism.ec e 7 1 * frac < at_)
        | none => true
      if at_ / frac ≤ t then
        let s := s.modPrism (fun x => { x with ecs := Tab.insert x.ecs e { c with
          pulse := none, lastEvent := if quiet then some at_ else c.lastEvent, placed := if quiet then note else c.placed } })
        if quiet then s.pzPulse (0x18 + e) t (t + 1) else s
      else s
    | none => s
  else s

/-- Aligned tick `t` is evaluated in real tick `t + 64`; the lines given are those at tick `t`. Where what ends the run has
occurred by then, Prism stops at the end of the tick (R307). The second component is the placed instant that a ring trigger
broadcast carries, if the firing clause sends one (R302). -/
def State.prismTick (s : State) (ext : ExtLines) (high low : BitVec 512) : State × Option Nat :=
  if ¬ s.pzRunning then (s, none)
  else
    let t := s.prism.aligned
    let ext := s.wired ext t
    let s := s.reach (t + 64)
    let s := (List.range 4).foldl (fun s e => s.lateWidth t e) s
    let ms := (List.range 8).map (s.pcMatch ext high low t)
    let res := s.resource ext ms t
    let level := s.rd PZ_STAT.LEVEL
    let fired := ((List.range 4).map (s.prism.clause level)).find? (fun w => clauseTrue w res)
    let src := (List.range 8).map (fun k =>
      res (field s.prism.prog (64 + 16 * k + 6) 1) != bit (field s.prism.prog (64 + 16 * k + 7) 1) 0)
    let w := fired.getD 0
    let act := bits w 32 8
    let restart := s.prism.restart.any (· ≤ t)
    let s := s.modPrism (fun p => { p with
      aligned := t + 1, start := restart, restart := p.restart.filter (t < ·), prevMatch := ms, seen := true,
      sig := level, pulses := p.pulses.filter (fun x => t + 1 < x.till) })
    let (at_, s) := if bit act 0 then s.place t (bits w 40 8) else (t * frac, s)
    let s := if bit act 0 then s.issueTrigger t at_ false (bits w 40 8 == 5) else s
    let s := if bit act 1 then s.wr PZ_STAT.QUAL 1 else if bit act 2 then s.wr PZ_STAT.QUAL 0 else s
    let s := if bit act 3 then s.loupeJump (bits w 48 8) true true else s
    let s := (List.range 8).foldl (fun s k => s.countPz k (bits w (64 + 2 * k) 2) (src.getD k false)) s
    let s := (List.range 12).foldl (fun s i => s.outPz w t i) s
    let s := if fired.isSome then s.wr PZ_STAT.LEVEL (bits w 24 8) else s
    let s := if restart then
        let s := s.wr PZ_STAT.LEVEL (s.prism.byte 2)
        if bit (s.prism.byte 3) 0 then (List.range 8).foldl (fun s k => s.wr PZ_CNT.COUNT 0 0 k) s else s
      else s
    let s := if bit act 4 ∨ s.prism.stopAt.any (· ≤ t) then s.pzStop else s
    (s, if bit act 5 then some at_ else none)

/-! ## Edge comparators (R299, R300) -/

/-- An event of comparator `e` at the crossing `now`, placed at `at_`, unless its hold-off suppresses it. -/
def State.ecEvent (s : State) (e now at_ : Nat) : State :=
  let c := Tab.get {} s.prism.ecs e
  let quiet : Bool := match c.lastEvent with
    | some l => decide (l + s.prism.ec e 7 1 * frac < now)
    | none => true
  if quiet then
    let note := noteAt s.prism.aligned (now / frac, at_) c.placed
    (s.modPrism (fun x => { x with ecs := Tab.insert x.ecs e { c with lastEvent := some now, placed := note } })).pzPulse
      (0x18 + e) (now / frac) (now / frac + 1)
  else s

/-- The placed instant of a swing whose low crossing is `tl` and high crossing `th`, to the nearest frac. -/
def placeSwing (f tl th : Nat) : Nat := ((tl : Int) + divRound ((f : Int) * ((th : Int) - tl)) 256).toNat

/-- A complete swing: an event in SWING mode, one end of a pulse in WIDTH mode. -/
def State.swing (s : State) (e now at_ : Nat) (rising : Bool) : State :=
  let p := s.prism
  let dir := p.ec e 1 1
  let along := dir = 2 ∨ (dir = 0) = (rising = true)
  let c := Tab.get {} p.ecs e
  if p.ec e 0 1 = 2 then (if along then s.ecEvent e now at_ else s)
  else if p.ec e 0 1 = 3 then
    if along then s.modPrism (fun x => { x with ecs := Tab.insert x.ecs e { c with pulse := some at_ } })
    else match c.pulse with
      | some first =>
        let s := s.modPrism (fun x => { x with ecs := Tab.insert x.ecs e { c with pulse := none } })
        let w := at_ - first
        let inside := decide (p.ec e 8 8 ≤ w ∧ w ≤ p.ec e 16 8)
        let late := first + p.ec e 16 8
        if p.ec e 3 1 = 0 ∧ inside ∨ p.ec e 3 1 = 1 ∧ ¬ inside then s.ecEvent e now at_
        else if p.ec e 3 1 = 2 ∧ late < at_ then s.ecEvent e late late
        else s
      | none => s
  else s

/-- An EDGE comparator's event: a transition of LINE in DIR. -/
def State.edgeMode (s : State) (e : Nat) (low rising : Bool) (t : Nat) : State :=
  let dir := s.prism.ec e 1 1
  if s.prism.ec e 0 1 = 1 ∧ (s.prism.ec e 2 1 == 1) = low ∧ (dir = 2 ∨ (dir == 1) = !rising) then s.ecEvent e t t else s

/-- The state re-enters an extreme (1 LOW, 2 HIGH) at `t`: a swing if it came from the other one, a runt if it returned
to the one it had left. -/
def State.enterExtreme (s : State) (e x t : Nat) (before : EdgeComp) : State :=
  match before.left with
  | none => s
  | some l =>
    let f := s.prism.ec e 6 1
    if before.extreme = x then
      if s.prism.ec e 0 1 = 4 ∧ s.prism.ec e 1 1 = x - 1 then s.ecEvent e t t else s
    else if x = 2 then s.swing e t (placeSwing f l t) true
    else s.swing e t (placeSwing f t l) false

/-- A crossing of a line of comparator `e` at instant `t` (frac): PE_CL falling leaves LOW, PE_CH rising enters HIGH,
PE_CH falling leaves HIGH, PE_CL rising enters LOW. A pulse is given up where the swing that ends it, or that would begin the
next, depends on a crossing without a stamp (R300). -/
def State.crossing (s : State) (e : Nat) (low rising : Bool) (t : Nat) : State :=
  if ¬ s.pzRunning ∨ s.prism.ec e 0 1 = 0 then s
  else
    let c := Tab.get {} s.prism.ecs e
    let x := if low then 1 else 2
    let stamped : Bool := match c.last with
      | some l => decide (l + 2 * frac < t)
      | none => true
    let s := if stamped then s else s.inc PZ_ECLOST.COUNT 0 e
    let lost := rising && c.extreme != x && (!stamped || c.left.isNone)
    let c' : EdgeComp := { c with
      last := some t, ch := if low then c.ch else rising, cl := if low then rising else c.cl, extreme := x,
      left := if !rising && stamped then some t else none, pulse := if lost then none else c.pulse }
    let s := s.modPrism (fun p => { p with ecs := Tab.insert p.ecs e c' })
    if ¬ stamped then s
    else
      let s := s.edgeMode e low rising t
      if rising then s.enterExtreme e x t c else s

/-! ## Commands -/

/-- PRISM_LOAD: R293, R294. -/
def execPrismLoad (d : Desc) (p : Bytes) (s : State) : Host.Outcome State Fault Refusal :=
  .next (s.serveJob 0x0407 d p prismLoad)

/-- PRISM_GO: a free program starts (R306). -/
def execPrismGo (s : State) : Host.Outcome State Fault Refusal :=
  let st := s.rd PZ_STAT.STATE
  if (st = 1 ∨ st = 3) ∧ ¬ s.pzLinked then .next (s.pzStart (s.tt + 1)) else .next s

/-- PRISM_STOP: Prism stops at the end of the aligned tick of the write (R307). -/
def execPrismStop (s : State) : Host.Outcome State Fault Refusal := .next (s.pzStopAt s.tt)

/-- EDGE_COMPARATOR_CROSSING: R299, R300. -/
def execEdgeComparatorCrossing (e : Fin 4) (low rising : Bool) (t : BitVec 64) (f : BitVec 12) (s : State) :
    Host.Outcome State Fault Refusal :=
  .next ((s.reach t.toNat).crossing e low rising (t.toNat * frac + f.toNat))

/-- OUTPUT_PULSE_END: a pulsed output returns to idle PW ticks later (R304). -/
def execOutputPulseEnd (out : Fin 12) (s : State) : Host.Outcome State Fault Refusal :=
  match Tab.find s.prism.ends out with
  | some t => .next (((s.reach t).pzDrive out false).modPrism (fun p => { p with ends := Tab.erase p.ends out }))
  | none => .next s

/-- AUTO_TRIGGER: the auto timer has expired, and a forced trigger is issued once the aligned tick of expiry is evaluated and
has issued none of its own (R309). -/
def execAutoTrigger (s : State) : Host.Outcome State Fault Refusal :=
  match s.prism.autoEnd with
  | some t =>
    if s.pzRunning ∧ s.rd LP_STAT.STATE = 2 ∧ t < s.prism.aligned then
      let s := ((s.reach (t + 64)).modPrism (fun p => { p with autoEnd := none })).wr PZ_STAT.AUTORUN 0
      .next ((s.issueTrigger t (t * frac) true false).inc PZ_FORCED.COUNT)
    else .next s
  | none => .next s

end Sys2Proof.Machine
end

