-- ==== Sys2Proof/Machine/Cal.lean ====
section
/-!
DEFINITION. Calibration (12): due channels, direct calibration and calibration through the Mirror, slewing, the tables of
Mirrors and REF channels, and the blob.
-/
namespace Sys2Proof.Machine

/-! ## State access -/

/-- The channels of group `g`. -/
def groupChannels (g : Nat) : List Nat := (List.range 32).map (fun i => 32 * g + i)

/-- A signed 16-bit field. -/
def State.rdS (s : State) (f : Field) (i : Nat := 0) (k : Nat := 0) : Int := sgn f.w (s.rd f i k)

/-- A signed value written to a field. -/
def State.wrS (s : State) (f : Field) (v : Int) (i : Nat := 0) (k : Nat := 0) : State := s.wr f (unsgn f.w v) i k

/-- A channel of a site in RUNNING or HALTING. -/
def State.running (s : State) (n : Nat) : Bool := (s.siteOf n).any s.busySite

/-! ## Due channels (R313–R315) -/

/-- Some correction or the gain is not yet at its target. -/
def State.slewing (s : State) (n : Nat) : Bool :=
  (List.range 6).any (fun k => s.rd CH_COR.CUR n k != s.rd CH_COR.TGT n k) || s.rd CH_GAIN.CUR n != s.rd CH_GAIN.TGT n

/-- The channel is due (R313). A threshold counts from the temperature reading that follows its setting (R316). -/
def State.isDue (s : State) (n : Nat) : Bool :=
  !s.slewing n && (!s.on CH_CALSTAT.VALID n || decide (4 * (s.calg (groupOf n)).thresh < s.drift n)
    || s.cal.resealed.contains n)

/-- DUE brought up to date for one channel. -/
def State.refreshDue (n : Nat) (s : State) : State := s.flag CH_CALSTAT.DUE (s.isDue n) n

/-- SLEW and DUE brought up to date. -/
def State.refreshSlew (n : Nat) (s : State) : State := State.refreshDue n (s.flag CH_CALSTAT.SLEW (s.slewing n) n)

/-- The channels of a group that are due. -/
def State.dueIn (s : State) (g : Nat) : List Nat := (groupChannels g).filter (fun n => s.on CH_CALSTAT.DUE n)

/-- The channels of a group that are due and not deferred. -/
def State.toCalibrate (s : State) (g : Nat) : List Nat := (s.dueIn g).filter (fun n => !(s.calg g).deferred.contains n)

/-- CAL_DONE once a group that calibrated channels has none due, queued or slewing left (R315). -/
def State.calDone (g : Nat) (s : State) : State :=
  let c := s.calg g
  if c.count ≠ 0 ∧ c.stage = 0 ∧ c.wanted = [] ∧ s.dueIn g = [] ∧ (groupChannels g).all (fun n => !s.slewing n) then
    let s := s.event 5 0xFFFF s.tt (toLe 2 g ++ toLe 2 c.count)
    s.modCal g (fun c => { c with count := 0, stepped := false })
  else s

/-- The CAL_RUN jobs that name a channel count it as calibrated or deferred; a job with none left ends (R315, R323). -/
def State.calJobs (s : State) (n : Nat) (deferred : Bool) : State :=
  let js := s.cal.jobs.map (fun j => if j.left.contains n then
    { j with left := j.left.filter (· != n), done := j.done + b2n (!deferred), deferred := j.deferred + b2n deferred } else j)
  let s := { s with cal := { s.cal with jobs := js.filter (fun j => !j.left.isEmpty) } }
  (js.filter (fun j => j.left.isEmpty)).foldl (fun s j =>
    s.completeJob j.job ok (toLe 2 j.done ++ toLe 2 j.deferred) []) s

/-- Channels of a group are deferred: the event, the bit, the jobs (R323). TEMP_STEP may come again once every due channel
of the group is calibrated or deferred (R314). -/
def State.deferChannels (s : State) (g : Nat) (ns : List Nat) : State :=
  if ns = [] then s
  else
    let s := s.modCal g (fun c => { c with
      wanted := c.wanted.filter (fun n => !ns.contains n), deferred := (c.deferred ++ ns).eraseDups })
    let s := s.modCal g (fun c => { c with stepped := c.stepped && !(s.toCalibrate g).isEmpty })
    let s := s.wr CA_STAT.DEFER (setBits (s.rd CA_STAT.DEFER) g 1 1)
    let s := s.event 6 0xFFFF s.tt (toLe 2 g ++ toLe 2 ns.length)
    ns.foldl (fun s n => s.calJobs n true) s

/-- Channels that cannot be calibrated now: those not deferred yet are; CAL_RUN jobs count the others too. -/
def State.setAside (s : State) (g : Nat) (ns : List Nat) : State :=
  let (old, new) := ns.partition (fun n => (s.calg g).deferred.contains n)
  let s := s.modCal g (fun c => { c with wanted := c.wanted.filter (fun n => !old.contains n) })
  (old.foldl (fun s n => s.calJobs n true) s).deferChannels g new

/-! ## Tables of Mirrors and REF channels (R325, R326) -/

/-- The temperature points of R325. -/
def tempPoints : List Int := [-40, -10, 20, 50, 80, 110, 130, 150]

/-- A signed 2-byte value of the sealed record; zero without a record. -/
def State.sealed (s : State) (off : Nat) : Int := sgn 16 (field (s.cal.record.getD []) off 2)

/-- The table of REF channel `u` (0–3) or Mirror `u − 4`, value `v`, point `p`. -/
def State.tableAt (s : State) (u p v : Nat) : Int :=
  s.sealed ((if u < 4 then 128 + 128 * u else 640 + 128 * (u - 4)) + 16 * p + 2 * v)

/-- APPLIED at temperature `t` in 1/16 °C (R325). -/
def State.interpolate (s : State) (u v : Nat) (t : Int) : Int :=
  let at_ (p : Nat) : Int := s.tableAt u p v
  if t ≤ -640 then divRound (at_ 0) 16
  else if 2400 ≤ t then divRound (at_ 7) 16
  else
    let i := ((List.range 8).filter (fun i => decide (16 * tempPoints.getD i 0 ≤ t))).getLast?.getD 0
    let d := 16 * (tempPoints.getD (i + 1) 150 - tempPoints.getD i 0)
    divRound (at_ i * d + (at_ (i + 1) - at_ i) * (t - 16 * tempPoints.getD i 0)) (16 * d)

/-- The values a unit's tables ask for at its present temperature. -/
def State.recompute (s : State) (u : Nat) : State :=
  let t := if u < 4 then s.rdS CH_REFSTAT.TEMP u else s.rdS CA_GRP.TEMP 0 (u - 4)
  { s with cal := { s.cal with goal := (List.range 7).foldl (fun g v => Tab.set 0 g (8 * u + v) (s.interpolate u v t)) s.cal.goal } }

/-! ## The REF queue and a measurement (R311, R312) -/

/-- Groups that wait for or use REF `q`, oldest first. -/
def State.refQueue (s : State) (q : Nat) : List Nat := Tab.get [] s.cal.refQ q

/-- The queue changed, with the REF's registers and the head's phase. -/
def State.setRefQueue (s : State) (q : Nat) (gs : List Nat) : State :=
  let s := { s with cal := { s.cal with refQ := Tab.set [] s.cal.refQ q gs } }
  let s := s.wrs q [(CH_REFSTAT.BUSY, b2n (!gs.isEmpty)), (CH_REFSTAT.QUEUE, gs.length - 1)]
  match gs with
  | g :: _ => (s.selfCal (528 + q)).wr CA_GRP.PHASE (if (s.calg g).mirror then 3 else 1) 0 g
  | [] => s

/-- The measurement of the group's channel begins, or waits for the REF: the controller owns the interpolators and the
measurement unit is held (R261, R311). -/
def State.beginMeasure (s : State) (g : Nat) : State :=
  let n := s.rd CA_GRP.CHAN 0 g
  let owner := s.rd CH_TIASTAT.OWNER n
  let s := s.modCal g (fun c => { c with stage := 4, since := s.tt, owner := owner, waiting := none, preempted := false })
  let s := s.wr CH_TIASTAT.OWNER 3 n
  let s := if owner = 1 then s.wr CH_TIASTAT.STATE 4 n else s
  let q := g / 4
  (s.wr CA_GRP.PHASE 5 0 g).setRefQueue q (s.refQueue q ++ [g])

/-- The interpolators go back to the owner before, if a capture still lists the channel; a unit that was held goes on (R261,
R286). -/
def State.returnChannel (s : State) (g n : Nat) : State :=
  let c := s.calg g
  if s.rd CH_TIASTAT.OWNER n ≠ 3 then (if s.rd CH_TIASTAT.STATE n = 4 then s.resumeTia n else s)
  else if c.owner = 1 then (s.wr CH_TIASTAT.OWNER 1 n).resumeTia n
  else if c.owner = 2 ∧ s.loupeActive ∧ s.loupe.held.contains n then
    ((s.wr CH_TIASTAT.OWNER 2 n).modLoupe (fun l => { l with
      gaps := l.gaps ++ [⟨n, false, c.since * frac, some (s.tt * frac), Tab.get 0 l.calLost n⟩],
      calLost := Tab.erase l.calLost n })).flushGaps
  else s.wr CH_TIASTAT.OWNER 0 n

/-- The group's Mirror is detached (R321); what its unit measured for a replaced channel ends without a result (R262; DESIGN
CHOICE, log entry 84). -/
def State.detachMirror (s : State) (g : Nat) : State :=
  let s := if s.rd CH_MSTAT.MODE g = 3 then s.releaseTia (512 + g) else s
  let s := State.dropWindow (512 + g) (State.stopChan (512 + g) s)
  let s := s.wrs g [(CH_MSTAT.MODE, 0), (CH_MSTAT.PART, 0), (CH_MSTAT.CHAN, 0)]
  (List.range 4).foldl (fun s k => s.wr CH_MMATCH.MATCH 0 g k) s

/-- RUN of the site waits: a COLLIMATE apply is pending (R349), or a channel of the site is being measured directly
(R317). -/
def State.runWaits (s : State) (i : Nat) : Bool :=
  (s.on SY_STAT.COLLBUSY && decide (s.tt < s.ring.collAt + 64000))
    || (s.channels i).any s.directly

/-- A RUN job whose wait is over puts its site in RUNNING, if the site is still in a state from which RUN is served (Table
3-6); on one chip it is answered then (R65). -/
def State.runNow (s : State) (w : RunWait) : State :=
  match s.job w.job with
  | none => s
  | some j =>
    if ¬ [stLoaded, stDone, stHalted].contains (s.site w.site) then s.completeJob w.job refusedState [] []
    else
      let s := s.enterRun w.site (par j.cmd.d 24 4) (bit (par j.cmd.d 28 1) 0) w.facets
      if (s.seq w.site).waitBarrier then s else s.completeJob w.job ok (toLe 8 (s.rd SQ_RUNT.T w.site)) []

/-- RUN jobs whose wait is over go on. -/
def State.wakeRuns (s : State) : State :=
  let go := s.cal.waiters.filter (fun w => !s.runWaits w.site)
  go.foldl State.runNow { s with cal := { s.cal with waiters := s.cal.waiters.filter (fun w => s.runWaits w.site) } }

/-- The group's calibration leaves the channel, which is back at the pad: the writes that waited for it apply (R317). -/
def State.leaveChannel (s : State) (g n : Nat) : State :=
  let s := (s.returnChannel g n).applyHeld n
  let s := (s.wr CA_GRP.PHASE 0 0 g).wr CA_GRP.CHAN 0 0 g
  let q := g / 4
  let s := if (s.refQueue q).contains g then s.setRefQueue q ((s.refQueue q).filter (· != g)) else s
  (s.modCal g (fun c => { c with
    stage := 0, mirror := false, back := false, owner := 0, waiting := none, preempted := false, release := false,
    replace := none })).wakeRuns

/-- The calibration of the channel is complete (R315, R317, R321). -/
def State.finishCal (s : State) (g n : Nat) : State :=
  let s := s.leaveChannel g n
  let s := s.modCal g (fun c => { c with
    count := c.count + 1, wanted := c.wanted.filter (· != n), deferred := c.deferred.filter (· != n) })
  State.calDone g ((State.refreshSlew n s).calJobs n false)

/-- The channel takes back the pad: the Mirror is detached and the slew may begin (R321). -/
def State.handBack (s : State) (g n : Nat) : State :=
  ((s.detachMirror g).wr CH_CALSTAT.STANDIN 0 n).finishCal g n

/-- A calibration is abandoned; the channel stays as it is (R324). With `keep` the engine that drives the pad keeps it. -/
def State.abandonCal (s : State) (g : Nat) (keep : Bool) : State :=
  let c := s.calg g
  let n := s.rd CA_GRP.CHAN 0 g
  if c.stage = 0 then
    let s := match c.waiting with
      | some m => s.returnChannel g m
      | none => s
    s.modCal g (fun c => { c with waiting := none, preempted := false })
  else
    let s := if c.mirror ∧ ¬ (keep ∧ s.rd CH_CALSTAT.STANDIN n = 1) then
        (s.detachMirror g).wr CH_CALSTAT.STANDIN 0 n else s
    (s.leaveChannel g n).modCal g (fun c => { c with wanted := c.wanted.filter (· != n) })

/-! ## Steps of a calibration (R315–R324) -/

/-- The state of engine `n` is copied to engine `m`: to the Mirror, or back (R318, R321). -/
def State.copyEngine (s : State) (n m : Nat) : State :=
  let c := s.chan n
  let s := s.modChan m (fun x => { x with
    facets := c.facets, facetLog := c.facetLog, loopBuf := c.loopBuf, lastCode := c.lastCode })
  s.wrs m [(CH_FVALID.DEF, s.rd CH_FVALID.DEF n), (CH_ENTIME.ENON, s.rd CH_ENTIME.ENON n), (CH_ENTIME.ENOFF, s.rd CH_ENTIME.ENOFF n),
    (CH_BURSTCFG.BOFF, s.rd CH_BURSTCFG.BOFF n), (CH_BURSTCFG.BSTRB, s.rd CH_BURSTCFG.BSTRB n),
    (CH_STRMBASE.BASE, s.rd CH_STRMBASE.BASE n), (CH_STRMCFG.WIDTH, s.rd CH_STRMCFG.WIDTH n),
    (CH_STRMCFG.VALID, s.rd CH_STRMCFG.VALID n), (CH_CMSMASK.MEMBER, s.rd CH_CMSMASK.MEMBER n),
    (CH_LBSTAT.COUNT, s.rd CH_LBSTAT.COUNT n)]

/-- Engine `m` has filled its stream buffer and follows the site beside engine `n` from the next cycle (R188, R318): what it
holds and has requested is what `n` holds and has requested. Its PE_DRV and PE_EN go on from their own levels. -/
def State.joinStream (s : State) (n m : Nat) : State :=
  let c := s.chan n
  let en := s.on CH_PELIVE.EN m
  let s := s.modChan m (fun x => { x with
    facets := c.facets, facetLog := c.facetLog,
    fifo := c.fifo, reqs := c.reqs, walk := c.walk, cand := c.cand, source := c.source, ringCodes := c.ringCodes,
    ringRead := c.ringRead, loopBuf := c.loopBuf, lastCode := c.lastCode, enCmd := en, enQ := [], win := none })
  s.wrs m [(CH_LBSTAT.COUNT, s.rd CH_LBSTAT.COUNT n), (CH_LBSTAT.REC, s.rd CH_LBSTAT.REC n),
    (CH_LBSTAT.REPLAY, s.rd CH_LBSTAT.REPLAY n), (CH_WINSTAT.OPEN, 0)]

/-- The Mirror of a group at rest cannot serve a calibration: it replaces a fenced channel, keeps a pad since CLOCK_LOST, or
is fenced itself (R323, R324, R442). -/
def State.mirrorTaken (s : State) (g : Nat) : Bool := 2 ≤ s.rd CH_MSTAT.MODE g || s.fenced (512 + g)

/-- A measurement or a capture holds the channel's interpolators, and the wait of R261 has not expired. -/
def State.heldBack (s : State) (g n : Nat) : Bool :=
  (s.tiaArmed n || s.rd CH_TIASTAT.OWNER n == 2) && !((s.calg g).preempted && (s.calg g).waiting == some n)

/-- The channel's state is being copied to or from its Mirror (R318, R321). -/
def State.copying (s : State) (n : Nat) : Bool :=
  let g := groupOf n
  ((s.calg g).stage == 1 || (s.calg g).stage == 5) && s.rd CA_GRP.CHAN 0 g == n

/-- The channels the controller would serve next: those asked for, the due ones under AUTO, and deferred channels whose
site has stopped (R315, R323). -/
def State.candidates (s : State) (g : Nat) : List Nat :=
  (groupChannels g).filter (fun n => !s.fenced n &&
    ((s.calg g).wanted.contains n || (s.on CA_CTL.AUTO && s.on CH_CALSTAT.DUE n && !s.gated g && !(s.calg g).deferred.contains n)
      || ((s.calg g).deferred.contains n && !s.running n)))

/-- The controller starts with the next channel of a group (R315, R317, R318, R323). -/
def State.calStart (s : State) (g : Nat) : State :=
  if ¬ s.on CA_STAT.SEALOK ∨ (s.calg g).stage ≠ 0 then s
  else
    let cs := s.candidates g
    if s.fenced (528 + g / 4) ∨ s.fenced (716 + g) then s.setAside g cs
    else
      let off := cs.filter (fun n => s.running n && (s.mirrorTaken g || (s.calg g).deferred.contains n))
      let s := s.setAside g off
      match cs.filter (fun n => !off.contains n) with
      | [] => State.calDone g s
      | n :: _ =>
        let s := s.modCal g (fun c => { c with wanted := if c.wanted.contains n then c.wanted else n :: c.wanted })
        if s.running n then
          let s := (s.wr CA_GRP.CHAN n 0 g).wr CA_GRP.PHASE 2 0 g
          (s.wrs g [(CH_MSTAT.CHAN, n)]).modCal g (fun c => { c with mirror := true, stage := 1, since := s.tt })
        else if s.heldBack g n then
          (if (s.calg g).waiting = some n then s else s.modCal g (fun c => { c with waiting := some n, preempted := false, since := s.tt }))
        else
          let s := if s.tiaArmed n then s.endMeasure n 2 else s
          (s.wr CA_GRP.CHAN n 0 g).beginMeasure g

/-- A measured target: the previous target less the mean error, an open value where that leaves the range of R310. -/
def State.newTarget (s : State) (w : Nat) (v : Int) : Int × State :=
  if -(2 ^ (w - 1) : Nat) ≤ v ∧ v < (2 ^ (w - 1) : Nat) then (v, s)
  else
    let (r, s) := s.draw
    (sgn w r, s)

/-- The tap offset of a channel's path in 1/16 step: the output tap for paths 0–3, the input tap for 4 and 5 (Table 12-6). -/
def State.tapOffset (s : State) (n k : Nat) : Int := s.sealed ((if k < 4 then 2688 else 2690) + 4 * n)

/-- A REF measurement ends with the mean errors of the six paths as stamped, in 1/16 step, and the gain (R311, R317, R321):
the tap offset is removed and the rest, rounded, is taken from the target. -/
def State.measured (s : State) (g : Nat) (errors : List Int) (gain : Int) : State :=
  let c := s.calg g
  let n := s.rd CA_GRP.CHAN 0 g
  if c.stage ≠ 4 ∨ (s.refQueue (g / 4)).head? ≠ some g then s
  else
    let s := (List.range 6).foldl (fun s k =>
      let (t, s) := s.newTarget 13 (s.rdS CH_COR.TGT n k - divRound (errors.getD k 0 - s.tapOffset n k) 16)
      s.wrS CH_COR.TGT t n k) s
    let (gn, s) := s.newTarget 12 gain
    let s := (s.wrS CH_GAIN.TGT gn n).wrs n [(CH_CALSTAT.VALID, 1), (CH_CALSTAT.TCAL, s.rd CA_GRP.TEMP 0 g)]
    let s := { s with cal := { s.cal with resealed := s.cal.resealed.filter (· != n) } }
    let s := State.refreshSlew n (s.setRefQueue (g / 4) (s.refQueue (g / 4)).tail)
    if c.mirror then
      if s.running n then
        (s.wr CA_GRP.PHASE 4 0 g).modCal g (fun c => { c with stage := 5, since := s.tt })
      else s.handBack g n
    else
      let s := (List.range 6).foldl (fun s k => s.wr CH_COR.CUR (s.rd CH_COR.TGT n k) n k) s
      let s := s.wr CH_GAIN.CUR (s.rd CH_GAIN.TGT n) n
      if s.rd CH_CALSTAT.STANDIN n = 1 then s.handBack g n else s.finishCal g n

/-- One interval of slewing for one channel (R322). A new target waits for the hand-back (R321). -/
def State.slewChannel (n : Nat) (s : State) : State :=
  let g := groupOf n
  if ¬ s.slewing n ∨ (5 ≤ (s.calg g).stage ∧ s.rd CA_GRP.CHAN 0 g = n) then s
  else
    let step : Int := s.rd CA_SLEW.STEP
    let toward (cur tgt lim : Int) : Int := if cur < tgt then min (cur + lim) tgt else max (cur - lim) tgt
    let s := (List.range 6).foldl (fun s k =>
      s.wrS CH_COR.CUR (toward (s.rdS CH_COR.CUR n k) (s.rdS CH_COR.TGT n k) step) n k) s
    let s := s.wrS CH_GAIN.CUR (toward (s.rdS CH_GAIN.CUR n) (s.rdS CH_GAIN.TGT n) 8) n
    State.refreshSlew n s

/-- The first of a group's sweeps that wait starts; one pseudo-channel of a group sweeps at a time (R426). -/
def State.startSweeps (s : State) (g : Nat) : State :=
  if (List.range 4).any (fun i => s.on MC_PC.SWEEP 0 (4 * g + i)) then s
  else match s.mem.sweepDue.find? (fun k => k / 4 == g) with
    | some k => { s.wr MC_PC.SWEEP 1 0 k with mem := { s.mem with sweepDue := s.mem.sweepDue.filter (· != k) } }
    | none => s

/-- A verification sweep of pseudo-channel `k` is due (R426). -/
def State.askSweep (s : State) (k : Nat) : State :=
  if s.on MC_PC.SWEEP 0 k ∨ s.mem.sweepDue.contains k then s
  else ({ s with mem := { s.mem with sweepDue := s.mem.sweepDue ++ [k] } }).startSweeps (k / 4)

/-- A reading of sensor `k` (Table 20-10): a group, a REF channel or a DRAM stack. -/
def State.tempReading (s : State) (k t : Nat) : State :=
  let s := { s with cal := { s.cal with sensors := Tab.set 0 s.cal.sensors k t } }
  if k < 16 then
    let s := (s.wr CA_GRP.TEMP t 0 k).modCal k (fun c => { c with thresh := s.rd CA_CTL.THRESH })
    let inCal := if (s.calg k).stage = 0 then 512 else s.rd CA_GRP.CHAN 0 k
    let s := forAll ((groupChannels k).filter (· != inCal)) State.refreshDue s
    let s := s.recompute (4 + k)
    let due := s.toCalibrate k
    if due ≠ [] ∧ ¬ (s.calg k).stepped then
      let most := ((groupChannels k).map s.drift).foldl max 0
      (s.event 9 k s.tt (toLe 2 t ++ toLe 2 most)).modCal k (fun c => { c with stepped := true })
    else if due = [] then s.modCal k (fun c => { c with stepped := false })
    else s
  else if k < 20 then (s.wr CH_REFSTAT.TEMP t (k - 16)).recompute (k - 16)
  else
    let st := (k - 20) / 2
    let a := sgn 16 (Tab.get 0 s.cal.sensors (20 + 2 * st))
    let b := sgn 16 (Tab.get 0 s.cal.sensors (21 + 2 * st))
    let deg := max a b / 16
    let s := s.wrS (if st = 0 then MC_STAT.TEMP0 else MC_STAT.TEMP1) deg
    forAll ((List.range 32).map (fun i => 32 * st + i)) (fun pc s =>
      let s := { s with mem := { s.mem with wantCode := Tab.insert s.mem.wantCode pc (Config.delayCode pc deg).toNat } }
      let far := match Tab.find s.mem.sweepTemp pc with
        | some t0 => decide (5 ≤ (deg - sgn 16 t0).natAbs)
        | none => false
      if far then s.askSweep pc else s) s

/-! ## Job commands (R315, R316, R327–R330) -/

/-- CAL_RUN: R315, R334. -/
def calRun (c : Consumed) (id : Nat) (_p : Bytes) (s : State) : Act :=
  let mask := par c.d 24 2
  let scope := par c.d 26 1
  if 1 < scope then refuse badParam s
  else if ¬ s.on CA_STAT.SEALOK then refuse notReady s
  else
    let ns := (bitList 16 mask).flatMap (fun g => (groupChannels g).filter (fun n =>
      !s.fenced n && (scope == 1 || s.on CH_CALSTAT.DUE n)))
    if ns = [] then success (toLe 2 0 ++ toLe 2 0) s
    else
      let s := ns.foldl (fun s n => s.modCal (groupOf n) (fun c => { c with
        wanted := if c.wanted.contains n then c.wanted else c.wanted ++ [n] })) s
      .later { s with cal := { s.cal with jobs := s.cal.jobs ++ [⟨id, ns, 0, 0⟩] } }

/-- CAL_POLICY: R316. -/
def calPolicy (c : Consumed) (s : State) : Act :=
  let th := par c.d 24 1
  let st := par c.d 25 1
  let iv := par c.d 28 4
  if th = 0 ∨ 64 < th ∨ st = 0 ∨ 32 < st ∨ iv < 10 ∨ 1000 < iv then refuse badParam s
  else success [] (s.wrs 0 [(CA_CTL.THRESH, th), (CA_SLEW.STEP, st), (CA_SLEW.INTERVAL, iv)])

/-- Fixture offsets of a channel as blob bytes 20–23. -/
def State.fixBytes (s : State) (n : Nat) : Bytes :=
  toLe 2 (unsgn 16 (s.rdS CH_FIX.FIXDRV n)) ++ toLe 2 (unsgn 16 (s.rdS CH_FIX.FIXCMP n))

/-- FIXMATCH: the record's FIXDIG is non-zero and is the digest of the fixture offsets in force (R334). -/
def State.refreshFix (s : State) : State :=
  let dig := ((s.cal.record.getD []).drop 64).take 48
  s.flag CA_STAT.FIXMATCH (!allZero dig && dig == Config.sha384 ((List.range 512).flatMap s.fixBytes))

/-- A channel's record in the calibration blob (Table 12-3). -/
def State.calRecord (s : State) (n : Nat) : Bytes :=
  toLe 2 n ++ toLe 1 (s.rd CH_CALSTAT.VALID n) ++ zeros 1 ++ toLe 2 (s.rd CH_CALSTAT.TCAL n)
    ++ (List.range 6).flatMap (fun k => toLe 2 (unsgn 16 (s.rdS CH_COR.TGT n k)))
    ++ toLe 2 (unsgn 16 (s.rdS CH_GAIN.TGT n)) ++ s.fixBytes n ++ zeros 8

/-- The calibration blob of Table 12-3. -/
def State.calBlob (s : State) : Bytes :=
  let head := toLe 1 1 ++ zeros 3 ++ toLe 12 Config.dieId.toNat ++ toLe 4 (s.rd CA_SEALCNT.COUNT) ++ toLe 8 s.tt ++ zeros 32
  let body := (List.range 512).flatMap s.calRecord
  head ++ toLe 4 (crc32 (head ++ zeros 4 ++ body)) ++ body

/-- CAL_READ_ALL: R329. -/
def calReadAll (c : Consumed) (_id : Nat) (_p : Bytes) (s : State) : Act :=
  if c.d.length.toNat < 16448 then refuse outOfRange s else .done ok (toLe 4 16448) s.calBlob s

/-- A site is RUNNING or HALTING, or a calibration is in progress. -/
def State.calBusy (s : State) : Bool :=
  (List.range 64).any s.busySite || (List.range 16).any (fun g => (s.calg g).stage != 0)

/-- One record of a blob is in range (Table 12-4, order 2). -/
def calRecordOk (p : Bytes) (n : Nat) : Bool :=
  let b := 64 + 32 * n
  let sg (off : Nat) : Int := sgn 16 (field p (b + off) 2)
  let within (x lo hi : Int) : Bool := decide (lo ≤ x ∧ x ≤ hi)
  field p b 2 == n && field p (b + 2) 1 ≤ 1 && field p (b + 3) 1 == 0
    && (List.range 6).all (fun k => within (sg (6 + 2 * k)) (-4096) 4095) && within (sg 18) (-2048) 2047
    && within (sg 20) (-4000) 4000 && within (sg 22) (-4000) 4000 && zeroAt p (b + 24) 8

/-- CAL_WRITE_ALL: R330. -/
def calWriteAll (_c : Consumed) (_id : Nat) (p : Bytes) (s : State) : Act :=
  if s.calBusy then refuse busy s
  else if p.length ≠ 16448 ∨ field p 0 1 ≠ 1 ∨ ¬ zeroAt p 1 3 ∨ ¬ zeroAt p 28 32
      ∨ field p 60 4 ≠ crc32 (p.take 60 ++ zeros 4 ++ p.drop 64) ∨ ¬ (List.range 512).all (calRecordOk p) then refuse badParam s
  else if field p 4 12 ≠ Config.dieId.toNat then refuse 0x0501 s
  else if field p 16 4 ≠ s.rd CA_SEALCNT.COUNT then refuse 0x0502 s
  else
    let s := forAll (List.range 512) (fun n s =>
      let b := 64 + 32 * n
      let sg (off : Nat) : Int := sgn 16 (field p (b + off) 2)
      let s := (List.range 6).foldl (fun s k => (s.wrS CH_COR.CUR (sg (6 + 2 * k)) n k).wrS CH_COR.TGT (sg (6 + 2 * k)) n k) s
      let s := (s.wrS CH_GAIN.CUR (sg 18) n).wrS CH_GAIN.TGT (sg 18) n
      let s := (s.wrS CH_FIX.FIXDRV (sg 20) n).wrS CH_FIX.FIXCMP (sg 22) n
      let s := s.wrs n [(CH_CALSTAT.TCAL, field p (b + 4) 2), (CH_CALSTAT.VALID, field p (b + 2) 1)]
      State.refreshSlew n { s with cal := { s.cal with resealed := [] } }) s
    success [] s.refreshFix

/-- FIXTURE_OFFSETS: R327, R328. -/
def fixtureOffsets (_c : Consumed) (_id : Nat) (p : Bytes) (s : State) : Act :=
  let k := field p 2 2
  let e (i off n : Nat) : Nat := field p (16 + 8 * i + off) n
  let sg (i off : Nat) : Int := sgn 16 (e i off 2)
  let chans := (List.range (min k ((p.length - 16) / 8))).map (fun i => e i 0 2)
  if chans.any s.running then refuse busy s
  else if p.length ≠ 16 + 8 * k ∨ k = 0 ∨ 512 < k ∨ field p 0 1 ≠ 1 ∨ field p 1 1 ≠ 0 ∨ ¬ zeroAt p 4 12
      ∨ ¬ chans.all (· ≤ 511) ∨ ¬ chans.Nodup
      ∨ (List.range k).any (fun i => e i 6 2 != 0 || decide (4000 < (sg i 2).natAbs) || decide (4000 < (sg i 4).natAbs)) then
    refuse badParam s
  else
    let s := (List.range k).foldl (fun s i => (s.wrS CH_FIX.FIXDRV (sg i 2) (e i 0 2)).wrS CH_FIX.FIXCMP (sg i 4) (e i 0 2)) s
    success [] s.refreshFix

/-! ## Commands -/

/-- CAL_RUN: R315. -/
def execCalRun (d : Desc) (s : State) : Host.Outcome State Fault Refusal := .next (s.serveJob 0x0500 d [] calRun)

/-- CAL_READ_ALL: R329. -/
def execCalReadAll (d : Desc) (s : State) : Host.Outcome State Fault Refusal := .next (s.serveJob 0x0501 d [] calReadAll)

/-- CAL_WRITE_ALL: R330. -/
def execCalWriteAll (d : Desc) (p : Bytes) (s : State) : Host.Outcome State Fault Refusal :=
  .next (s.serveJob 0x0502 d p calWriteAll)

/-- CAL_POLICY: R316. -/
def execCalPolicy (d : Desc) (s : State) : Host.Outcome State Fault Refusal := .next (s.serve 0x0503 d calPolicy)

/-- FIXTURE_OFFSETS: R327, R328. -/
def execFixtureOffsets (d : Desc) (p : Bytes) (s : State) : Host.Outcome State Fault Refusal :=
  .next (s.serveJob 0x0506 d p fixtureOffsets)

/-- TEMP_READING: R313, R314, R325, R425, R426. -/
def execTempReading (sensor : Fin 24) (temp : BitVec 16) (s : State) : Host.Outcome State Fault Refusal :=
  .next (s.tempReading sensor temp.toNat)

/-- CALIBRATION_START: R315. -/
def execCalibrationStart (g : Fin 16) (s : State) : Host.Outcome State Fault Refusal := .next (s.calStart g)

/-- SHADOW_COPY_DONE: R318, R321. -/
def execShadowCopyDone (g : Fin 16) (s : State) : Host.Outcome State Fault Refusal :=
  let c := s.calg g
  let n := s.rd CA_GRP.CHAN 0 g
  if c.stage = 1 then .next ((s.copyEngine n (512 + g)).modCal g (fun c => { c with stage := 2, since := s.tt }))
  else if c.stage = 5 then .next ((s.copyEngine (512 + g) n).modCal g (fun c => { c with stage := 6, since := s.tt }))
  else .next s

/-- SHADOW_START: the Mirror shadows the channel, or the freed channel the Mirror (R318, R321). -/
def execShadowStart (g : Fin 16) (s : State) : Host.Outcome State Fault Refusal :=
  let n := s.rd CA_GRP.CHAN 0 g
  if (s.calg g).stage = 2 ∧ s.rd CH_MSTAT.MODE g = 0 then
    .next (((s.joinStream n (512 + g)).wr CH_MSTAT.MODE 1 g).modCal g (fun c => { c with cycles := 0 }))
  else if (s.calg g).stage = 6 ∧ ¬ (s.calg g).back then
    .next ((s.joinStream (512 + g) n).modCal g (fun c => { c with back := true, cycles := 0 }))
  else .next s

/-- The shadowing engine has played its 64 cycles, or the site has stopped and there are none to play (R319–R321). -/
def State.shadowed (s : State) (g : Nat) : Bool := decide (64 ≤ (s.calg g).cycles) || !s.running (s.rd CA_GRP.CHAN 0 g)

/-- MATCH_DONE: R319. -/
def execMatchDone (g : Fin 16) (pairs : List Nat) (offsets : List Int) (s : State) : Host.Outcome State Fault Refusal :=
  if (s.calg g).stage = 2 ∧ s.rd CH_MSTAT.MODE g = 1 ∧ s.shadowed g then
    let s := (List.range 4).foldl (fun s k =>
      if pairs.getD k 0 < 8 then (s.wr CH_MMATCH.MATCH 0 g k).wr CH_MSTAT.PART 1 g
      else s.wrS CH_MMATCH.MATCH (offsets.getD k 0) g k) s
    .next (s.modCal g (fun c => { c with stage := 3, since := s.tt }))
  else .next s

/-- TAKE_OVER_ABANDON: R320, R323. -/
def execTakeOverAbandon (g : Fin 16) (s : State) : Host.Outcome State Fault Refusal :=
  if (s.calg g).stage = 3 then
    let n := s.rd CA_GRP.CHAN 0 g
    let s := (s.reach ((s.calg g).since + 32000000)).detachMirror g
    .next ((s.leaveChannel g n).deferChannels g [n])
  else .next s

/-- TIA_PREEMPT_TIMEOUT: calibration's wait of 10 ms expires and the measurement ends with PREEMPTED (R261). -/
def execTiaPreemptTimeout (unit : Fin 528) (s : State) : Host.Outcome State Fault Refusal :=
  let g := groupOf unit
  if unit.val < 512 ∧ (s.calg g).waiting = some unit.val then
    let s := s.reach ((s.calg g).since + 32000000)
    let s := if s.tiaArmed unit then s.endMeasure unit 2 else s
    .next (s.modCal g (fun c => { c with preempted := true }))
  else .next s

/-- SLEW_INTERVAL: R322. -/
def execSlewInterval (s : State) : Host.Outcome State Fault Refusal :=
  .next (forAll (List.range 16) State.calDone (forAll (List.range 512) State.slewChannel s))

/-- TABLE_STEP: each applied value moves one step toward what its table asks for (R326). -/
def execTableStep (s : State) : Host.Outcome State Fault Refusal :=
  let move (a g : Int) : Int := if a < g then a + 1 else if g < a then a - 1 else a
  .next { s with cal := { s.cal with applied := (List.range 160).foldl (fun t k =>
    Tab.set 0 t k (move (Tab.get 0 t k) (Tab.get 0 s.cal.goal k))) s.cal.applied } }

end Sys2Proof.Machine
end

