-- ==== Sys2Proof/Machine/MemCtl.lean ====
section
/-!
DEFINITION. Vector memory and the on-die memories (17): regions and partitions, allocations, ECC, refresh, scrubbing,
delay codes.
-/
namespace Sys2Proof.Machine

/-! ## Regions (R36, R428) -/

/-- Length of a whole group region. -/
def regionSize : Nat := 0xC0000000

/-- The pseudo-channels of group `g` in the partition, ascending. -/
def State.serving (s : State) (g : Nat) : List Nat :=
  ((List.range 4).map (fun i => 4 * g + i)).filter (fun k => !s.on MC_PC.FENCED 0 k)

/-- Length of the group's region: 0.75 GiB for each pseudo-channel in service (R428). -/
def State.regionLen (s : State) (g : Nat) : Nat := (s.serving g).length * 0x30000000

/-- `[base, base + len)` is mapped and lies within one group region (R38, R428). -/
def State.inRegion (s : State) (base len : Nat) : Bool :=
  base / regionSize < 16 && base % regionSize + len ≤ s.regionLen (base / regionSize)

/-- The pseudo-channel that holds a byte of vector memory (R36, R428). -/
def State.pcOf (s : State) (a : Nat) : Nat :=
  let ks := s.serving (a / regionSize)
  ks.getD (a % regionSize / 256 % max 1 ks.length) 0

/-! ## Allocations (R70) -/

/-- Allocations within group `g`. -/
def State.allocsIn (s : State) (g : Nat) : List Alloc := s.mem.allocs.filter (fun a => a.base / regionSize == g)

/-- Free bytes of a group's region. -/
def State.freeIn (s : State) (g : Nat) : Nat := s.regionLen g - ((s.allocsIn g).map (·.size)).sum

/-- The lowest address of a group's region at which `size` bytes fit with the alignment. Only the region's base and the
ends of allocations, rounded up, can be lowest. -/
def State.place70 (s : State) (g size log2 : Nat) : Option Nat :=
  let base := g * regionSize
  let up (a : Nat) : Nat := ceilDiv a (2 ^ log2) * 2 ^ log2
  let starts := (base :: (s.allocsIn g).map (fun a => a.base + a.size)).map up
  let fits (a : Nat) : Bool := a + size ≤ base + s.regionLen g
    && (s.allocsIn g).all (fun x => a + size ≤ x.base || x.base + x.size ≤ a)
  (starts.filter fits).foldl (fun m a => match m with | some b => some (min a b) | none => some a) none

/-- `x` put into a list before the first element it does not follow. -/
def insertBy (after : Nat → Nat → Bool) (x : Nat) : List Nat → List Nat
  | [] => [x]
  | y :: ys => if after x y then y :: insertBy after x ys else x :: y :: ys

/-- The groups in descending order of free space, the lower number first on a tie. -/
def State.groupsByFree (s : State) : List Nat :=
  (List.range 16).foldl (fun l g => insertBy (fun a b => s.freeIn a ≤ s.freeIn b) g l) []

/-- A region in use by a loaded pattern, stream ring, fail log, dump ring or spill extent (IN_USE). -/
def State.inUse (s : State) (a : Alloc) : Bool :=
  let meets (b n : Nat) : Bool := b < a.base + a.size && a.base < b + n
  (List.range 64).any (fun i =>
      ([stLoaded, stRunning, stHalting, stDone, stHalted, stMachineCheck].contains (s.site i)
        && (meets (s.rd SQ_INSTBASE.BASE i) (8 * (s.seq i).pat.npi)
            || (s.channels i).any (fun n => s.on CH_STRMCFG.VALID n && meets (s.rd CH_STRMBASE.BASE n * 64)
                  (ceilDiv ((s.seq i).pat.ns * (if s.on CH_STRMCFG.WIDTH n then 2 else 1)) 2))))
      || (s.on SQ_SRSTAT.OPEN i && meets (s.rd SQ_SRBASE.BASE i * 256) (s.rd SQ_SRSIZE.FRAMES i * s.rd SQ_SRFLEN.FLEN i))
      || (s.on SQ_FLCTL.EN i && meets (s.rd SQ_FLBASE.BASE i * 32) (32 * s.rd SQ_FLSIZE.SIZE i))
      || (s.on PM_CTL.DUMPEN i && meets (s.rd PM_DBASE.BASE i * 128) (128 * s.rd PM_DSIZE.SIZE i)))
    || (decide (s.rd LP_STAT.STATE ≠ 0) && s.loupe.cfg.extents.any (fun e => meets e.1 e.2))

/-- MEM_ALLOC: R70. Which number a handle has is open: the model counts from 1 and gives none twice (DESIGN CHOICE, log
entry 74). -/
def memAlloc (c : Consumed) (s : State) : Act :=
  let size := par c.d 24 8
  let g := par c.d 32 1
  let al := par c.d 33 1
  if size = 0 ∨ 0xC0000000 < size ∨ (16 ≤ g ∧ g ≠ 255) ∨ al < 8 ∨ 30 < al then refuse badParam s
  else
    let found := if g = 255 then s.groupsByFree.findSome? (fun g => s.place70 g size al) else s.place70 g size al
    match found with
    | none => refuse 0x0801 s
    | some a =>
      let h := s.mem.nextHandle
      success (toLe 4 h ++ toLe 8 a)
        { s with mem := { s.mem with allocs := s.mem.allocs ++ [⟨h, a, size⟩], nextHandle := h + 1 } }

/-- MEM_FREE: Table 2-11. -/
def memFree (c : Consumed) (s : State) : Act :=
  let h := par c.d 24 4
  match s.mem.allocs.find? (fun a => a.handle == h) with
  | none => refuse 0x0802 s
  | some a =>
    if s.inUse a then refuse 0x0803 s
    else success [] { s with mem := { s.mem with allocs := s.mem.allocs.filter (fun a => a.handle != h) } }

/-- The range named by MEM_WRITE or MEM_READ lies in its space and in one region (R70). -/
def State.spaceOk (s : State) (space a n : Nat) : Bool :=
  if space = 0 then s.inRegion a n else if space = 1 then a + n ≤ 0x400000 else a + n ≤ 0x2000000

/-! ## A fence of a pseudo-channel (R427–R430) -/

/-- The site's engines, instructions or stream ring lie in the group. -/
def State.touches (s : State) (i g : Nat) : Bool :=
  s.site i ≠ stUnbound && ((s.channels i).any (fun n => groupOf n == g)
    || ((s.seq i).pat.npi ≠ 0 && s.rd SQ_INSTBASE.BASE i / regionSize == g)
    || (s.on SQ_SRSTAT.OPEN i && s.rd SQ_SRBASE.BASE i * 256 / regionSize == g))

/-- Contents of a group's region become undefined. -/
def State.loseRegion (s : State) (g : Nat) : State :=
  { s with vmem := s.vmem.scramble (g * regionSize) ((g + 1) * regionSize) s.free, free := s.free + 1 }

/-- A job moves data to or from the group's region. -/
def State.jobTouches (s : State) (j : Job) (g : Nat) : Bool :=
  let d := j.cmd.d
  j.started && (((j.cmd.op == 0x0800 || j.cmd.op == 0x0801) && par d 24 1 == 0 && par d 28 8 / regionSize == g)
    || (j.cmd.op == 0x0406 && s.loupe.cfg.extents.any (fun e => e.1 / regionSize == g))
    || (j.cmd.op == 0x0208 && d.site.toNat < 64 && s.rd SQ_SRBASE.BASE d.site.toNat * 256 / regionSize == g)
    || (j.cmd.op == 0x0202 && d.site.toNat < 64 && s.touches d.site.toNat g))

/-- Started jobs that `p` picks end with ABORTED. -/
def State.abortJobs (s : State) (p : Job → Bool) : State :=
  (s.mbx.jobs.filter p).foldl (fun s j => s.finishJob j aborted [] []) s

/-- The partition loses pseudo-channel `k`. The second component: the sites that became INVALID. -/
def State.fencePc (s : State) (k : Nat) : State × List Nat :=
  let g := k / 4
  let hit := (List.range 64).filter (fun i => s.touches i g)
  let s := (s.wr MC_PC.FENCED 1 0 k).loseRegion g
  let s := { s with mem := { s.mem with
    allocs := s.mem.allocs.filter (fun a => a.base / regionSize != g), swept := s.mem.swept.filter (· != k) } }
  let s := forAll (List.range 64) (fun i s =>
    let s := if s.rd SQ_FLBASE.BASE i * 32 / regionSize = g then s.wr SQ_FLCTL.EN 0 i else s
    if s.on PM_CTL.DUMPEN i ∧ s.rd PM_DBASE.BASE i * 128 / regionSize = g then
      s.wrs i [(PM_CTL.DUMPEN, 0), (PM_CTL.INTERVAL, 0), (PM_DSIZE.SIZE, 0)] else s) s
  let s := if s.loupeActive ∧ s.loupe.cfg.extents.any (fun e => e.1 / regionSize == g) then
      s.stopCapture 2 else s
  let s := s.abortJobs (fun j => s.jobTouches j g)
  let s := forAll hit (fun i s =>
    if s.busySite i then (s.postHalt i 4).modSeq i (fun q => { q with lost := true }) else s.invalidate i) s
  (s, hit.filter (fun i => s.site i = stInvalid))

/-! ## Errors, refresh, sweeps (R421–R426) -/

/-- A fault message of a pseudo-channel. -/
def pcFault (k kind sev access addr : Nat) : FaultMsg :=
  { source := BitVec.ofNat 10 (596 + k), kind := BitVec.ofNat 8 kind, sev := BitVec.ofNat 3 sev,
    access := BitVec.ofNat 3 access, address := BitVec.ofNat 40 addr }

/-- An error of pseudo-channel `k` is counted; 16 corrected ones or an uncorrectable one within 1 s bring a sweep (R426). -/
def State.noteEcc (s : State) (k : Nat) (uncorr : Bool) : State :=
  let s := if uncorr then s.inc MC_ECC.UNCORR 0 k else s.inc MC_ECC.CORR 0 k
  let ts := (s.age :: Tab.get [] s.mem.burst k).filter (fun t => s.age < t + 3200000000)
  let s := { s with mem := { s.mem with burst := Tab.insert s.mem.burst k ts } }
  if uncorr ∨ 16 ≤ ts.length then s.askSweep k else s

/-- A corrected error: at most one message per pseudo-channel per second (R423). -/
def State.corrected (s : State) (k addr : Nat) : State × List FaultMsg :=
  let quiet := match Tab.find s.mem.lastCorr k with
    | some t => decide (s.age < t + 3200000000)
    | none => false
  if quiet then (s.noteEcc k false, [])
  else ({ s with mem := { s.mem with lastCorr := Tab.insert s.mem.lastCorr k s.age } }, [pcFault k 0x20 1 6 addr])

/-- REFRESH: a pseudo-channel refreshes; a changed delay code moves by one step at the boundary (R421, R425). -/
def execRefresh (pc : Fin 64) (s : State) : Host.Outcome State Fault Refusal :=
  match Tab.find s.mem.wantCode pc with
  | none => .next s
  | some w =>
    let c := s.rd MC_PC.CODE 0 pc
    .next (s.wr MC_PC.CODE (if c < w then c + 1 else if w < c then c - 1 else c) 0 pc)

/-- The centre of the longest run of ones of a word of `n` bits; the first of equal runs, the lower middle. -/
def centreRun (n x : Nat) : Option Nat :=
  let runLen (i : Nat) : Nat := (((List.range (n - i)).takeWhile (fun j => bit x (i + j)))).length
  let best := (List.range n).foldl (fun (b : Nat × Nat) i => if b.2 < runLen i then (i, runLen i) else b) (0, 0)
  if best.2 = 0 then none else some (best.1 + (best.2 - 1) / 2)

/-- A verification sweep ends: bit `i` of `works` tells whether code − 8 + `i` returned every test word (R426, R427). -/
def State.sweep (s : State) (k works : Nat) : State × List FaultMsg :=
  let s := (s.wr MC_PC.SWEEP 0 0 k).startSweeps (k / 4)
  let t := s.rd (if k < 32 then MC_STAT.TEMP0 else MC_STAT.TEMP1)
  let s := { s with mem := { s.mem with sweepTemp := Tab.insert s.mem.sweepTemp k (unsgn 16 (sgn 8 t)) } }
  let code := s.rd MC_PC.CODE 0 k
  match centreRun 17 works with
  | none => (s, [pcFault k 0x23 2 6 0])
  | some i =>
    let new := code + i - 8
    let s := { s with mem := { s.mem with wantCode := Tab.insert s.mem.wantCode k new,
                                          swept := k :: s.mem.swept.filter (· != k) } }
    (s, if 3 ≤ ((new : Int) - code).natAbs then [pcFault k 0x22 0 6 0] else [])

/-- PC_REJOIN: an unfenced pseudo-channel that has passed a sweep rejoins once its group holds no allocation (R430). -/
def execPcRejoin (pc : Fin 64) (s : State) : Host.Outcome State Fault Refusal :=
  if s.on MC_PC.FENCED 0 pc ∧ ¬ s.fenced (596 + pc) ∧ s.mem.swept.contains pc.val ∧ s.allocsIn (pc / 4) = [] then
    .next ((s.wr MC_PC.FENCED 0 0 pc).loseRegion (pc / 4))
  else .next s

/-- MEM_ALLOC: R70. -/
def execMemAlloc (d : Desc) (s : State) : Host.Outcome State Fault Refusal := .next (s.serve 0x0802 d memAlloc)

/-- MEM_FREE: R62. -/
def execMemFree (d : Desc) (s : State) : Host.Outcome State Fault Refusal := .next (s.serve 0x0803 d memFree)

end Sys2Proof.Machine
end

