-- ==== Sys2Proof/Machine/Faults.lean ====
section
/-!
DEFINITION. The fault collector (18): messages taken, the first-error record, events, reactions, fences and recovery.
-/
namespace Sys2Proof.Machine

/-! ## Messages (R437, R446) -/

/-- The 16-byte message with its TIME (Table 18-1). -/
def faultWord (m : FaultMsg) (time : Nat) : Nat :=
  m.source.toNat + m.kind.toNat * 2 ^ 10 + m.sev.toNat * 2 ^ 18 + m.access.toNat * 2 ^ 21 + m.master.toNat * 2 ^ 24
    + m.address.toNat * 2 ^ 32 + b2n m.inj * 2 ^ 72 + time % 2 ^ 48 * 2 ^ 80

/-- Lexicographic order of two lists of numbers. -/
def lexBefore : List Nat → List Nat → Bool
  | x :: xs, y :: ys => x < y || (x == y && lexBefore xs ys)
  | _, _ => false

/-- `a` comes before `b` in the order of R446: real faults first, higher severity, lower unit ID, lower KIND. -/
def faultBefore (a b : FaultMsg) : Bool :=
  let key (m : FaultMsg) : List Nat := [b2n m.inj, 7 - m.sev.toNat, m.source.toNat, m.kind.toNat]
  lexBefore (key a) (key b)

/-- A message put in its place in the order of R446. -/
def insertFault (m : FaultMsg) : List FaultMsg → List FaultMsg
  | [] => [m]
  | x :: xs => if faultBefore m x then m :: x :: xs else x :: insertFault m xs

/-- Messages of one cycle in the order of R446. -/
def sortFaults (ms : List FaultMsg) : List FaultMsg := ms.foldl (fun l m => insertFault m l) []

/-- The collector changed. -/
def State.modFaults (s : State) (f : Collector → Collector) : State := { s with faults := f s.faults }

/-! ## Records (R445–R447) -/

/-- Words 0–7 of a record: message, 64-bit time, count. -/
def State.setRecord (s : State) (f : Field) (m : FaultMsg) : State :=
  let w := faultWord m s.tt + s.tt % 2 ^ 64 * 2 ^ 128
  (List.range 8).foldl (fun s k => s.wr f (bits w (32 * k) 32) 0 k) s

/-- A record cleared. -/
def State.clearRecord (s : State) (f : Field) : State := (List.range 8).foldl (fun s k => s.wr f 0 0 k) s

/-- The first-error record holds an injected fault. -/
def State.firstInjected (s : State) : Bool := bit (s.rd FC_FE.DATA 0 2) 8

/-- A message is entered into the records. `now` tells whether this cycle has set the first-error record. -/
def State.enterRecord (s : State) (m : FaultMsg) (now : Bool) : State × Bool :=
  if ¬ s.on FC_STAT.FEVALID then ((s.setRecord FC_FE.DATA m).wr FC_STAT.FEVALID 1, true)
  else if s.firstInjected ∧ ¬ m.inj ∧ ¬ now then
    (((s.setRecord FC_FE.DATA m).clearRecord FC_CO.DATA).wr FC_STAT.COVALID 0, true)
  else
    let s := s.wr FC_FE.DATA (satAdd 32 (s.rd FC_FE.DATA 0 6) 1) 0 6
    if now ∧ ¬ s.on FC_STAT.COVALID then ((s.setRecord FC_CO.DATA m).wr FC_STAT.COVALID 1, now)
    else if now then (s.inc FC_COINCN.COUNT, now)
    else (s, now)

/-- The FAULT event of a message (R71, R448): repeated INFO and CORRECTED messages of a source and kind at most once a
second. -/
def State.faultEvent (s : State) (m : FaultMsg) : State :=
  let key := m.source.toNat * 256 + m.kind.toNat
  let low : Bool := decide (m.sev.toNat ≤ 1)
  let recent : Bool := match Tab.find s.faults.repeats key with
    | some t => decide (s.age < t + 3200000000)
    | none => false
  if low ∧ recent then s.inc FC_SUPPR.COUNT
  else
    let s := s.modFaults (fun c => { c with repeats := Tab.insert c.repeats key s.age })
    if s.suppressed 4 ∧ m.sev.toNat < 3 then s
    else s.putEvent 4 m.source.toNat s.tt (toLe 16 (faultWord m s.tt))

/-! ## Fences (R442–R444, R450, R453) -/

/-- A message the collector itself writes. -/
def collectorMsg (u kind sev : Nat) : FaultMsg :=
  { source := BitVec.ofNat 10 u, kind := BitVec.ofNat 8 kind, sev := BitVec.ofNat 3 sev }

/-- The replacement of a channel ends: the Mirror is released (R449). -/
def State.endReplacement (s : State) (n : Nat) : State :=
  if s.rd CH_CALSTAT.STANDIN n = 2 then
    ((s.detachMirror (groupOf n)).wr CH_CALSTAT.STANDIN 0 n).wr FC_UNIT.REPL 0 0 n
  else s

/-- The group's Mirror replaces a fenced channel, if it does not replace one already; a channel it stands in for takes back
the pad (R443). -/
def State.replaceChannel (s : State) (n : Nat) : State :=
  let g := groupOf n
  if s.rd CH_MSTAT.MODE g = 3 ∨ s.fenced (512 + g) then s
  else
    let s := if (s.calg g).stage ≠ 0 ∧ (s.calg g).mirror then s.abandonCal g false else s
    let s := if s.rd CH_MSTAT.MODE g = 2 then (s.wr CH_CALSTAT.STANDIN 0 (s.rd CH_MSTAT.CHAN g)).detachMirror g else s
    let s := (s.copyEngine n (512 + g)).joinStream n (512 + g)
    let s := s.wrs g [(CH_MSTAT.MODE, 3), (CH_MSTAT.CHAN, n)]
    (s.wr CH_CALSTAT.STANDIN 2 n).wr FC_UNIT.REPL 1 0 n

/-- The group's calibration is given up. A channel that the Mirror stands in for while its site runs takes back the pad as at
a hand-back, with its CUR values unchanged, and stays due; the Mirror then replaces the channel `next` (R320, R443; for a
fenced REF DEDUCED, log entry 91). -/
def State.releaseCal (s : State) (g : Nat) (next : Option Nat) : State :=
  let n := s.rd CH_MSTAT.CHAN g
  if s.rd CH_MSTAT.MODE g = 2 ∧ s.running n then
    let q := g / 4
    let s := if (s.refQueue q).contains g then s.setRefQueue q ((s.refQueue q).filter (· != g)) else s
    ((s.wr CA_GRP.CHAN n 0 g).wr CA_GRP.PHASE 4 0 g).modCal g (fun c => { c with
      mirror := true, stage := max 5 c.stage, since := s.tt, release := true, replace := next })
  else
    let s := s.abandonCal g false
    match next with
    | some u => s.replaceChannel u
    | none => s

/-- A RUNNING site that uses a fenced unit halts with cause 4. -/
def State.haltUser (s : State) (n : Nat) : State :=
  match s.siteOf n with
  | some i => s.postHalt i 4
  | none => s

/-- An activation ends before its commit: its job is answered, and the session returns to COMPLETE (R478, R479). -/
def State.endActivation (s : State) (status : Nat) : State :=
  match s.sec.act with
  | some a => ({ s with sec := { s.sec with act := none } }.wr SC_STAT.SESSION 2).completeJob a.job status [] []
  | none => s

/-- The standby becomes active, if it is there (R61, R453). Commands in flight are served again. An activation in progress
is abandoned (R479). -/
def State.failover (s : State) (core : Nat) : State :=
  if s.rd HW_STATUS.ACTIVE = core ∧ ¬ s.fenced (692 + (1 - core)) then
    let s := s.endActivation aborted
    { (s.wr HW_STATUS.ACTIVE (1 - core)) with mbx := { s.mbx with
      visit := 0, replay := s.mbx.replay ++ s.mbx.imm.map (·.seqNo) } }
  else s

/-- The effect of a new fence by class of unit (Table 18-5). -/
def State.fenceEffect (s : State) (u : Nat) : State × List FaultMsg :=
  if u < 512 then
    let s := if s.running u then s.haltUser u else s.forceEn u
    let g := groupOf u
    let s := if (s.calg g).stage ≠ 0 ∧ s.rd CA_GRP.CHAN 0 g = u then s.abandonCal g false else s
    let s := if s.loupe.held.contains u ∧ s.loupeActive then
        (s.modLoupe (fun l => { l with gaps := l.gaps ++ [⟨u, false, s.tt * frac, none, 0⟩] })).flushGaps else s
    (if s.rd CH_MSTAT.MODE g = 2 ∧ ¬ s.fenced (512 + g) then s.releaseCal g (some u) else s.replaceChannel u, [])
  else if u < 528 then
    let g := u - 512
    let n := s.rd CH_MSTAT.CHAN g
    let mode := s.rd CH_MSTAT.MODE g
    let s := if 2 ≤ mode then s.haltUser n else s
    let s := if mode = 3 then s.endReplacement n else s
    (if (s.calg g).stage ≠ 0 ∧ (s.calg g).mirror then s.abandonCal g false else s, [])
  else if u < 532 then
    (forAll ((List.range 4).map (fun i => 4 * (u - 528) + i)) (fun g s => s.releaseCal g none) s, [])
  else if u < 596 then (s.postHalt (u - 532) 4, [])
  else if u < 660 then
    let (s, lost) := s.fencePc (u - 596)
    (s, lost.map (fun i => collectorMsg (532 + i) 0x60 0))
  else if u < 676 then (s.wr HL_FENCE.FENCED (setBits (s.rd HL_FENCE.FENCED) (u - 660) 1 1), [])
  else if u < 692 then
    let l := u - 676
    let s := if l < 8 then (s.wr SY_LINK.EFENCE (setBits (s.rd SY_LINK.EFENCE) l 1 1)).wrs 0 [(SY_LINK.EUP, 0), (SY_LINK.EWRAP, 1)]
      else (s.wr SY_LINK.WFENCE (setBits (s.rd SY_LINK.WFENCE) (l - 8) 1 1)).wrs 0 [(SY_LINK.WUP, 0), (SY_LINK.WWRAP, 1)]
    let s := if 1 < s.rd SY_CFG.N then s.wr SY_STAT.WRAP 1 else s
    let cut := (List.range 64).filter (fun i => s.site i == stRunning && decide (1 < s.rd SQ_STATE.CHIPS i) && s.memberLinkDown i)
    (forAll cut (fun i s => s.postHalt i 4) s, if cut = [] then [] else [collectorMsg 715 0x41 3])
  else if u < 694 then
    let s := s.failover (u - 692)
    if s.fenced 692 ∧ s.fenced 693 then (s.wr HW_STATUS.MBRDY 0, [collectorMsg u 0x82 4]) else (s, [])
  else if 695 ≤ u ∧ u < 703 then (s.abortJobs (fun j => j.worker == some (u - 695)), [])
  else if u = 713 ∨ u = 714 then (forAll (List.range 64) (fun i s => if s.on SQ_STATE.QSPAN i then s.postHalt i 4 else s) s, [])
  else (s, [])

/-- A unit is fenced; a unit fenced already changes nothing (R442, R450). -/
def State.fence (s : State) (u : Nat) : State × List FaultMsg :=
  if 736 ≤ u ∨ s.fenced u then (s, [])
  else
    let perm := s.rd FC_UNIT.RECOV 0 u == s.rd FC_LIMIT.LIMIT || decide (s.rd FC_LIMIT.LIMIT < s.rd FC_UNIT.RECOV 0 u)
    let s := (s.wr FC_UNIT.FENCED 1 0 u).wr FC_UNIT.PERM (b2n perm) 0 u
    let (s, ms) := s.fenceEffect u
    (s, if perm then collectorMsg u 0xF2 2 :: ms else ms)

/-! ## Reactions (R440, R441) -/

/-- The DEVICE_CRITICAL reaction (R441). -/
def State.critical (s : State) : State :=
  ((s.haltAll 4).forceAllEn).modFaults (fun c => { c with critical := true })

/-- The reaction of a message's kind (Table 18-4); messages it brings follow. -/
def State.react (s : State) (m : FaultMsg) : State × List FaultMsg :=
  let u := m.source.toNat
  let k := m.kind.toNat
  let (s, ms) : State × List FaultMsg :=
    if m.logOnly then (s, [])
    else if k = 0x10 ∧ 532 ≤ u ∧ u < 596 then
      let s := s.machineCheck (u - 532) (csRegion m.address.toNat)
      if m.address.toNat < 0x800 then (s.modFaults (fun c => { c with romFault := u :: c.romFault })).fence u else (s, [])
    else if k = 0x21 ∧ m.sev = 3 ∧ 0x40 ≤ m.master.toNat ∧ m.master.toNat < 0x80 then (s.postHalt (m.master.toNat - 0x40) 4, [])
    else if k = 0x23 ∨ k = 0x30 ∨ k = 0x70 ∨ k = 0x71 ∨ k = 0x80 ∨ k = 0x81 then s.fence u
    else (s, [])
  if m.sev.toNat = 4 ∧ ¬ m.logOnly then (s.critical, ms) else (s, ms)

/-- Reported memory errors are counted by pseudo-channel, and of the scratchpad and capture SRAM by bank (R423, R426, R433,
R435). -/
def State.countEcc (s : State) (m : FaultMsg) : State :=
  let a := m.address.toNat
  let k := m.kind.toNat
  let u := m.source.toNat
  if m.logOnly then s
  else if 596 ≤ u ∧ u < 660 ∧ (k = 0x20 ∨ k = 0x21) then s.noteEcc (u - 596) (k == 0x21)
  else if m.source = 703 ∧ k = 0x20 then s.inc MC_SPREP.CORR 0 (bits a 3 4)
  else if m.source = 703 ∧ k = 0x21 then s.inc MC_SPREP.UNCORR 0 (bits a 3 4)
  else if m.source = 704 ∧ k = 0x20 then s.inc MC_CSREP.CORR 0 (bits a 3 6)
  else if m.source = 704 ∧ k = 0x21 then s.inc MC_CSREP.UNCORR 0 (bits a 3 6)
  else s

/-- The unit that stands for a master of Table 1-7 in a fault message (DESIGN CHOICE, log entry 28). -/
def masterUnit (m : Nat) : Nat :=
  if m = 1 ∨ m = 2 then 691 + m else if m = 3 then 694 else if 0x10 ≤ m ∧ m < 0x18 then 695 + (m - 0x10)
  else if m = 0x30 then 715 else if 0x40 ≤ m ∧ m < 0x80 then 532 + (m - 0x40) else if m = 0x80 then 710
  else if m = 0x81 then 732 else if m = 0x82 then 712 else 709

/-- One message is taken: highest severity, quiet time of a fenced unit, records, event, reaction. -/
def State.takeFault (acc : State × Bool × List FaultMsg) (m : FaultMsg) : State × Bool × List FaultMsg :=
  let (s, now, more) := acc
  let u := m.source.toNat
  let s := s.wr FC_STAT.MAXSEV (max (s.rd FC_STAT.MAXSEV) m.sev.toNat)
  let (s, now) := (s.countEcc m).enterRecord m now
  let s := if m.kind.toNat ≠ 0xF0 then
      s.modFaults (fun c => { c with quiet := Tab.insert c.quiet u (s.age + s.rd FC_POLICY.QUIET * 3200000) }) else s
  let s := s.faultEvent m
  let (s, ms) := s.react m
  (s, now, more ++ ms)

/-- Low-severity messages beyond the queue's 256 places are discarded and counted (R448). -/
def State.queueFaults (s : State) (ms : List FaultMsg) : State × List FaultMsg :=
  let high := ms.filter (fun m => 2 ≤ m.sev.toNat)
  let low := ms.filter (fun m => m.sev.toNat < 2)
  let room := 256 - high.length
  (s.inc FC_DROP.COUNT 0 0 (low.length - room), ms.filter (fun m => 2 ≤ m.sev.toNat || (low.take room).contains m))

/-- The collector takes the messages of one CK_INT cycle, then those that its reactions brought. -/
def State.takeRounds : (fuel : Nat) → State → List FaultMsg → State
  | 0, s, _ => s
  | fuel + 1, s, ms =>
    if ms.isEmpty then s
    else
      let (s, ms) := s.queueFaults (sortFaults ms)
      let (s, _, more) := ms.foldl State.takeFault (s, false, [])
      s.takeRounds fuel more

/-- Messages reported in one cycle (R437, R445–R448). -/
def State.takeFaults (s : State) (ms : List FaultMsg) : State := s.takeRounds 4 ms

/-- One INFO message with a control-side address (R28, R32, R50). -/
def infoMsg (u kind access master addr : Nat) : FaultMsg :=
  { source := BitVec.ofNat 10 u, kind := BitVec.ofNat 8 kind, sev := 0, access := BitVec.ofNat 3 access,
    master := BitVec.ofNat 8 master, address := BitVec.ofNat 40 addr }

/-! ## Recovery (R449, R450, R452) -/

/-- The unit returns to service (R449). -/
def State.unfence (s : State) (u : Nat) : State :=
  let n := satAdd 8 (s.rd FC_UNIT.RECOV 0 u) 1
  let s := ((s.wr FC_UNIT.FENCED 0 0 u).wr FC_UNIT.CHECK 0 0 u).wr FC_UNIT.RECOV n 0 u
  let s := s.modFaults (fun c => { c with unfenced := Tab.insert c.unfenced u (Tab.get [] c.unfenced u ++ [s.age]) })
  let s := if u < 512 then
      let s := { s with cal := { s.cal with resealed := u :: s.cal.resealed.filter (· != u) } }
      let s := State.refreshDue u s
      if s.running u then s else s.endReplacement u
    else if 660 ≤ u ∧ u < 676 then s.wr HL_FENCE.FENCED (setBits (s.rd HL_FENCE.FENCED) (u - 660) 1 0)
    else if 676 ≤ u ∧ u < 684 then s.wr SY_LINK.EFENCE (setBits (s.rd SY_LINK.EFENCE) (u - 676) 1 0)
    else if 684 ≤ u ∧ u < 692 then s.wr SY_LINK.WFENCE (setBits (s.rd SY_LINK.WFENCE) (u - 684) 1 0)
    else s
  s.takeFaults [collectorMsg u 0xF0 0]

/-- A self-check ends (R449). -/
def State.selfCheckDone (s : State) (u : Nat) (pass : Bool) : State :=
  if ¬ s.on FC_UNIT.CHECK 0 u ∨ ¬ s.fenced u then s
  else if pass then s.unfence u
  else (s.wr FC_UNIT.CHECK 0 0 u).takeFaults [collectorMsg u 0xF1 2]

/-! ## After a run (R449, R429) -/

/-- A site has left RUNNING and HALTING: replacements of channels that are in service again end, and a site whose region
was lost becomes INVALID. -/
def State.runLeft (s : State) (i : Nat) : State :=
  if s.busySite i then s
  else
    let back := (s.channels i).filter (fun n => s.rd CH_CALSTAT.STANDIN n == 2 && !s.fenced n)
    let s := back.foldl (fun s n => s.endReplacement n) s
    if (s.seq i).lost ∧ (s.site i = stDone ∨ s.site i = stHalted) then
      let s := (s.invalidate i).modSeq i (fun q => { q with lost := false })
      s.takeFaults [collectorMsg (532 + i) 0x60 0]
    else s

/-- The report of Table 18-8. -/
def State.faultReport (s : State) : Bytes :=
  let us := (List.range 736).filter s.fenced
  let rec_ (f : Field) (count : Bool) : Bytes :=
    (List.range 8).flatMap (fun k => toLe 4 (if k = 6 ∧ ¬ count then 0 else s.rd f 0 k))
  toLe 1 1 ++ toLe 1 (s.rd FC_STAT.FEVALID + 2 * s.rd FC_STAT.COVALID) ++ toLe 2 us.length ++ toLe 4 (s.rd FC_COINCN.COUNT)
    ++ zeros 8 ++ rec_ FC_FE.DATA true ++ rec_ FC_CO.DATA false
    ++ us.flatMap (fun u =>
      let left := (Tab.get 0 s.faults.quiet u - s.age) / 3200000
      toLe 2 u ++ toLe 1 (s.rd FC_UNIT.PERM 0 u + 2 * s.rd FC_UNIT.REPL 0 u + 4 * s.rd FC_UNIT.CHECK 0 u)
        ++ toLe 1 (s.rd FC_UNIT.RECOV 0 u) ++ toLe 4 left)

/-- FAULT_READ: R455. -/
def faultRead (c : Consumed) (_id : Nat) (_p : Bytes) (s : State) : Act :=
  let r := s.faultReport
  if c.d.length.toNat < r.length then refuse outOfRange s else .done ok (toLe 4 r.length) r s

/-- FAULT_CLEAR: R445. -/
def faultClear (c : Consumed) (s : State) : Act :=
  let b := par c.d 24 1
  if 3 < b then refuse badParam s
  else
    let s := if bit b 0 then (s.clearRecord FC_FE.DATA).wrs 0 [(FC_STAT.FEVALID, 0), (FC_STAT.MAXSEV, 0)] else s
    success [] (if bit b 1 then (s.clearRecord FC_CO.DATA).wrs 0 [(FC_STAT.COVALID, 0), (FC_COINCN.COUNT, 0)] else s)

/-- FAULT_UNFENCE: R452. -/
def faultUnfence (c : Consumed) (s : State) : Act :=
  let u := par c.d 24 2
  if 736 ≤ u then refuse badParam s
  else if ¬ s.fenced u ∨ s.faults.romFault.contains u then refuse refusedState s
  else
    let s := ((s.wr FC_UNIT.PERM 0 0 u).wr FC_UNIT.RECOV 0 0 u).wr FC_UNIT.CHECK 1 0 u
    success [] (s.modFaults (fun f => { f with unfenced := Tab.erase f.unfenced u }))

/-- FAULT_POLICY: R451. -/
def faultPolicy (c : Consumed) (s : State) : Act :=
  let q := par c.d 24 4
  let l := par c.d 28 1
  if q < 10 ∨ 600000 < q ∨ l = 0 then refuse badParam s
  else success [] (s.wrs 0 [(FC_POLICY.QUIET, q), (FC_LIMIT.LIMIT, l)])

/-! ## Commands -/

/-- FAULT_READ: R455. -/
def execFaultRead (d : Desc) (s : State) : Host.Outcome State Fault Refusal := .next (s.serveJob 0x0600 d [] faultRead)

/-- FAULT_CLEAR: R445. -/
def execFaultClear (d : Desc) (s : State) : Host.Outcome State Fault Refusal := .next (s.serve 0x0601 d faultClear)

/-- FAULT_UNFENCE: R452. -/
def execFaultUnfence (d : Desc) (s : State) : Host.Outcome State Fault Refusal := .next (s.serve 0x0602 d faultUnfence)

/-- FAULT_POLICY: R451. -/
def execFaultPolicy (d : Desc) (s : State) : Host.Outcome State Fault Refusal := .next (s.serve 0x0603 d faultPolicy)

/-- FAULT_MESSAGE: R437, R440, R446. -/
def execFaultMessage (ms : List FaultMsg) (s : State) : Host.Outcome State Fault Refusal := .next (s.takeFaults ms)

/-- FAULT_INJECT: in factory test boot the message in FC_INJ is taken from its SOURCE with INJ = 1 (R456). -/
def execFaultInject (logOnly : Bool) (s : State) : Host.Outcome State Fault Refusal :=
  if s.rd SC_STAT.BOOT ≠ 2 then .next s
  else
    let w (k : Nat) : Nat := s.rd FC_INJ.WORD 0 k
    let v := w 0 + w 1 * 2 ^ 32 + w 2 * 2 ^ 64
    let m : FaultMsg := ⟨BitVec.ofNat 10 v, BitVec.ofNat 8 (bits v 10 8), BitVec.ofNat 3 (bits v 18 3),
      BitVec.ofNat 3 (bits v 21 3), BitVec.ofNat 8 (bits v 24 8), BitVec.ofNat 40 (bits v 32 40), true, logOnly⟩
    .next ((s.flag FC_INJCTL.LOGONLY logOnly).takeFaults [m])

/-- QUIET_EXPIRY: the self-check of a quiet unit starts (R449). -/
def execQuietExpiry (unit : Fin 736) (s : State) : Host.Outcome State Fault Refusal :=
  let u := unit.val
  if s.fenced u ∧ ¬ s.on FC_UNIT.PERM 0 u ∧ ¬ s.on FC_UNIT.CHECK 0 u ∧ ¬ s.faults.romFault.contains u then
    .next ((s.reachAge (Tab.get 0 s.faults.quiet u)).wr FC_UNIT.CHECK 1 0 u)
  else .next s

/-- SELFCHECK_DONE: R449. -/
def execSelfcheckDone (unit : Fin 736) (pass : Bool) (s : State) : Host.Outcome State Fault Refusal :=
  .next (s.selfCheckDone unit pass)

/-- CORE_FAIL: a control core has failed and is fenced (R453). -/
def execCoreFail (core : Fin 2) (s : State) : Host.Outcome State Fault Refusal :=
  .next (s.takeFaults [collectorMsg (692 + core.val) 0x80 2])

/-- RECOVERY_COUNT_AGE_OUT: R450. -/
def execRecoveryCountAgeOut (unit : Fin 736) (s : State) : Host.Outcome State Fault Refusal :=
  match Tab.find s.faults.unfenced unit with
  | some (t :: ts) =>
    let s := (s.reachAge (t + 11520000000000)).wr FC_UNIT.RECOV (s.rd FC_UNIT.RECOV 0 unit - 1) 0 unit
    .next (s.modFaults (fun c => { c with unfenced := Tab.insert c.unfenced unit ts }))
  | _ => .next s

/-- DELAY_SWEEP: R426, R427. -/
def execDelaySweep (pc : Fin 64) (works : BitVec 17) (s : State) : Host.Outcome State Fault Refusal :=
  let (s, ms) := s.sweep pc works.toNat
  .next (s.takeFaults ms)

/-- MEM_SCRUB: the scrubber reads one word; `err` is 0 for none, 1 corrected, 2 uncorrectable (R423, R424). -/
def execMemScrub (addr : BitVec 36) (err : Fin 3) (s : State) : Host.Outcome State Fault Refusal :=
  let a := addr.toNat
  let k := s.pcOf a
  let (s, ms) : State × List FaultMsg :=
    if err = 1 then s.corrected k a
    else if err = 2 then
      (s.wrs 0 [(MC_SCRUB.UEVALID, 1), (MC_SCRUBADDR.ADDR, a / 16)], [pcFault k 0x21 2 6 a])
    else (s, [])
  let s := if 0xBFFFFFFF8 ≤ a then
      { (s.wr MC_SCRUB.PASSTIME (min 65535 ((s.age - s.mem.scrubStart) / 3200000000))) with
        mem := { s.mem with scrubStart := s.age } }
    else s
  .next (s.takeFaults ms)

end Sys2Proof.Machine
end

