-- ==== Sys2Proof/Machine/Pattern.lean ====
section
/-!
DEFINITION. The meanings of the pattern instructions (04): one routine per opcode of Table 4-3, and the arms that
dispatch them.
-/
namespace Sys2Proof.Machine

/-- FV and CAPC of a PI that issues no vector wait for the next vector issued (R102, R104). -/
def State.defer (s : State) (site w facet : Nat) : State :=
  s.modSeq site (fun q => { q with
    facet := facet, next := { q.next with capc := if piCapc w = 0 then q.next.capc else piCapc w } })

/-- The current Facet that the PI gives, or device halt code 0xFF0D if FV names an undefined one (R102, R215). -/
def State.withFacet (s : State) (site w : Nat) (k : Nat → State) : State :=
  match (s.seq site).facetOf w with
  | some f => k f
  | none => s.devHalt site 0xFF0D

/-- VEC n (R108). -/
def vecRoutine (s : State) (site w : Nat) : State :=
  let n := piOpd w
  s.withFacet site w fun f => s.withRoom site w n fun s =>
    let va := (s.seq site).ureg 14
    if n = 0 then s.defer site w f
    else
      let s := s.modSeq site (fun q => { q.advanceVa va n f with facet := f })
      s.issueVectors site (if (s.seq site).section_ then .ring else .stored) va n f (piCms w) (piCapc w)

/-- VEC.A (R109). -/
def vecARoutine (s : State) (site w : Nat) : State :=
  s.withFacet site w fun f => s.withRoom site w 1 fun s =>
    let s := s.modSeq site (fun q => { q.advanceVa (piOpd w) 1 f with facet := f })
    s.issueVectors site .stored (piOpd w) 1 f (piCms w) (piCapc w)

/-- RPT n (R110). -/
def rptRoutine (s : State) (site w : Nat) : State :=
  let n := piOpd w
  s.withFacet site w fun f => s.withRoom site w n fun s =>
    match (s.seq site).lastVa with
    | none => s.devHalt site 0xFF03
    | some va =>
      if n = 0 then s.defer site w f
      else (s.modSeq site (fun q => { q with facet := f })).issueVectors site .held va n f (piCms w) (piCapc w)

/-- LOOP c (R114); a buffered loop that is not nested in a recording starts one (R116, R185). -/
def loopRoutine (s : State) (site w : Nat) : State :=
  s.withFacet site w fun f =>
    let q := s.seq site
    let k := q.loops.length
    let c := bits (piOpd w) 0 32
    let ia := q.ureg 13
    let buf := !s.opensUnbuffered site ia w
    if c = 0 then s.devHalt site 0xFF05
    else if 4 ≤ k then s.devHalt site 0xFF06
    else
      let starter := buf && q.recBase.isNone
      let fr : LoopFrame := ⟨ia, q.ureg 14, buf, starter, q.issued - q.recBase.getD q.issued⟩
      let s := s.defer site w f
      let s := if starter then s.push site .recStart else s
      let s := s.wr SQ_LC.COUNT (c - 1) site k
      s.modSeq site (fun q => { q with
        loops := fr :: q.loops, recBase := if starter then some q.issued else q.recBase })

/-- The innermost loop closes. -/
def State.popLoop (s : State) (site : Nat) : State :=
  let k := (s.seq site).loops.length - 1
  (s.wr SQ_LC.COUNT 0 site k).modSeq site (fun q => { q with loops := q.loops.tail })

/-- ENDL (R115, R116, R119): a buffered loop replays its remaining iterations from the loop buffer and closes; any other
loop goes back to the recorded IA and VA. The replay repeats the vectors as recorded: a CAP event or mark, or a CAPC, that
still waits (ENDL's own too) goes to the next vector that a PI issues (DESIGN CHOICE, log entry 78). -/
def endlRoutine (s : State) (site w : Nat) : State :=
  s.withFacet site w fun f =>
    let q := s.seq site
    match q.loops with
    | [] => s.devHalt site 0xFF07
    | fr :: rest =>
      let k := rest.length
      let left := s.rd SQ_LC.COUNT site k
      if (q.calls.head?.map (fun c => decide (rest.length < c.depth))).getD false then s.devHalt site 0xFF0A
      else if fr.buffered then
        let len := q.issued - q.recBase.getD 0 - fr.recFrom
        let n := if left = 0 ∨ len = 0 then 0 else len * left
        s.withRoom site w n fun s =>
          let s := s.defer site w f
          let s := if fr.starter then s.push site .recEnd else s
          let s := if n = 0 then s
            else (s.push site (.replay fr.recFrom (fr.recFrom + len) left 0 none)).countBundle site 0
          let s := s.modSeq site (fun q => { q with
            issued := q.issued + n, recBase := if fr.starter then none else q.recBase })
          s.popLoop site
      else if q.section_ then s.devHalt site 0xFF0C
      else if left = 0 then (s.defer site w f).popLoop site
      else ((s.defer site w f).wr SQ_LC.COUNT (left - 1) site k).modSeq site
        (fun q => (q.setU 14 fr.va).setU 13 fr.ia)

/-- JMP (R117). -/
def jmpRoutine (s : State) (site w : Nat) : State :=
  s.withFacet site w fun f => (s.defer site w f).modSeq site (fun q => q.setU 13 (bits (piOpd w) 0 32))

/-- CALL (R118). -/
def callRoutine (s : State) (site w : Nat) : State :=
  s.withFacet site w fun f =>
    let q := s.seq site
    if 16 ≤ q.calls.length then s.devHalt site 0xFF08
    else (s.defer site w f).modSeq site (fun q =>
      { q.setU 13 (bits (piOpd w) 0 32) with calls := ⟨q.ureg 13, q.ureg 14, q.loops.length⟩ :: q.calls })

/-- RET (R119). -/
def retRoutine (s : State) (site w : Nat) : State :=
  s.withFacet site w fun f =>
    let q := s.seq site
    match q.calls with
    | [] => s.devHalt site 0xFF09
    | c :: rest =>
      if c.depth ≠ q.loops.length then s.devHalt site 0xFF0A
      else (s.defer site w f).modSeq site (fun q => { (q.setU 13 c.ia).setU 14 c.va with calls := rest })

/-- The value of an internal condition at dispatch (R121, R129). -/
def State.internalCond (s : State) (site : Nat) (c : Cond) : Bool :=
  let v := if c.cls = 0xA then bit (s.rd SQ_FLAGS.F site) c.idx
    else decide ((s.seq site).loops.length ≤ c.idx) || s.rd SQ_LC.COUNT site c.idx == 0
  v != c.neg

/-- BRC (R122–R129): on an internal condition it is decided at dispatch; on a reduction condition the target head is
pre-executed and the branch stays pending until its branch point. -/
def brcRoutine (s : State) (site w : Nat) : State :=
  s.withFacet site w fun f =>
    let q := s.seq site
    let c := piCondition w
    let target := bits (piOpd w) 0 32
    if ¬ condOk 0x14 c.cls c.idx then s.devHalt site 0xFF0D
    else if 0xA ≤ c.cls then
      let s := s.defer site w f
      if s.internalCond site c then s.modSeq site (fun q => q.setU 13 target) else s
    else if q.issued = 0 then s.devHalt site 0xFF03
    else if q.pat.npi ≤ target then s.devHalt site 0xFF0B
    else if piOp (s.piAt site target) ≠ 0x02 then s.devHalt site 0xFF04
    else
      let h := s.runHead site 4 { ia := target, va := q.ureg 14 }
      let b : PendingBrc := ⟨q.issued - 1, c, q.loops.length, q.calls.length, h.items, h.ia, h.va, h.facet, h.n,
        h.ia - target, h.next⟩
      let s := s.defer site w f
      (s.modSeq site (fun q => { q with brc := some b, headCount := 0, headHeld := {}, heldRuns := [] })).wr SQ_NEST.PENDBR 1 site

/-- MATCH (R130): the body's recording begins with its first vector. -/
def matchRoutine (s : State) (site w : Nat) : State :=
  s.withFacet site w fun f =>
    let c := piCondition w
    if ¬ condOk 0x18 c.cls c.idx then s.devHalt site 0xFF0D
    else if bits (piOpd w) 0 24 = 0 then s.devHalt site 0xFF05
    else
      let s := (s.defer site w f).push site .recStart
      (s.modSeq site (fun q => { q with
        body := some ⟨c, bits (piOpd w) 24 12 + 1, bits (piOpd w) 0 24, q.issued, none⟩,
        recBase := some q.issued })).wr SQ_NEST.PENDBR 1 site

/-- WAITX (R133). -/
def waitxRoutine (s : State) (site w : Nat) : State :=
  let c := piCondition w
  let b := bits (piOpd w) 0 36
  s.withFacet site w fun f => s.withRoom site w b fun s =>
    let q := s.seq site
    match q.lastVa with
    | none => s.devHalt site 0xFF03
    | some va =>
      if ¬ condOk 0x19 c.cls c.idx then s.devHalt site 0xFF0D
      else if b ≠ 0 ∧ q.pat.covered q.section_ va 1 = 0 then s.devHalt site 0xFF10
      else
        let v := q.headVec va f (piCms w) (piCapc w)
        let s := if b = 0 then s.defer site w f else s.modSeq site (fun q => { q with facet := f, next := {} })
        let s := s.push site (.waitx c q.issued b none v none)
        let s := if b = 0 then s else s.countBundle site 0
        (s.modSeq site (fun q => { q with gate := true, headCount := 0 })).wr SQ_NEST.PENDBR 1 site

/-- SYNC (R134, R136): the arrival waits in the queue behind the vectors issued before it. A timeout of 0 means 2^20
cycles. -/
def syncRoutine (s : State) (site w : Nat) : State :=
  s.withFacet site w fun f =>
    let t := bits (piOpd w) 0 20
    let s := (s.defer site w f).push site (.sync (bit (piOpd w) 39) (piCond w) (if t = 0 then 2 ^ 20 else t) none)
    s.modSeq site (fun q => { q with gate := true, headCount := 0 })

/-- TSW: the current Facet changes without a vector. -/
def tswRoutine (s : State) (site w : Nat) : State :=
  s.withFacet site w fun f => s.defer site w f

/-- CAP (R112). Of two CAPs before one vector the later one's event and mark hold (DESIGN CHOICE, log entry 79). -/
def capRoutine (s : State) (site w : Nat) : State :=
  s.withFacet site w fun f => (s.defer site w f).modSeq site (fun q => { q with
    next := { q.next with event := some (piCond w), mark := some (bits (piOpd w) 0 16) } })

/-- A flag of the sequencer set (R113). -/
def State.setFlag (s : State) (site i : Nat) (v : Bool) : State :=
  s.wr SQ_FLAGS.F (setBits (s.rd SQ_FLAGS.F site) i 1 (b2n v)) site

/-- FLAG (R113). -/
def flagRoutine (s : State) (site w : Nat) : State :=
  s.withFacet site w fun f =>
    let s := s.defer site w f
    let s := if bit (piOpd w) 1 then s.setFlag site (bits (piCond w) 0 3) (bit (piCond w) 3) else s
    if bit (piOpd w) 0 then s.modSeq site (fun q => { q with next := { q.next with failMark := true } }) else s

/-- STRM (R137). -/
def strmRoutine (s : State) (site w : Nat) : State :=
  s.withFacet site w fun f =>
    let q := s.seq site
    let enter := bit (piCond w) 0
    if enter then
      if q.section_ ∨ ¬ s.on SQ_SRSTAT.OPEN site then s.devHalt site 0xFF0C
      else ((s.defer site w f).push site (.sectionStart (bit (piCond w) 1))).modSeq site
        (fun q => { q with section_ := true })
    else if ¬ q.section_ then s.devHalt site 0xFF0C
    else ((s.defer site w f).push site .sectionEnd).modSeq site (fun q => { q with section_ := false })

/-- HALT (R139): the code waits in the queue behind the vectors issued before it (R95). -/
def haltRoutine (s : State) (site w : Nat) : State :=
  s.withFacet site w fun f =>
    ((s.defer site w f).push site (.halt (bits (piOpd w) 0 16) none)).modSeq site (fun q => { q with ended := true })

/-- An undefined vendor opcode (R106, R161). -/
def undefRoutine (s : State) (site _w : Nat) : State := s.devHalt site 0xFF01

/-- A customer opcode starts its routine at the word its dispatch entry names; an entry without a routine, or with a
parity error, ends the site with 0xFF01 (R141, R161); an undefined Facet ends it with 0xFF0D (R215). The micro-stack is
empty and U8–U11 hold open values at the first word (R152, R171). -/
def xopRoutine (s : State) (site w : Nat) : State :=
  let e := piOp w - 0xC0
  if s.on SQ_DISP.VALID site e ∧ (s.seq site).badSlices (.entry (BitVec.ofNat 8 (piOp w))) = 0 then
    s.withFacet site w fun _ =>
    let (r, s) := s.draw
    let ua := s.rd SQ_DISP.UADDR site e
    let s := s.wrs site [(SQ_UPC.UPC, ua), (SQ_UPC.WAITING, 0), (SQ_UPC.STALL, 0)]
    s.modSeq site (fun q => { ((((q.setU 8 r).setU 9 (r / 2 ^ 48)).setU 10 (r / 2 ^ 96)).setU 11 (r / 2 ^ 144)) with
      inRoutine := true, xopIssued := false, mstack := [], waited := 0 })
  else s.devHalt site 0xFF01

/-- The routine of an opcode (Table 4-3). -/
def routineOf (op : Nat) : State → Nat → Nat → State :=
  if op = 0x01 then vecRoutine else if op = 0x02 then vecARoutine else if op = 0x03 then rptRoutine
  else if op = 0x08 then loopRoutine else if op = 0x09 then endlRoutine else if op = 0x10 then jmpRoutine
  else if op = 0x11 then callRoutine else if op = 0x12 then retRoutine else if op = 0x14 then brcRoutine
  else if op = 0x18 then matchRoutine else if op = 0x19 then waitxRoutine else if op = 0x20 then syncRoutine
  else if op = 0x21 then tswRoutine else if op = 0x22 then capRoutine else if op = 0x23 then flagRoutine
  else if op = 0x24 then strmRoutine else if op = 0x2F then haltRoutine
  else if 0xC0 ≤ op then xopRoutine else undefRoutine

end Sys2Proof.Machine
end

