-- ==== Sys2Proof/Machine/Micro.lean ====
section
/-!
DEFINITION. The control store and customer microcode: one microword per CK_SEQ cycle (05). The vendor routines that the
mask ROM holds are the routines of Pattern.lean. Control-store errors are answered as fault messages for the collector.
-/
namespace Sys2Proof.Machine

/-! ## The microword (Table 5-2) -/

def mwNsel (w : Nat) : Nat := bits w 0 3
def mwNaddr (w : Nat) : Nat := bits w 3 12
def mwCsel (w : Nat) : Nat := bits w 15 6
def mwCneg (w : Nat) : Bool := bit w 21
def mwWait (w : Nat) : Bool := bit w 22
def mwWbnd (w : Nat) : Nat := bits w 23 3
def mwTaddr (w : Nat) : Nat := bits w 26 12
def mwAlu (w : Nat) : Nat := bits w 38 4
def mwRa (w : Nat) : Nat := bits w 42 4
def mwRb (w : Nat) : Nat := bits w 46 4
def mwBimm (w : Nat) : Bool := bit w 50
def mwRd (w : Nat) : Nat := bits w 51 4
def mwRdwe (w : Nat) : Bool := bit w 55
def mwImm (w : Nat) : Nat := bits w 56 32
def mwIssue (w : Nat) : Nat := bits w 88 2
def mwKreg (w : Nat) : Nat := bits w 90 4
def mwVreg (w : Nat) : Nat := bits w 94 4
def mwVaadv (w : Nat) : Bool := bit w 98
def mwFsel (w : Nat) : Nat := bits w 99 2
def mwMsel (w : Nat) : Nat := bits w 101 2
def mwCapa (w : Nat) : Bool := bit w 103
def mwSfn (w : Nat) : Nat := bits w 104 6
def mwSfarg (w : Nat) : Nat := bits w 110 4
def mwVx (w : Nat) : Nat := bits w 114 6
def mwReserved (w : Nat) : Nat := bits w 120 16

/-- The slices whose parity fails: slice i is function bits [17i + 16:17i] with P[i] at bit 136 + i, odd (R149). -/
def parityFails (w : Nat) : Nat :=
  ofBitList 8 ((List.range 8).filter (fun i => (ones 17 (bits w (17 * i) 17) + bits w (136 + i) 1) % 2 == 0))

/-- The parity bits that make a 136-bit word right (R149). -/
def parityOf (w : Nat) : Nat :=
  ofBitList 8 ((List.range 8).filter (fun i => ones 17 (bits w (17 * i) 17) % 2 == 0))

/-- A word asks for a function that customer RAM may not use: a vendor-only or Reserved value (Tables 5-2 to 5-7). -/
def mwVendor (w : Nat) : Bool :=
  mwNsel w == 7 || mwAlu w > 8 || mwIssue w == 3 || mwFsel w == 3 || mwMsel w == 3 || mwSfn w > 5 ||
  (let c := mwCsel w
   !(c ≤ 3 || (8 ≤ c && c ≤ 0x15) || (0x18 ≤ c && c ≤ 0x2F)))

/-! ## Conditions and ALU (R153, R156) -/

/-- The condition C that CSEL selects (Table 5-6). -/
def State.microCond (s : State) (site : Nat) (ext : ExtLines) (w : Nat) : Bool :=
  let q := s.seq site
  let c := mwCsel w
  let v :=
    if c = 0 then true else if c = 1 then q.zf else if c = 2 then q.cf else if c = 3 then q.nf
    else if 0x08 ≤ c ∧ c ≤ 0x0F then bit (s.rd SQ_FLAGS.F site) (c - 0x08)
    else if 0x10 ≤ c ∧ c ≤ 0x13 then decide (q.loops.length ≤ c - 0x10) || s.rd SQ_LC.COUNT site (c - 0x10) == 0
    else if c = 0x14 then s.depthNow site == 0
    else if c = 0x15 then decide (s.depthNow site < 32)
    else if 0x18 ≤ c ∧ c ≤ 0x1B then ext.trig.getLsbD (c - 0x18)
    else if 0x1C ≤ c ∧ c ≤ 0x23 then ext.xtrig.getLsbD (c - 0x1C)
    else if 0x24 ≤ c ∧ c ≤ 0x2B then ext.supmon.getLsbD (c - 0x24)
    else bit (s.rfAt s.tt) (c - 0x2C)
  v != mwCneg w

/-- The ALU's result and carry (Table 5-4). -/
def alu (op a b : Nat) : Nat × Bool :=
  let m := 2 ^ 48
  if op = 1 then (a, false)
  else if op = 2 then ((a + b) % m, decide (m ≤ a + b))
  else if op = 3 then ((a + m - b) % m, decide (b ≤ a))
  else if op = 4 then (a &&& b, false)
  else if op = 5 then (a ||| b, false)
  else if op = 6 then (a ^^^ b, false)
  else if op = 7 then (a * 2 ^ (b % 64) % m, false)
  else if op = 8 then (a / 2 ^ (b % 64), false)
  else (a, false)

/-- The ALU step of a word: flags and RD (R153). -/
def Seq.aluStep (q : Seq) (w : Nat) : Seq :=
  if mwAlu w = 0 then q
  else
    let a := q.ureg (mwRa w)
    let b := if mwBimm w then mwImm w else q.ureg (mwRb w)
    let (r, c) := alu (mwAlu w) a b
    let q := { q with zf := r == 0, nf := bit r 47, cf := c }
    if mwRdwe w then q.setU (mwRd w) r else q

/-! ## Completing a word (R151, R154, R157, R158) -/

/-- The vector count a word issues: 0 unless it is an issuing word. -/
def Seq.issueCount (q : Seq) (w : Nat) : Nat :=
  if mwIssue w = 1 ∨ mwIssue w = 2 then bits (q.ureg (mwKreg w)) 0 40 else 0

/-- The bundle of an issuing word (R154). `q0` is the sequencer at the start of the word. -/
def State.microIssue (s : State) (site : Nat) (q0 : Seq) (w : Nat) : State :=
  if mwIssue w = 0 then s
  else
    let n := q0.issueCount w
    let f := if mwFsel w = 1 then q0.facetOf q0.pi
      else if mwFsel w = 2 then (if bit q0.facetsAtRun (bits (mwImm w) 0 5) then some (bits (mwImm w) 0 5) else none)
      else some q0.facet
    match f with
    | none => s.devHalt site 0xFF0D
    | some f =>
      let cms := if mwMsel w = 0 then piCms q0.pi else if mwMsel w = 1 then bits (mwImm w) 0 4 else 0
      let capc := if mwCapa w then piCapc q0.pi else 0
      let s := s.modSeq site (fun q => { q with facet := f, xopIssued := q.xopIssued || n != 0 })
      let vreg := q0.ureg (mwVreg w)
      let s := if mwIssue w = 1 ∧ mwVaadv w then s.modSeq site (fun q => q.setU 14 (vreg + n)) else s
      if n = 0 then s
      else if mwIssue w = 1 then
        s.issueVectors site (if q0.section_ then .ring else .stored) (bits vreg 0 40) n f cms capc
      else match q0.lastVa with
        | none => s.devHalt site 0xFF03
        | some va => s.issueVectors site .held va n f cms capc

/-- The special function of a word (Table 5-7). -/
def State.microSfn (s : State) (site : Nat) (q0 : Seq) (w : Nat) (c : Bool) : State :=
  let arg := mwSfarg w
  if mwSfn w = 1 then s.setFlag site (arg % 8) (bit arg 3)
  else if mwSfn w = 2 then s.setFlag site (arg % 8) c
  else if mwSfn w = 3 then s.modSeq site (fun q => { q with next := { q.next with failMark := true } })
  else if mwSfn w = 4 then s.modSeq site (fun q => { q with
    next := { q.next with event := some arg, mark := some (bits (mwImm w) 0 16) } })
  else if mwSfn w = 5 then
    let code := bits (q0.ureg (mwRa w)) 0 16
    if 0xFF00 ≤ code then s.devHalt site 0xFF0D
    else (s.push site (.halt code none)).modSeq site (fun q => { q with ended := true })
  else s

/-- A customer routine ends at its FETCH word. FV and CAPC of its PI, if it issued nothing, wait for the next vector (R102,
R104, R141). Which Facet a word takes is its FSEL's to say, also under FV = 1 (DEDUCED, log entry 81). -/
def State.endRoutine (s : State) (site : Nat) : State :=
  let s := s.modSeq site (fun q => { q with inRoutine := false })
  let q := s.seq site
  let s := if q.xopIssued then s else s.defer site q.pi ((q.facetOf q.pi).getD q.facet)
  (s.boundary site).syncNest site

/-- The word completes: all its actions take effect, and the next word follows NSEL, or TADDR after an expired wait
(R151, R158, R159, R162). -/
def State.microComplete (s : State) (site : Nat) (w : Nat) (c expired : Bool) : State :=
  let q0 := s.seq site
  let upc := s.rd SQ_UPC.UPC site
  let inc := (upc + 1) % 4096
  let s := s.modSeq site (fun q => { q.aluStep w with waited := 0, stall := none })
  let s := s.wrs site [(SQ_UPC.WAITING, 0), (SQ_UPC.STALL, 0)]
  let s := (s.microIssue site q0 w).microSfn site q0 w c
  if ¬ (s.seq site).inRoutine then s.syncNest site
  else
    let go (a : Nat) : State := s.wr SQ_UPC.UPC a site
    if expired then go (mwTaddr w)
    else if mwNsel w = 0 then go inc
    else if mwNsel w = 1 then go (mwNaddr w)
    else if mwNsel w = 2 then go (if c then mwNaddr w else inc)
    else if mwNsel w = 3 then go (mwNaddr w + q0.ureg (mwRa w) % 16)
    else if mwNsel w = 4 then s.endRoutine site
    else if mwNsel w = 5 then (go (mwNaddr w)).modSeq site (fun q => { q with mstack := inc :: q.mstack })
    else (go (q0.mstack.headD 0)).modSeq site (fun q => { q with mstack := q.mstack.tail })

/-! ## Reading the control store (R146, R164, R172, R173) -/

/-- The lowest enabled match register that names a mask ROM address (R164). -/
def State.matching (s : State) (site a : Nat) : Option (Fin 64) :=
  (List.finRange 64).find? (fun i => s.on SQ_MATCH.EN site i && s.rd SQ_MATCH.ROMADDR site i == a)

/-- The place that a logical address reads: a mask ROM address may be redirected to a patch word (R164). -/
def State.csPlace (s : State) (site a : Nat) : CsPlace :=
  .word (if a < 0x800 then (match s.matching site a with
    | some i => BitVec.ofNat 12 (0xC00 + i.val)
    | none => BitVec.ofNat 12 a) else BitVec.ofNat 12 a)

/-- The 144 bits of the microword at a micro-address; mask ROM words have their parity right (R146, R149). -/
def State.csWord (s : State) (site a : Nat) : Nat :=
  if a < 0x800 then (Config.romWord a).toNat + parityOf (Config.romWord a).toNat * 2 ^ 136
  else if a < 0xC00 then s.rd SQ_CUST.WORD site (a - 0x800)
  else s.rd SQ_PATCH.WORD site (a - 0xC00)

/-- The microword that SQ_UPC names, as it is read with the bits `flip` in error. -/
def State.microWord (s : State) (site flip : Nat) : Nat :=
  s.csWord site (placeNumber (s.csPlace site (s.rd SQ_UPC.UPC site))) ^^^ flip

/-- The slices in error of the word read at a place. -/
def State.slicesOf (s : State) (site flip : Nat) (p : CsPlace) : Nat :=
  parityFails (s.csWord site (placeNumber p) ^^^ flip) ||| (s.seq site).badSlices p

/-- A match register whose parity fails, as it was loaded or as a scrub found it (R164, R172). -/
def State.badMatch (s : State) (site : Nat) : Option (Fin 64) :=
  (List.finRange 64).find? (fun i =>
    (ones 11 (s.rd SQ_MATCH.ROMADDR site i) + s.rd SQ_MATCH.EN site i + s.rd SQ_MATCH.PAR site i) % 2 == 0
      || (s.seq site).badSlices (.matchReg i) != 0)

/-- SQ_UERR records a control-store error; the region's status bit clears. -/
def State.recordUerr (s : State) (site : Nat) (p : CsPlace) (slices : Nat) (scrub : Bool) : State :=
  let s := s.wrs site [(SQ_UERR.UADDR, placeNumber p), (SQ_UERR.REGION, placeRegion p), (SQ_UERR.SLICE, slices),
    (SQ_UERR.SCRUB, b2n scrub), (SQ_UERR.VALID, 1)]
  let s := s.modSeq site (fun q => { q with badRegions := placeRegion p :: q.badRegions.filter (· != placeRegion p) })
  if placeRegion p = 1 then s.wr SQ_UCTL.CUSTOK 0 site else if placeRegion p = 2 then s.wr SQ_UCTL.PATCHOK 0 site else s

/-- The fault message of a control-store error (R172, R173). -/
def csMessage (site : Nat) (p : CsPlace) (kind sev access : Nat) : FaultMsg :=
  { source := BitVec.ofNat 10 (532 + site), kind := BitVec.ofNat 8 kind, sev := BitVec.ofNat 3 sev,
    access := BitVec.ofNat 3 access, master := BitVec.ofNat 8 (0x40 + site), address := BitVec.ofNat 40 (placeAddress p) }

/-- A parity error met by a read of the control store: the sequencer stops, a RUNNING or HALTING site goes to MACHINE_CHECK,
and the collector gets a CS_PARITY message (R172). -/
def State.csError (s : State) (site : Nat) (p : CsPlace) (slices : Nat) : State × List FaultMsg :=
  ((s.recordUerr site p slices false).machineCheck site (placeRegion p), [csMessage site p 0x10 3 3])

/-! ## Executing (R155, R162) -/

/-- A word whose wait is over completes, or stalls at a full issue queue; what it goes on with is then fixed (R151, R155). -/
def State.microFinish (s : State) (site w : Nat) (c expired : Bool) : State :=
  let q := s.seq site
  if q.full ∧ q.issueCount w ≠ 0 ∧ s.site site = stRunning then
    ((s.modSeq site (fun q => { q with stall := some q.pi, stallCond := c, stallExp := expired })).wrs site
      [(SQ_UPC.STALL, 1), (SQ_UPC.WAITING, 0)]).pm site 0x0D 1
  else s.microComplete site w c expired

/-- One cycle of the word `w` that SQ_UPC names, its parity being right: a wait goes on, or the word completes (R162). -/
def State.microCycle (s : State) (site w : Nat) (ext : ExtLines) : State :=
  let q := s.seq site
  if q.stall.isSome then s.microFinish site w q.stallCond q.stallExp
  else
    let c := s.microCond site ext w
    let s := s.pm site 0x0E (b2n (mwWait w))
    if mwWait w ∧ ¬ c ∧ q.waited + 1 < s.rd SQ_UBND.BOUND site (mwWbnd w) then
      (s.modSeq site (fun q => { q with waited := q.waited + 1 })).wr SQ_UPC.WAITING 1 site
    else s.microFinish site w c (mwWait w && !c)

/-- The replay bundle of a MATCH that stood at a full queue enters it once a slot is free (R130, R155). -/
def State.closeStall (s : State) (site : Nat) : State :=
  if (s.seq site).full ∧ s.site site = stRunning then s
  else
    let s := ((s.modSeq site (fun q => { q with stall := none })).wr SQ_UPC.STALL 0 site).closeBody site
    if (s.seq site).inRoutine then s else (s.boundary site).syncNest site

/-- One CK_SEQ cycle of the sequencer. Inside a customer routine the word at SQ_UPC executes. Elsewhere the vendor words
run inside their PI's step, and the cycle only matters if the word read at `uaddr` (mask ROM, or patch RAM) has a parity
error. -/
def State.microStep (s : State) (site : Nat) (ext : ExtLines) (uaddr flip : Nat) :
    Except Fault (State × List FaultMsg) :=
  let q := s.seq site
  if ¬ s.busySite site then .ok (s, [])
  else match s.badMatch site with
  | some i => .ok (s.csError site (.matchReg i) 1)
  | none =>
    if q.inRoutine then
      let p := s.csPlace site (s.rd SQ_UPC.UPC site)
      let w := s.microWord site flip
      if q.closing then .ok ((s.pm site 0x0D 1).closeStall site, [])
      else if 0xC40 ≤ placeNumber p then .error .noMicroword
      else if s.slicesOf site flip p ≠ 0 then .ok (s.csError site p (s.slicesOf site flip p))
      else if mwVendor w then .error .vendorFunction
      else .ok (s.microCycle site w ext, [])
    else
      let s := s.pm site 0x0D (b2n q.stall.isSome)
      let p := s.csPlace site uaddr
      if 0xC40 ≤ placeNumber p ∨ (0x800 ≤ placeNumber p ∧ placeNumber p < 0xC00) ∨ s.slicesOf site flip p = 0 then .ok (s, [])
      else .ok (s.csError site p (s.slicesOf site flip p))

/-- The wait of the word at SQ_UPC runs on to its last cycle: if C' is still 0 there, the word completes in it and goes to
TADDR (R162). The command stands for all the cycles up to that one. -/
def State.boundExpiry (s : State) (site : Nat) (ext : ExtLines) : Except Fault State :=
  let q := s.seq site
  let w := s.microWord site 0
  if ¬ s.busySite site ∨ ¬ q.inRoutine ∨ ¬ s.on SQ_UPC.WAITING site then .ok s
  else if 0xC40 ≤ placeNumber (s.csPlace site (s.rd SQ_UPC.UPC site)) then .error .noMicroword
  else if mwVendor w then .error .vendorFunction
  else
    let rest := s.rd SQ_UBND.BOUND site (mwWbnd w) - 1 - q.waited
    .ok (((s.modSeq site (fun q => { q with waited := q.waited + rest })).pm site 0x0E rest).microCycle site w ext)

/-- A stalled PI goes on at its issuing word; in HALTING its bundle is discarded (R90, R155). -/
def State.stalledPi (s : State) (site pi : Nat) : State :=
  if (s.seq site).closing then s.closeStall site
  else
    let spec := s.speculative site
    let s := (s.modSeq site (fun q => { q with stall := none })).wr SQ_UPC.STALL 0 site
    let s := routineOf (piOp pi) s site pi
    (if spec then s else s.boundary site).syncNest site

/-- A slot of the issue queue is free, or a halt cause was taken: the stalled word completes (R90, R155). -/
def State.stallEnd (s : State) (site : Nat) : Except Fault State :=
  let q := s.seq site
  match q.stall with
  | none => .ok s
  | some pi =>
    if ¬ s.busySite site ∨ (s.site site = stRunning ∧ q.full) then .ok s
    else if q.inRoutine ∧ ¬ q.closing then
      let w := s.microWord site 0
      if 0xC40 ≤ placeNumber (s.csPlace site (s.rd SQ_UPC.UPC site)) then .error .noMicroword
      else if mwVendor w then .error .vendorFunction
      else .ok (s.microComplete site w q.stallCond q.stallExp)
    else .ok (s.stalledPi site pi)

/-- WAIT_BOUND_EXPIRY: R162. -/
def execWaitBoundExpiry (site : Fin 64) (ext : ExtLines) (s : State) : Host.Outcome State Fault Refusal :=
  match s.boundExpiry site (s.wired ext s.tt) with
  | .ok s => .next s
  | .error f => .fault f

/-- ISSUE_STALL_END: R155. -/
def execIssueStallEnd (site : Fin 64) (s : State) : Host.Outcome State Fault Refusal :=
  match s.stallEnd site with
  | .ok s => .next s
  | .error f => .fault f

end Sys2Proof.Machine
end

