-- ==== Sys2Proof/Machine/Sign.lean ====
section
/-!
DEFINITION. Signed objects (19): the signature block and the check of an inbound object.
-/
namespace Sys2Proof.Machine

/-! ## Status codes (Tables 12-7 and 19-11) -/

def updateLocked : Nat := 0x0701
def rollback : Nat := 0x0702
def noSession : Nat := 0x0703
def notStaged : Nat := 0x0704
def chunkBad : Nat := 0x0705
def activateFailed : Nat := 0x0706
def keyExhausted : Nat := 0x0707
def updateIncompatible : Nat := 0x0051

/-! ## Inbound objects (R460, R461) -/

/-- The key a signature block names is present, and not revoked if it is a vendor slot. -/
def State.keyPresent (s : State) (kclass keyid : Nat) : Bool :=
  if kclass = 1 then decide (keyid < 4) && !bit (s.rd SC_STAT.REVOKED) keyid
  else if kclass = 2 then s.on SC_STAT.OWNER
  else false

/-- The check of R461 on a payload `p` whose content has `n` bytes. The first failing condition of the list, in its
order (DEDUCED, log entry 20), gives the status. `v` is what the two signature schemes find. -/
def State.verify (s : State) (p : Bytes) (n kind kclass : Nat) (v : Verdict) : Option Nat :=
  let b := p.drop n
  let keyid := field b 4 2
  let llen := field b 12 4
  if field b 2 1 ≠ kind ∨ field b 3 1 ≠ kclass then some sigFail
  else if ¬ s.keyPresent kclass keyid then some authFail
  else if field b 0 2 ≠ 1 ∨ ¬ zeroAt b 6 2 ∨ (kclass ≠ 1 ∧ keyid ≠ 0) ∨ field b 8 4 ≠ n
      ∨ ¬ [1452, 1612, 1772].contains llen ∨ p.length ≠ n + 112 + llen then some sigFail
  else if ¬ v.ecdsa ∨ ¬ v.lms then some sigFail
  else none

/-- The die identity field of a content equals the device's. -/
def dieIdOk (p : Bytes) (off : Nat) : Bool := field p off 12 == Config.dieId.toNat

/-! ## Outbound objects (R459, R460) -/

/-- A signature block of an outbound object: the signatures themselves are open values. -/
def State.signatureBlock (s : State) (kind kclass clen llen : Nat) : Bytes × State :=
  let (sig, s) := s.drawBytes (96 + llen)
  (toLe 2 1 ++ toLe 1 kind ++ toLe 1 kclass ++ zeros 4 ++ toLe 4 clen ++ toLe 4 llen ++ sig, s)

/-- SHA-384 as 48 bytes. -/
def digest (bs : Bytes) : Bytes := fit 48 (Config.sha384 bs)

end Sys2Proof.Machine
end

