-- ==== Sys2Proof/Machine/Engine.lean ====
section
/-!
DEFINITION. One channel engine in one cycle: fetch of codes (06), drive edges (07), strobes, windows, fail counters and
fail records (08).
-/
namespace Sys2Proof.Machine

/-! ## Fetching codes (R174, R178, R179, R183) -/

/-- The code of a VA in vector memory, in the stream of the channel the engine plays for (R178, Table 6-1). -/
def State.codeAt (s : State) (e va : Nat) : Nat :=
  let n := s.playsFor e
  let base := s.rd CH_STRMBASE.BASE n * 64
  if s.on CH_STRMCFG.WIDTH n then (s.vmem.read (base + va)).toNat
  else bits (s.vmem.read (base + va / 2)).toNat (4 * (va % 2)) 4

/-- Vectors a 64-byte granule holds. -/
def State.granVectors (s : State) (e : Nat) : Nat := if s.on CH_STRMCFG.WIDTH (s.playsFor e) then 64 else 128

/-- Requests for `n` codes from `va`, granule by granule. -/
def granules (per dst : Nat) : (fuel : Nat) → (va n : Nat) → List GranReq
  | 0, _, _ => []
  | fuel + 1, va, n =>
    if n = 0 then []
    else
      let k := min n (per - va % per)
      { dst := dst, va := va, n := k } :: granules per dst fuel (va + k) (n - k)

/-- Vectors the stream buffer of 2,048 still has room for, codes held and codes requested counted (R178, R194). -/
def Chan.room (c : Chan) : Nat :=
  2048 - (c.fifo.length + c.ringCodes.length + ((c.reqs.filter (·.dst = 0)).map (·.n)).sum)

/-- The prefetcher walks the delivered run bundles in issue order, from the chosen branch-target entry while it covers
the next VA, otherwise by requests, as far as the stream buffer has room (R178, R183). -/
def Chan.prefetch (per : Nat) : (fuel : Nat) → Chan → Chan
  | 0, c => c
  | fuel + 1, c =>
    match c.walk with
    | [] => c
    | (va, n) :: rest =>
      if n = 0 then Chan.prefetch per fuel { c with walk := rest }
      else
        let request : Chan :=
          let k := min n (per - va % per)
          if k ≤ c.room then
            Chan.prefetch per fuel { c with
              source := none, reqs := c.reqs ++ [{ dst := 0, va := va, n := k }], walk := (va + k, n - k) :: rest }
          else c
        match c.source with
        | some e =>
          if e.va = va ∧ e.codes ≠ [] then
            let k := min (min n e.codes.length) c.room
            if k = 0 then c
            else Chan.prefetch per fuel { c with
              fifo := c.fifo ++ e.codes.take k, walk := (va + k, n - k) :: rest,
              source := some { e with va := va + k, codes := e.codes.drop k } }
          else if e.va = va ∧ e.left ≠ 0 then c
          else request
        | none => request

/-- The group whose engines share the transfers of a unit's requests. -/
def engineGroup (e : Nat) : Nat := if e < 512 then groupOf e else (e - 512) % 16

/-- The engines of a group that request granules: its channels and its Mirror. -/
def groupEngines (g : Nat) : List Nat := (List.range 32).map (32 * g + ·) ++ [512 + g]

/-- An engine changed by `f`, the requests it adds numbered in the group's request order (R179). -/
def State.requesting (e : Nat) (f : Chan → Chan) (s : State) : State :=
  let c := s.chan e
  let c' := f c
  let old := c'.reqs.filter (fun r => c.reqs.contains r)
  let new := c'.reqs.drop old.length
  let no := (s.group (engineGroup e)).nextReq
  (s.modChan e (fun _ => { c' with reqs := old ++ new.zipIdx.map (fun p => { p.1 with no := no + p.2 }) })).modGroup
    (engineGroup e) (fun q => { q with nextReq := no + new.length })

/-- The prefetcher of an engine goes on. -/
def State.prefetch (e : Nat) (s : State) : State := s.requesting e (Chan.prefetch (s.granVectors e) 256)

/-- The engine's oldest request is the oldest of its group: transfers come in request order (R179). -/
def State.reqTurn (s : State) (e : Nat) : Bool :=
  match (s.chan e).reqs with
  | [] => false
  | r :: _ => (groupEngines (engineGroup e)).all (fun x => (s.chan x).reqs.all (fun y => decide (r.no ≤ y.no)))

/-- A granule is in the buffer it was requested for (R179). -/
def State.granuleIn (s : State) (e : Nat) : State :=
  match (s.chan e).reqs with
  | [] => s
  | r :: rest =>
    let codes := (List.range r.n).map (fun k => (⟨r.va + k, s.codeAt e (r.va + k), s.tt⟩ : Code))
    let add (b : BtbEntry) : BtbEntry := { b with codes := b.codes ++ codes, left := b.left - r.n }
    let s := s.modChan e (fun c =>
      if r.dst = 0 then { c with reqs := rest, fifo := c.fifo ++ codes }
      else if c.cand.any (·.1 = r.dst) then
        { c with reqs := rest, cand := c.cand.map (fun p => if p.1 = r.dst then (p.1, add p.2) else p) }
      else { c with reqs := rest, source := c.source.map add })
    State.prefetch e s

/-- A candidate path's first run bundle: 256 codes from its first VA are requested into entry `dst` (R183). -/
def State.requestEntry (dst va : Nat) (e : Nat) (s : State) : State :=
  s.requesting e (fun c => { c with
    cand := c.cand ++ [(dst, ⟨va, [], 256⟩)], reqs := c.reqs ++ granules (s.granVectors e) dst 8 va 256 })

/-- The longest head of the codes held, then of the requests, that follows a path of runs, and what is left of the path. -/
def alongCodes : (runs : List (Nat × Nat)) → List Code → List Code × List (Nat × Nat)
  | runs, [] => ([], runs)
  | runs, c :: cs =>
    match runs.dropWhile (fun p => p.2 = 0) with
    | [] => ([], [])
    | (va, n) :: rest =>
      if c.va = va then
        let (k, left) := alongCodes ((va + 1, n - 1) :: rest) cs
        (c :: k, left)
      else ([], (va, n) :: rest)

/-- The same for requests. -/
def alongReqs : (runs : List (Nat × Nat)) → List GranReq → List GranReq × List (Nat × Nat)
  | runs, [] => ([], runs)
  | runs, r :: rs =>
    match runs.dropWhile (fun p => p.2 = 0) with
    | [] => ([], [])
    | (va, n) :: rest =>
      if r.va = va ∧ r.n ≤ n then
        let (k, left) := alongReqs ((va + r.n, n - r.n) :: rest) rs
        (r :: k, left)
      else ([], (va, n) :: rest)

/-- The path chosen at a branch point is `runs`: what the stream buffer holds or has requested along it stays, the chosen
entry `dst` becomes the source, the losing one is discarded, and the prefetcher resumes along the path (R183). -/
def State.choosePath (dst : Nat) (runs : List (Nat × Nat)) (e : Nat) (s : State) : State :=
  State.prefetch e (s.modChan e (fun c =>
    let (fifo, left) := alongCodes runs c.fifo
    let (reqs, left) := alongReqs left (c.reqs.filter (·.dst = 0))
    { c with fifo := fifo, reqs := reqs ++ c.reqs.filter (·.dst = dst), walk := left,
             source := (c.cand.find? (·.1 = dst)).map (·.2), cand := [] }))

/-! ## What the load stage loads (R211, R310) -/

/-- The correction of an engine's path in use: CUR of a channel; for a Mirror what its tables give, and its match offset on
the output paths (R310, R319, R325). -/
def State.correction (s : State) (e k : Nat) : Int :=
  if e < 512 then sgn 13 (s.rd CH_COR.CUR e k)
  else Tab.get 0 s.cal.applied (8 * (4 + (e - 512)) + k) + (if k < 4 then sgn 13 (s.rd CH_MMATCH.MATCH (e - 512) k) else 0)

/-- The gain trim in use. -/
def State.gainOf (s : State) (e : Nat) : Int :=
  if e < 512 then sgn 12 (s.rd CH_GAIN.CUR e) else Tab.get 0 s.cal.applied (8 * (4 + (e - 512)) + 6)

/-- An edge or strobe `t` half steps into the cycle is loaded: whole ticks into the counter, the rest with the path's
correction, scaled by the gain, into the fine-delay element. -/
def State.load (s : State) (e k : Nat) (t : Int) : State :=
  let l : Load := ⟨k, t / 2500, (t % 2500 + 2 * s.correction e k) * (65536 + s.gainOf e)⟩
  s.modChan e (fun c => { c with loads := c.loads ++ [l] })

/-! ## Lines and strobes (R224–R227) -/

/-- The moves as the strobes of each channel see them: a strobe or burst sample takes place FIXCMP later at the balls than
its position says (R328). -/
def State.atStrobes (s : State) (moves : List LineMove) : List LineMove :=
  moves.map (fun m => { m with pos := m.pos - sgn CH_FIX.FIXCMP.w (s.rd CH_FIX.FIXCMP m.chan) })

/-- The moves of one line of one channel. -/
def lineMoves (moves : List LineMove) (n : Nat) (high : Bool) : List LineMove :=
  moves.filter (fun m => m.chan.val = n && m.high == high)

/-- Level of a line at `t` half steps into the cycle, the moves of the cycle up to `t` applied. -/
def levelAt (init : Bool) (ms : List LineMove) (t : Int) : Bool :=
  ms.foldl (fun l m => if 0 ≤ m.pos ∧ 2 * m.pos ≤ t then m.level else l) init

/-- Placement accuracy of an engine's path `k` in steps: ±7 ps, more by the drift term of a threshold above 2.0 °C and by
what is left of a slew; none is stated for a channel that is not calibrated or has left its calibration temperature window
(R331). -/
def State.accuracy (s : State) (e k : Nat) : Option Nat :=
  if 512 ≤ e then some 28
  else if ¬ s.on CH_CALSTAT.VALID e ∨ 4 * s.rd CA_CTL.THRESH < s.drift e then none
  else some (28 + ceilDiv (s.rd CA_CTL.THRESH - 8) 2
    + (sgn 13 (s.rd CH_COR.TGT e k) - sgn 13 (s.rd CH_COR.CUR e k)).natAbs)

/-- An instant lies within the placement accuracy of another, both in half steps. -/
def near (acc : Option Nat) (a b : Int) : Bool :=
  match acc with
  | some k => decide ((a - b).natAbs ≤ 2 * k)
  | none => true

/-- A line sampled at a strobe `t` half steps into the cycle. A line that moves within the placement accuracy of the instant
is sampled before or after its move: the bit is drawn (R224). Where R331 states no accuracy, any move in sight leaves the
sample open (DESIGN CHOICE, log entry 82). -/
def State.sample (s : State) (acc : Option Nat) (init : Bool) (ms : List LineMove) (t : Int) : Bool × State :=
  if ms.any (fun m => near acc (2 * m.pos) t) then
    let (r, s) := s.draw
    (r % 2 == 1, s)
  else (levelAt init ms t, s)

/-- The spans of a cycle, in steps, in which a line is away from a level, the first already under way for `since` steps. -/
def awaySpans (ref : Bool) (since : Option Nat) (ms : List LineMove) : List (Int × Option Int) :=
  let r := (ms.filter (fun m => decide (0 ≤ m.pos))).foldl (fun (acc : Option Int × List (Int × Option Int)) m =>
    match acc.1 with
    | none => if m.level != ref then (some m.pos, acc.2) else acc
    | some a => if m.level == ref then (none, acc.2 ++ [(a, some m.pos)]) else acc)
    (since.map (fun k => -(k : Int)), [])
  r.2 ++ (r.1.map (fun a => (a, none))).toList

/-- What an open window sees of a line between `t1` and `t2` half steps: whether it changed for certain, whether it may
have, and for how many steps it is away at `t2`. Every pulse of 40 ps (160 steps) registers, a narrower one may be missed,
and so may a change within the placement accuracy of either end (R224, R226). A pulse still under way at `t2` is judged
there only if the window closes there. -/
def lineSeen (acc : Option Nat) (ref : Bool) (since : Option Nat) (ms : List LineMove) (t1 t2 : Int) (close : Bool) :
    Bool × Bool × Option Nat :=
  let spans := (awaySpans ref since (ms.filter (fun m => decide (t1 < 2 * m.pos)))).filter (fun x => decide (2 * x.1 < t2))
  let lasts (x : Int × Option Int) : Bool := x.2.all (fun b => decide (t2 < 2 * b))
  let wide (x : Int × Option Int) : Bool := match x.2 with
    | some b => decide (160 ≤ b - x.1)
    | none => close || decide (320 ≤ t2 - 2 * x.1)
  let inside (x : Int × Option Int) : Bool := (decide (x.1 < 0) || !near acc (2 * x.1) t1) && !(close && near acc (2 * x.1) t2)
  let sure := spans.any (fun x => wide x && inside x)
  let may := spans.any (fun x => close || !lasts x) ||
    ms.any (fun m => (decide (0 ≤ t1) && near acc (2 * m.pos) t1) || (close && near acc (2 * m.pos) t2))
  (sure, may, ((spans.filter lasts).getLast?).map (fun x => ((t2 - 2 * x.1) / 2).toNat))

/-- What a channel judged in a cycle (R228, R234). -/
structure Judge where
  judged : Bool := false
  fail : Bool := false
  fmask : Nat := 0
  states : Nat := 0
  ill : Nat := 0
  winFail : Bool := false
  winSpan : Nat := 0
  winPad : Bool := false
  deriving DecidableEq, Repr

/-- A judgement of outcome `ok` on state `st` at strobe `k`. -/
def Judge.add (j : Judge) (k st : Nat) (ok : Bool) : Judge :=
  { j with judged := true, fail := j.fail || !ok, fmask := if ok then j.fmask else j.fmask ||| 2 ^ k,
           ill := j.ill + b2n (st == 3) }

/-- One cycle of an engine: the engine, the channel it plays for, the cycle's start and period in steps, whether the engine
counts (R229), and the moves of the channel's lines. -/
structure Turn where
  e : Nat
  n : Nat
  start : Nat
  period : Nat
  counts : Bool
  moves : List LineMove
  deriving DecidableEq, Repr

/-- PE_EN as the engine commands it at an instant in half steps; a transition at the instant itself has not taken effect
(R224). A forced PE_EN is 0 (R400). -/
def Chan.enAt (c : Chan) (now : Bool) (t : Int) : Bool :=
  !c.forced && c.enQ.foldl (fun l e => if e.time < t then e.level else l) now

/-- PE_EN at `t` half steps into the cycle, as expect off judges it. ENON or ENOFF may place a transition of the next cycle
before `t`, and that cycle is not known yet: the level is drawn then (DESIGN CHOICE, log entry 37). -/
def State.enableAt (s : State) (u : Turn) (t : Int) : Bool × State :=
  let l := (s.chan u.e).enAt (s.on CH_PELIVE.EN u.e) (2 * u.start + t)
  let off : Int := sgn 11 (s.rd (if l then CH_ENTIME.ENOFF else CH_ENTIME.ENON) u.e)
  if 2 * (u.period + off) < t ∧ ¬ (s.chan u.e).forced then
    let (r, s) := s.draw
    (r % 2 == 1, s)
  else (l, s)

/-- Comparator state {CH, CL} sampled `t` half steps into the cycle (Table 8-1). -/
def State.comparator (s : State) (u : Turn) (t : Int) : Nat × State :=
  let (h, s) := s.sample (s.accuracy u.e 4) (s.on CH_PELIVE.CH u.n) (lineMoves u.moves u.n true) t
  let (l, s) := s.sample (s.accuracy u.e 5) (s.on CH_PELIVE.CL u.n) (lineMoves u.moves u.n false) t
  (2 * b2n h + b2n l, s)

/-- A certain change, or a drawn one where the detector may have missed it. -/
def State.registered (s : State) (sure may : Bool) : Bool × State :=
  if sure then (true, s)
  else if may then
    let (r, s) := s.draw
    (r % 2 == 1, s)
  else (false, s)

/-- Transitions of the lines from `t1` to `t2` half steps enter the open window, which closes at `t2` or goes on. -/
def State.windowTo (s : State) (u : Turn) (t1 t2 : Int) (close : Bool) : State :=
  match (s.chan u.e).win with
  | none => s
  | some w =>
    let (sureH, mayH, awayH) := lineSeen (s.accuracy u.e 4) w.refH w.awayH (lineMoves u.moves u.n true) t1 t2 close
    let (sureL, mayL, awayL) := lineSeen (s.accuracy u.e 5) w.refL w.awayL (lineMoves u.moves u.n false) t1 t2 close
    let (a, s) := s.registered sureH mayH
    let (b, s) := s.registered sureL mayL
    s.modChan u.e (fun c => { c with win := some { w with changed := w.changed || a || b, awayH := awayH, awayL := awayL } })

/-- The open window is judged at strobe `k` (R226). -/
def State.judgeWindow (s : State) (e k : Nat) (j : Judge) : Judge × State :=
  match (s.chan e).win with
  | none => (j, s)
  | some w =>
    let bad := w.bad || w.changed
    let j := { j with
      judged := true, fail := j.fail || bad, fmask := if bad then j.fmask ||| 2 ^ k else j.fmask,
      ill := j.ill + b2n w.bad, winFail := j.winFail || bad,
      winSpan := if bad then w.cycles else j.winSpan, winPad := if bad then w.pad else j.winPad }
    (j, (s.modChan e (fun c => { c with win := none })).wr CH_WINSTAT.OPEN 0 e)

/-- A window opens `t` half steps into the cycle on the sampled state (R226). -/
def State.openWindow (s : State) (u : Turn) (st : Nat) (t : Int) : State :=
  let h := levelAt (s.on CH_PELIVE.CH u.n) (lineMoves u.moves u.n true) t
  let l := levelAt (s.on CH_PELIVE.CL u.n) (lineMoves u.moves u.n false) t
  (s.modChan u.e (fun c => { c with
    win := some { bad := st == 3, changed := false, cycles := 1, pad := false, refH := h, refL := l } })).wr CH_WINSTAT.OPEN 1 u.e

/-- Strobe CEk of a full-format cycle (Table 8-2). `from_` is where an open window began to look in this cycle. -/
def State.strobe (s : State) (u : Turn) (t : Int) (k action : Nat) (from_ : Int) (j : Judge) : Judge × State :=
  let (st, s) := s.comparator u t
  let j := { j with states := j.states + st * 4 ^ k }
  if action = 1 then (j.add k st (st == 2), s)
  else if action = 2 then (j.add k st (st == 1), s)
  else if action = 3 then (j.add k st (st == 0), s)
  else if action = 4 then
    let (en, s) := s.enableAt u t
    (j.add k st (st == 0 && !en), s)
  else if action = 5 then
    let s := s.windowTo u from_ t true
    let (j, s) := s.judgeWindow u.e k j
    (j, s.openWindow u st t)
  else if action = 6 then
    let s := s.windowTo u from_ t true
    match (s.chan u.e).win with
    | none => (j, if u.counts then s.inc CH_WINSTAT.STRAY u.n else s)
    | some _ => s.judgeWindow u.e k j
  else (j, s)

/-- The strobes of a full-format cycle in order; then the open window sees the rest of the cycle. -/
def State.strobes (s : State) (u : Turn) (f : Facet) (entry : Nat) : Judge × State :=
  let r := (List.range 4).foldl (fun (acc : Judge × State × Int) k =>
      let (j, s, from_) := acc
      let action := bits entry (8 + 3 * k) 3
      let p := f.ce.getD k 0
      let t : Int := 2 * p
      if bit f.en (4 + k) ∧ action ≠ 0 ∧ action ≠ 7 then
        let s := s.load u.e 4 t
        let (j, s) := (s.load u.e 5 t).strobe u t k action from_ j
        (j, s, if action = 5 then t else from_)
      else (j, s, from_)) ({}, s, (-1 : Int))
  (r.1, r.2.1.windowTo u r.2.2 (2 * u.period) false)

/-- The slots of a burst cycle with BDIR = 2 (R219, R225): slot i is sampled 312.5 × i steps after slot 0. -/
def State.slots (s : State) (u : Turn) (code : Nat) : Judge × State :=
  (List.range 8).foldl (fun (acc : Judge × State) i =>
    let t : Int := ((2 * (s.rd CH_BURSTCFG.BOFF u.e + s.rd CH_BURSTCFG.BSTRB u.e) + 625 * i : Nat) : Int)
    let (st, s') := ((acc.2.load u.e 4 t).load u.e 5 t).comparator u t
    let j := { acc.1 with states := acc.1.states + st * 4 ^ i }
    (j.add i st (st == (if bit code i then 2 else 1)), s')) ({}, s)

/-! ## Drive edges (R212, R217, R219, R220) -/

/-- PE_DRV commanded to a level `t` half steps into the cycle: a transition, if it is not there already. Edges are kept as at
the balls (R328). -/
def State.driveTo (s : State) (u : Turn) (t : Int) (l : Bool) : State :=
  if s.on CH_PELIVE.DRV u.e = l then s
  else
    let t := t - 2 * s.fixDrv u.n
    ((s.load u.e (if l then 0 else 1) t).modChan u.e (fun c => { c with
      drvEdges := c.drvEdges ++ [⟨2 * u.start + t, l⟩] })).flag CH_PELIVE.DRV l u.e

/-- PE_EN commanded to a level; the transition lies ENON or ENOFF steps from the commanding instant (R212). -/
def State.enableTo (s : State) (u : Turn) (t : Int) (l : Bool) : State :=
  if (s.chan u.e).enCmd = l then s
  else
    let t := t + 2 * sgn 11 (s.rd (if l then CH_ENTIME.ENON else CH_ENTIME.ENOFF) u.e)
    let e : Edge := ⟨2 * u.start + t, l⟩
    (s.load u.e (if l then 2 else 3) (t - 2 * s.fixDrv u.n)).modChan u.e (fun c => { c with
      enCmd := l, enQ := c.enQ ++ [e], enEdges := c.enEdges ++ [{ e with time := e.time - 2 * s.fixDrv u.n }] })

/-- The drive actions of a waveform-table entry at the enabled drive edges (R212). -/
def State.driveEntry (s : State) (u : Turn) (f : Facet) (entry : Nat) : State :=
  (List.range 4).foldl (fun s k =>
    let a := bits entry (2 * k) 2
    let t : Int := ((2 * f.de.getD k 0 : Nat) : Int)
    if bit f.en k then
      if a = 1 ∨ a = 2 then (s.driveTo u t (a == 2)).enableTo u t true
      else if a = 3 then s.enableTo u t false
      else s
    else s) s

/-- A burst cycle drives its slots or releases the pin (R219, R220). -/
def State.driveBurst (s : State) (u : Turn) (f : Facet) (code : Nat) : State :=
  let t : Int := ((2 * s.rd CH_BURSTCFG.BOFF u.e : Nat) : Int)
  if f.bdir = 1 then
    (List.range 8).foldl (fun s i => s.driveTo u (t + ((625 * i : Nat) : Int)) (bit code i)) (s.enableTo u t true)
  else s.enableTo u t false

/-- The lines at the end of a cycle: PE_EN transitions before the end have taken place, the comparator lines are where the
moves of the cycle left them. -/
def State.settleLines (s : State) (u : Turn) : State :=
  let c := s.chan u.e
  let e : Int := 2 * (u.start + u.period : Nat)
  let en := c.enQ.foldl (fun l x => if x.time < e then x.level else l) (s.on CH_PELIVE.EN u.e)
  let s := s.modChan u.e (fun c => { c with enQ := c.enQ.filter (fun x => e ≤ x.time) })
  let s := s.flag CH_PELIVE.EN (en && !c.forced) u.e
  if u.counts then
    let last : Int := 2 * u.period - 1
    let s := s.flag CH_PELIVE.CH (levelAt (s.on CH_PELIVE.CH u.n) (lineMoves u.moves u.n true) last) u.n
    s.flag CH_PELIVE.CL (levelAt (s.on CH_PELIVE.CL u.n) (lineMoves u.moves u.n false) last) u.n
  else s

/-! ## One cycle of one engine -/

/-- A cycle begins: nothing is loaded yet, and an open window has lasted one cycle more. -/
def State.beginTurn (s : State) (u : Turn) (fi : Nat) (pad : Bool) : State :=
  (s.modChan u.e (fun c => { c with
    drvEdges := [], enEdges := [], loads := [],
    win := c.win.map (fun w => { w with pad := w.pad || pad, cycles := w.cycles + 1 }) })).wrs u.e
    [(CH_FACETSEL.PLAY, fi), (CH_FACETSEL.INPAD, b2n pad)]

/-- A vector cycle of an engine under Facet `fi` with its code: edges, strobes, judgement. -/
def State.playVector (s : State) (u : Turn) (fi : Nat) (f : Facet) (code : Nat) : Judge × State :=
  let s := s.beginTurn u fi false
  if f.burst then
    let s := s.driveBurst u f code
    let (j, s) := if f.bdir = 2 then s.slots u code else ({}, s)
    (j, (s.windowTo u (-1) (2 * u.period) false).settleLines u)
  else
    let entry := f.table.getD (code % 16) 0
    let (j, s) := (s.driveEntry u f entry).strobes u f entry
    (j, s.settleLines u)

/-- A pad cycle of an engine (R217): the drive actions of entry PADSEL; nothing is judged; an open window goes on. -/
def State.playPad (s : State) (u : Turn) (fi : Nat) (f : Facet) : State :=
  let s := s.beginTurn u fi true
  let s := if f.burst then s else s.driveEntry u f (f.table.getD f.padsel 0)
  (s.windowTo u (-1) (2 * u.period) false).settleLines u

/-! ## Fail counters and fail records (R230, R233–R236) -/

/-- The fail record of Table 8-4. -/
def State.failRecord (s : State) (site : Nat) (u : Turn) (burst : Bool) (code rseq : Nat) (v : Vec) (replay : Bool)
    (j : Judge) : Bytes :=
  let kind := if j.winFail then 2 else if burst then 3 else 1
  toLe 1 kind ++ toLe 1 (b2n (decide (512 ≤ u.e)) + 2 * b2n j.winPad + 4 * b2n replay) ++ toLe 2 u.n ++ toLe 1 site ++ zeros 1
    ++ toLe 1 v.facet ++ toLe 1 v.cms ++ toLe 5 v.va ++ toLe 1 j.fmask ++ toLe 2 j.states
    ++ toLe 8 (u.start / 1250) ++ toLe 4 (s.rd CH_FCNT.COUNT u.n) ++ toLe 1 code
    ++ toLe 1 (if j.winFail then min j.winSpan 255 else 0) ++ toLe 2 rseq

/-- A failing counted cycle produces a record, unless the channel's limit is reached; it enters the pending buffer of 8 of
the counting engine, within 8 ticks after the end of the cycle, or is lost (R233–R236). -/
def State.produceRecord (s : State) (site : Nat) (u : Turn) (burst : Bool) (code : Nat) (v : Vec) (replay : Bool)
    (j : Judge) : State :=
  let limit := s.rd CH_FRCFG.LIMIT u.n
  if limit ≠ 0xFFFF ∧ limit ≤ s.rd CH_FRCNT.PROD u.n then s
  else
    let g := groupOf u.n
    let rseq := s.rd GR_FQSEQ.RSEQ g
    let r := s.failRecord site u burst code rseq v replay j
    let (x, s) := ((s.inc CH_FRCNT.PROD u.n).bump GR_FQSEQ.RSEQ g).draw
    if 8 ≤ (s.chan u.e).pending.length then (s.inc GR_FQLOST.LOST g).inc CH_FRCNT.DROP u.n
    else s.modChan u.e (fun c => { c with pending := c.pending ++ [(((u.start + u.period) / 1250 + x % 9) / 4, r)] })

/-- The counters and the record of a judged cycle (R230, R233). -/
def State.countJudge (s : State) (site : Nat) (u : Turn) (burst : Bool) (code : Nat) (v : Vec) (replay : Bool) (j : Judge) :
    State :=
  let s := s.inc CH_ILLCNT.COUNT u.n 0 j.ill
  if ¬ j.fail then s
  else if bit (s.rd CH_CMSMASK.MEMBER u.n) v.cms then
    let s := s.modChan u.n (fun c => { c with
      failLog := ((u.start + u.period, s.rd CH_FCNT.COUNT u.n) :: c.failLog).take 64 })
    let s := s.inc CH_FCNT.COUNT u.n
    let s := if s.on CH_FFVA.VALID u.n then s else s.wrs u.n [(CH_FFVA.VA, v.va), (CH_FFVA.VALID, 1)]
    s.produceRecord site u burst code v replay j
  else s.inc CH_MCNT.COUNT u.n

end Sys2Proof.Machine
end

