-- ==== Sys2Proof/Machine/Play.lean ====
section
/-!
DEFINITION. The vector side of a site: one cycle of its grid (R18–R22, R80–R87, R122–R133, R180–R199, R210, R217, R365).
-/
namespace Sys2Proof.Machine

/-! ## Conditions (Table 3-4) -/

/-- A condition of Table 4-4 read from a condition word laid out as SQ_COND (R121). -/
def Cond.holds (c : Cond) (word : Nat) : Bool :=
  let v := if c.cls = 1 then bit word 4 else if c.cls = 2 then bit word 1 else if c.cls = 3 then bit word 2
    else if c.cls = 4 then bit word 3 else if c.cls = 5 then bit word 0
    else if c.cls = 6 then bit word (8 + c.idx) else if c.cls = 7 then bit word (12 + c.idx)
    else if c.cls = 8 then bit word (20 + c.idx) else bit word (28 + c.idx)
  v != c.neg

/-- The first true vector of a MATCH or WAITX that vector `v` belongs to (R131, R133). -/
def Item.hitAt (v word : Nat) : Item → Item
  | .matchLoop c first len max none dlv =>
    .matchLoop c first len max (if first ≤ v ∧ c.holds word then some v else none) dlv
  | .waitx c first bound none h dlv => .waitx c first bound (if first ≤ v ∧ c.holds word then some v else none) h dlv
  | it => it

/-- Vector `v`'s conditions are known: MATCH and WAITX take note. -/
def Seq.noteCond (q : Seq) (v word : Nat) : Seq :=
  { q with
    queue := q.queue.map (Item.hitAt v word),
    body := q.body.map (fun b => if b.hit.isNone ∧ b.from_ ≤ v ∧ b.cond.holds word then { b with hit := some v } else b) }

/-- The condition word of the external lines, beside the bits of the reduction network. -/
def condWord (red : Nat) (ext : ExtLines) : Nat :=
  red + ext.trig.toNat * 2 ^ 8 + ext.xtrig.toNat * 2 ^ 12 + ext.supmon.toNat * 2 ^ 20

/-- The cycle after a vector starts: the ring flags are sampled, and the vector's conditions are complete (R83). The next
cycle of the grid is taken, be it a vector or a pad cycle (DESIGN CHOICE, log entry 83). On a cross-chip site the conditions
are complete only with the votes (R358), and the entry stays open. -/
def State.finishCond (s : State) (site : Nat) : State :=
  let s := s.sampleRf site
  match (s.seq site).fresh with
  | none => s
  | some word =>
    let w := word + s.rd SQ_COND.RF site * 2 ^ 28
    let cross := 1 < s.rd SQ_STATE.CHIPS site
    s.modSeq site (fun q =>
      let q := if cross then q else q.noteCond (q.vk - 1) w
      { q with fresh := none, hist := ((if cross then none else some w) :: q.hist).take 256,
               own := if cross then ((w, q.lastVec.failMark) :: q.own).take 256 else [],
               lastCycle := { q.lastCycle with cond := w } })

/-- The completed condition word of vector `v`, if it is known. -/
def Seq.condOf (q : Seq) (v : Nat) : Option Nat := if v < q.vk then (q.hist.getD (q.vk - 1 - v) none) else none

/-! ## Decisions -/

/-- Vectors the queue still plays, for the program-order count after a decision. -/
def Seq.queued (q : Seq) : Nat := (q.queue.map Item.vectors).sum

/-- A MATCH or WAITX is decided: F7, the counter of decisions, and dispatch goes on (R132, R133). -/
def State.decided (s : State) (site : Nat) (timeout : Bool) : State :=
  let s := ((s.setFlag site 7 timeout).wr SQ_NEST.PENDBR 0 site).pm site 0x0F 1
  let s := forAll (s.engines site) (fun e s => s.wr CH_LBSTAT.REPLAY 0 e) s
  s.modSeq site (fun q => { q with
    queue := q.queue.tail, gate := false, issued := q.vk + ({ q with queue := q.queue.tail }).queued })

/-- The Facet of a bundle that inherits the Facet in force at the branch point (R127). -/
def Item.resolve (f : Nat) : Item → Item
  | .bundle src n v true dlv => .bundle src n { v with facet := f } false dlv
  | it => it

/-- The delivered stored runs among items, for the prefetchers. -/
def runsOf (items : List Item) : List (Nat × Nat) :=
  items.filterMap fun
    | .bundle .stored n v _ (some _) => some (v.va, n)
    | _ => none

/-- Discontinuities among items that follow a run ending before VA `prev`. -/
def discsAfter : (prev : Nat) → List Item → Nat
  | _, [] => 0
  | prev, it :: rest =>
    match it with
    | .bundle .stored n v _ _ => (if v.va = prev then 0 else 1) + discsAfter (v.va + n) rest
    | _ => discsAfter prev rest

/-- The chosen head's PIs, bundles and discontinuities count (R368). -/
def State.countHead (s : State) (site : Nat) (h : HeadCounts) : State :=
  (((s.pm site 0x0B h.pis).pm site 0x0C h.bundles).pm site 0x11 h.discs).modSeq site (fun q => { q with headHeld := {} })

/-- The target path replaces everything still queued, with the sequencer state its head leaves (R125, R127). -/
def State.takeTarget (s : State) (site : Nat) (b : PendingBrc) : State :=
  let q := s.seq site
  let f := q.lastVec.facet
  let s := (List.range 4).foldl (fun s k => if b.depth ≤ k then s.wr SQ_LC.COUNT 0 site k else s) s
  let s := forAll (s.engines site) (fun e s =>
    (State.choosePath 2 (runsOf b.target) e s).wrs e [(CH_LBSTAT.REC, 0), (CH_LBSTAT.REPLAY, 0)]) s
  let s := s.modSeq site (fun q => { (q.setU 13 b.targetIa).setU 14 b.targetVa with
    brc := none, queue := b.target.map (Item.resolve f), loops := q.loops.drop (q.loops.length - b.depth),
    facet := b.targetFacet.getD f, issued := q.vk + b.targetIssued, ended := false, stall := none, closing := false,
    lastVa := some (b.targetVa - 1), runEnd := some b.targetVa, next := b.targetNext, heldRuns := [], recording := false,
    recBase := none, headCount := 0 })
  ((s.wr SQ_UPC.STALL 0 site).wr SQ_IA.IA b.targetIa site).syncNest site

/-- The IA of a device halt code that waits in the queue (R140). -/
def Seq.queuedError (q : Seq) : Option Nat :=
  (q.queue.find? (fun | .halt _ (some _) => true | _ => false)).bind (fun | .halt _ e => e | _ => none)

/-- The fall-through path goes on; what its head left unshown shows now (R125). -/
def State.fallThrough (s : State) (site : Nat) : State :=
  let q := s.seq site
  let s := s.wr SQ_IA.IA (if q.ended ∨ q.stall.isSome then q.ia else q.ureg 13) site
  let s := match q.queuedError with
    | some ia => s.wr SQ_PIERR.IA ia site
    | none => s
  let s := forAll (s.engines site) (State.choosePath 1 (runsOf q.queue)) s
  s.modSeq site (fun q => { q with brc := none, heldRuns := [], headCount := 0 })

/-- The select stage of the branch point (R122, R123, R125, R183). -/
def State.selectBranch (s : State) (site : Nat) (b : PendingBrc) (taken : Bool) : State :=
  let q := s.seq site
  let s := ((s.wr SQ_NEST.PENDBR 0 site).pm site 0x0F 1).pm site 0x10 (b2n taken)
  let s := s.countHead site
    (if taken then ⟨b.targetPis, b.target.length, discsAfter (q.lastVec.va + 1) b.target⟩ else q.headHeld)
  if taken then s.takeTarget site b else s.fallThrough site

/-- The next vector is the branch point of a pending branch. -/
def State.atBranch (s : State) (site : Nat) : Option PendingBrc :=
  (s.seq site).brc.filter (fun b => (s.seq site).vk == b.ref + s.rd SQ_DLAT.D site)

/-- The branch whose branch point comes next is decided. -/
def State.decideBranch (s : State) (site : Nat) : State :=
  match s.atBranch site with
  | some b => s.selectBranch site b (((s.seq site).condOf b.ref).any b.cond.holds)
  | none => s

/-! ## Items that take no time -/

/-- SITE_DONE at the end of the last vector (R95, R139, R140). -/
def State.siteDone (s : State) (site code : Nat) (err : Option Nat) (t : Nat) : State :=
  let s := match err with
    | some ia => s.wr SQ_PIERR.IA ia site
    | none => s
  let s := s.wr SQ_HALTCODE.CODE code site
  let fails := b2n (s.seq site).sfailRun
  let s := (s.reach t).endRun site stDone
  s.event 1 site t (toLe 2 code ++ toLe 1 fails ++ zeros 1 ++ toLe 4 (s.rd SQ_IA.IA site) ++ toLe 5 (s.vaNow site))

/-- An under-run under the ABORT policy: halt cause 1 and a stale ring (R197). -/
def State.abortUnderrun (s : State) (site : Nat) : State :=
  ((s.postHalt site 1).wr SQ_SRSTAT.STALE 1 site).stopVectors site

/-- The policy that applies: PAD only if the ring was opened with PAD and the section's TOL is 1 (R138, R196). -/
def State.padPolicy (s : State) (site : Nat) : Bool := !s.on SQ_SRSTAT.POLICY site && (s.seq site).tol

/-- The tick in which the issue stage of the site's next cycle lies (Table 1-3). -/
def Seq.issueTick (q : Seq) : Nat := q.cyc / 1250 - 48

/-- An under-run episode begins at the failed check of an issue stage (R196). -/
def State.beginEpisode (s : State) (site va : Nat) (abort : Bool) : State :=
  let s := (s.wr SQ_SRSTAT.UR 1 site).inc SQ_SRSTAT.EPISODES site
  let s := s.modSeq site (fun q => { q with episode := true })
  s.event 3 site (s.seq site).issueTick (toLe 1 (b2n abort) ++ zeros 7 ++ toLe 5 va)

/-- A failed frame check (R195). -/
def State.mismatch (s : State) (site va : Nat) : State :=
  let s := if (s.seq site).episode then s else s.beginEpisode site va true
  (s.wr SQ_SRSTAT.MISMATCH 1 site).abortUnderrun site

/-- A WAITX or MATCH at the head of the queue that begins at vector `first` is over: whether by its bound, if so. `limit`
bounds the vector at which a hit counts. -/
def Seq.outcome (q : Seq) (d : Nat) (hit : Option Nat) (last : Nat) (strict : Bool) : Option Bool :=
  match hit with
  | some h => if h + d ≤ q.vk ∧ (¬ strict ∨ h + d ≤ last) then some false else if last ≤ q.vk then some true else none
  | none => if last ≤ q.vk then some true else none

/-- A SYNC is reached: the site has arrived at its barrier (R134). -/
def State.arriveSync (s : State) (site t : Nat) (ring : Bool) (bar : Nat) : State :=
  let s := (s.reach t).pm site 0x12 1
  let s := if ring then s.wrs site [(SQ_RBARSTAT.BAR, bar), (SQ_RBARSTAT.WAITING, 1)]
    else s.wrs site [(SQ_BARSTAT.BAR, bar), (SQ_BARSTAT.WAITING, 1)]
  let s := s.modSeq site (fun q => { q with arrived := true, barTime := t })
  if ring ∧ bit (s.rd SQ_RBARMEM.MEMBER site) bar then s.arriveBar bar else s

/-- Items at the head of the queue that take effect between two cycles, at instant `t` in steps (the end of the last
vector), up to a branch point that is not decided yet. `fuel` bounds their number. -/
def State.settle (site t : Nat) : (fuel : Nat) → State → State
  | 0, s => s
  | fuel + 1, s =>
    let q := s.seq site
    let d := s.rd SQ_DLAT.D site
    let pop (s : State) : State := s.modSeq site (fun q => { q with queue := q.queue.tail })
    if ¬ s.playing site ∨ q.vecEnd ∨ (s.atBranch site).isSome then s
    else match q.queue with
    | .recStart :: _ =>
      let s := forAll (s.engines site) (fun e s =>
        (s.modChan e (fun c => { c with loopBuf := [] })).wrs e [(CH_LBSTAT.COUNT, 0), (CH_LBSTAT.REC, 1)]) s
      State.settle site t fuel (pop (s.modSeq site (fun q => { q with recording := true, attrs := [] })))
    | .recEnd :: _ =>
      let s := forAll (s.engines site) (fun e s => s.wr CH_LBSTAT.REC 0 e) s
      State.settle site t fuel (pop (s.modSeq site (fun q => { q with recording := false })))
    | .sectionStart tol :: _ =>
      State.settle site t fuel (pop (s.modSeq site (fun q => { q with tol := tol, lastSeen := true, secRing := false })))
    | .sectionEnd :: _ =>
      if q.rpos = 0 ∧ q.lastSeen then State.settle site t fuel (pop s)
      else s.mismatch site (s.vaNow site)
    | .halt code err :: _ =>
      if s.site site = stRunning then s.siteDone site code err (t / 1250) else s
    | .waitx _ first bound hit _ _ :: _ =>
      match q.outcome d hit (first + bound) true with
      | some timeout => State.settle site t fuel (s.decided site timeout)
      | none => s
    | .matchLoop _ first len max hit _ :: _ =>
      if (q.vk - first) % len ≠ 0 then s
      else match q.outcome d hit (first + len * max) false with
        | some timeout => State.settle site t fuel (s.decided site timeout)
        | none => s
    | .sync ring bar _ rel :: _ =>
      if ¬ q.arrived then (if s.site site = stRunning then s.arriveSync site (t / 1250) ring bar else s)
      else match rel with
        | some r =>
          if (r + 48) * 1250 ≤ q.cyc then
            let q' := { q with queue := q.queue.tail }
            State.settle site t fuel (s.modSeq site (fun q => { q with
              queue := q'.queue, gate := false, arrived := false, issued := q.vk + q'.queued }))
          else s
        | none => s
    | _ => s

/-! ## The next vector -/

/-- What the issue stage found. -/
inductive Pick where
  /-- a vector: its description, the codes' source, whether it is a replay, whether its slot counts as wasted -/
  | vector (v : Vec) (src : Source) (replay : Option Nat) (wasted : Bool)
  /-- a pad cycle: its slot event (3 front-starved, 4 back-starved) and cause event (5 QUEUE, 6 RING, 7 STORE) -/
  | pad (cls cause : Nat)
  /-- a frame check failed -/
  | mismatch (va : Nat)
  deriving DecidableEq, Repr

/-- The tick of the report of R180 for the site's next cycle, 16 ticks before its issue stage; what arrives in it counts as
absent. -/
def Seq.reportTick (q : Seq) : Nat := q.cyc / 1250 - 64

/-- A code is at the head of a buffer in time for a report. -/
def heldBy (rep : Nat) (cs : List Code) : Bool := cs.head?.any (fun c => decide (c.at_ < rep))

/-- Engine `e` reports that it holds the next code of a source (R180). -/
def State.holds (s : State) (rep e : Nat) (src : Source) : Bool :=
  match src with
  | .stored => heldBy rep (s.chan e).fifo
  | .ring => heldBy rep (s.chan e).ringCodes
  | .held => true

/-- Every engine of the site holds the next code (R180). -/
def State.haveCodes (s : State) (site : Nat) (src : Source) : Bool :=
  (s.engines site).all (fun e => s.holds (s.seq site).reportTick e src)

/-- A bundle had reached the engines by the report (R178, R180). -/
def Seq.reached (q : Seq) (dlv : Option Nat) : Bool := dlv.any (fun t => decide (t < q.reportTick))

/-- What the engines report for the next bundle (R180): CH_STRMSTAT.LACK. -/
def State.reportLack (s : State) (site : Nat) : State :=
  let rep := (s.seq site).reportTick
  match (s.seq site).queue with
  | .bundle .held .. :: _ => s
  | .bundle src .. :: _ => forAll (s.engines site) (fun e s => s.flag CH_STRMSTAT.LACK (!s.holds rep e src) e) s
  | _ => s

/-- The vector that the issue stage finds, or why it finds none (R20, R180, R365, R366). -/
def State.pick (s : State) (site : Nat) : Pick :=
  let q := s.seq site
  match q.queue with
  | .bundle .ring _ v _ dlv :: _ =>
    let frameBad : Bool := match q.frames with
      | f :: _ => q.rpos == 0 && (f.va != v.va || (q.lastSeen && q.secRing))
      | [] => false
    if frameBad then .mismatch v.va
    else if ¬ q.frames.isEmpty ∧ q.reached dlv ∧ s.haveCodes site .ring then .vector v .ring none false
    else .pad 3 6
  | .bundle src _ v _ dlv :: _ =>
    if q.reached dlv ∧ s.haveCodes site src then .vector v src none false else .pad 3 7
  | .replay lo hi _ pos dlv :: _ =>
    let i := lo + pos % max 1 (hi - lo)
    if q.reached dlv then .vector (q.attrs.getD i {}) .held (some i) false else .pad 3 7
  | .matchLoop _ first len _ _ dlv :: _ =>
    let i := (q.vk - first) % max 1 len
    if q.reached dlv then .vector (q.attrs.getD i {}) .held (some i) true else .pad 3 7
  | .waitx _ _ _ _ h dlv :: _ => if q.reached dlv then .vector h .held none true else .pad 3 7
  | .sync .. :: _ => .pad 4 0
  | _ => .pad 3 5

/-- What a vector attaches, once its first vector has played. -/
def Vec.plain (v : Vec) : Vec := { v with capc := 0, event := none, mark := none, failMark := false }

/-- The head item after one vector of it has played. -/
def Item.advance : Item → Option Item
  | .bundle src n v inh dlv =>
    if n ≤ 1 then none else some (.bundle src (n - 1) { v.plain with va := if src = .held then v.va else v.va + 1 } inh dlv)
  | .replay lo hi times pos dlv => if (hi - lo) * times ≤ pos + 1 then none else some (.replay lo hi times (pos + 1) dlv)
  | .waitx c f b h v dlv => some (.waitx c f b h v.plain dlv)
  | it => some it

/-! ## Playing -/

/-- The tick in which the lookup stage of the site's next cycle begins (Table 1-3). -/
def Seq.lookupTick (q : Seq) : Nat := q.cyc / 1250 - 32

/-- The period of the site's Facet `f` for the next cycle, from its first channel (R76). -/
def State.periodOf (s : State) (site f : Nat) : Nat :=
  match s.channels site with
  | n :: _ => (s.facetAt n f (s.seq site).lookupTick).period
  | [] => 0

/-- The code an engine takes for the vector, and the engine after it. -/
def State.takeCode (s : State) (e : Nat) (src : Source) (replay : Option Nat) (record : Bool) : Nat × State :=
  let c := s.chan e
  let head (cs : List Code) : Nat := (cs.head?.map (·.code)).getD 0
  let code := match replay with
    | some i => c.loopBuf.getD i 0
    | none => match src with
      | .stored => head c.fifo
      | .ring => head c.ringCodes
      | .held => c.lastCode
  let s := s.modChan e (fun c => { c with
    fifo := if replay.isNone ∧ src = .stored then c.fifo.tail else c.fifo,
    ringCodes := if replay.isNone ∧ src = .ring then c.ringCodes.tail else c.ringCodes,
    lastCode := code, loopBuf := if record then c.loopBuf ++ [code] else c.loopBuf })
  let s := if record then s.wr CH_LBSTAT.COUNT (s.rd CH_LBSTAT.COUNT e + 1) e else s
  (code, State.prefetch e (s.flag CH_LBSTAT.REPLAY replay.isSome e))

/-- The reduction network's bits of a vector (Table 3-4): SFAIL, SPASS, ANYM, ALLM and SFM in bits 0–4. -/
def reduce (js : List Judge) (sfmBefore mark : Bool) : Nat × Bool :=
  let cs := js.filter (·.judged)
  let sfail := cs.any (·.fail)
  let anym := cs.any (!·.fail)
  let allm := !cs.isEmpty && cs.all (!·.fail)
  let sfm := sfail || (sfmBefore && !mark)
  (b2n sfail + 2 * b2n (!cs.isEmpty && !sfail) + 4 * b2n anym + 8 * b2n allm + 16 * b2n sfm, sfm)

/-- Events every slot counts, whatever its class: the slot and the Facet switch (R365, R368). -/
def State.countSlot (s : State) (site cls facet : Nat) : State :=
  let q := s.seq site
  let s := (s.pmSlot site).pm site cls 1
  s.pm site 0x0A (b2n (q.played && q.lastVec.facet != facet))

/-- SQ_COND shows the reduction network's bits of a vector. -/
def State.showCond (s : State) (site red : Nat) : State :=
  s.wrs site [(SQ_COND.SFAIL, bits red 0 1), (SQ_COND.SPASS, bits red 1 1), (SQ_COND.ANYM, bits red 2 1),
    (SQ_COND.ALLM, bits red 3 1), (SQ_COND.SFM, bits red 4 1)]

/-- The shadowing engines of the groups of a site's channels have played one cycle more (R319). -/
def State.countShadow (s : State) (site : Nat) : State :=
  ((s.channels site).filter (fun n => (s.shadowEngine n).isSome)).foldl
    (fun s n => s.modCal (groupOf n) (fun c => { c with cycles := c.cycles + 1 })) s

/-- One channel in a vector cycle: the engine at the pad plays, judges and counts; an engine that only shadows plays the same
vector and counts nothing (R19, R229, R318). -/
def State.playChannel (s : State) (site n : Nat) (v : Vec) (src : Source) (replay : Option Nat) (period : Nat)
    (moves : List LineMove) : Judge × State :=
  let q := s.seq site
  let u : Turn := ⟨s.padEngine n, n, q.cyc, period, true, moves⟩
  let shadow := s.shadowEngine n
  let (code, s) := s.takeCode u.e src replay q.recording
  let f := s.facetAt u.e v.facet q.lookupTick
  let (j, s) := s.playVector u v.facet f code
  let s := s.countJudge site u f.burst code v replay.isSome j
  match shadow with
  | none => (j, s)
  | some e =>
    let (code, s) := s.takeCode e src replay q.recording
    (j, (s.playVector { u with e := e, counts := false } v.facet (s.facetAt e v.facet q.lookupTick) code).2)

/-- A vector cycle of the site. `ext` are the lines at the end of the cycle, where they are sampled for it (R83). On a
cross-chip site the votes form its conditions later (R358). -/
def State.playVectorCycle (s : State) (site : Nat) (v : Vec) (src : Source) (replay : Option Nat) (wasted : Bool)
    (ext : ExtLines) (moves : List LineMove) : State :=
  let q := s.seq site
  let start := q.cyc
  let v := if q.vk = 0 then { v with failMark := true } else v
  let s := s.issueCms site
  let period := s.periodOf site v.facet
  let record := q.recording
  let r := (s.channels site).foldl (fun (acc : List Judge × State) n =>
    let (j, s) := acc.2.playChannel site n v src replay period moves
    (if bit (s.rd CH_CMSMASK.MEMBER n) v.cms then acc.1 ++ [j] else acc.1, s)) ([], s)
  let (red, sfm) := reduce r.1 q.sfm v.failMark
  let s := r.2.countShadow site
  let cross := 1 < s.rd SQ_STATE.CHIPS site
  let s := if cross then s else s.showCond site red
  let s := s.wrs site [(SQ_COND.TRIG, ext.trig.toNat), (SQ_COND.XTRIG, ext.xtrig.toNat), (SQ_COND.SUPMON, ext.supmon.toNat)]
  let s := s.countSlot site (if wasted then 2 else 1) v.facet
  let s := (s.pm site 0x08 (b2n replay.isSome)).pm site 0x09 (if cross then 0 else bits red 0 1)
  let ringEnd := decide (src = .ring) && q.frames.head?.any (fun f => f.count ≤ q.rpos + 1)
  let s := s.modSeq site (fun q => { q with
    cyc := start + period, vk := q.vk + 1, played := true, lastVec := v, fresh := some (condWord red ext),
    playedEnd := if src = .stored ∧ replay.isNone then some (v.va + 1) else q.playedEnd,
    sfm := if cross then q.sfm else sfm,
    sfailRun := q.sfailRun || bit red 0, episode := if src = .ring then false else q.episode,
    attrs := if record then q.attrs ++ [{ v with failMark := false }] else q.attrs,
    rpos := if src = .ring then (if ringEnd then 0 else q.rpos + 1) else q.rpos,
    lastSeen := if src = .ring then (if ringEnd then q.frames.head?.any (·.last) else false) else q.lastSeen,
    frames := if ringEnd then q.frames.tail else q.frames,
    secRing := q.secRing || decide (src = .ring),
    queue := match q.queue with
      | it :: rest => (match it.advance with | some it => it :: rest | none => rest)
      | [] => [],
    lastCycle := ⟨start, false, v, condWord red ext⟩ })
  if src = .ring then s.wr SQ_SRSTAT.INPAD 0 site else s

/-- A pad cycle of the site (R20, R217). -/
def State.playPadCycle (s : State) (site cls cause : Nat) (moves : List LineMove) : State :=
  let q := s.seq site
  let start := q.cyc
  let f := if q.played then q.lastVec.facet
    else match q.queue.find? (fun | .bundle .. => true | _ => false) with
      | some (.bundle _ _ v _ _) => v.facet
      | _ => q.facet
  let period := s.periodOf site f
  let s := (s.channels site).foldl (fun s n =>
    let u : Turn := ⟨s.padEngine n, n, start, period, true, moves⟩
    let shadow := s.shadowEngine n
    let s := s.playPad u f (s.facetAt u.e f q.lookupTick)
    match shadow with
    | none => s
    | some e => s.playPad { u with e := e, counts := false } f (s.facetAt e f q.lookupTick)) s
  let s := (s.countShadow site).countSlot site cls f
  let s := s.pm site cause 1
  s.modSeq site (fun q => { q with cyc := start + period, lastCycle := ⟨start, true, { q.lastVec with facet := f }, 0⟩ })

/-- The cycle plays what its issue stage found (R20, R195–R197). -/
def State.playPick (s : State) (site : Nat) (ext : ExtLines) (moves : List LineMove) : State :=
  match s.pick site with
  | .vector v src replay wasted => s.playVectorCycle site v src replay wasted ext moves
  | .mismatch va => s.mismatch site va
  | .pad cls cause =>
    if cause = 6 then
      let s := if (s.seq site).episode then s else s.beginEpisode site (s.vaNow site) (!s.padPolicy site)
      if s.padPolicy site then
        ((s.wr SQ_SRSTAT.INPAD 1 site).inc SQ_SRPAD.PAD site).playPadCycle site cls cause moves
      else s.abortUnderrun site
    else s.playPadCycle site cls cause moves

/-- One cycle of the site's grid. The step stands at the cycle's select stage, 16 ticks before its start: the report of R180
(−64), the issue stage (−48) and the lookup stage (−32) lie behind it and are taken at their own ticks, the branch decision
at this one (R18). Nothing plays after a halt cause except the cycles whose issue stage had begun (R90). -/
def State.vectorCycle (s : State) (site : Nat) (ext : ExtLines) (moves : List LineMove) : State :=
  let q := s.seq site
  if ¬ s.playing site ∨ ¬ q.started ∨ q.vecEnd then s
  else
    let s := { s with ext := ext }
    let moves := s.atStrobes moves
    let s := (s.reach (q.cyc / 1250 - 16)).finishCond site
    if s.site site ≠ stRunning ∧ (q.haltAt + 48) * 1250 < q.cyc then s.stopVectors site
    else
      let fuel := q.queue.length + 8
      let s := State.settle site q.cyc fuel (s.decideBranch site)
      if ¬ s.playing site ∨ (s.seq site).vecEnd then s
      else
        let s := (s.reportLack site).playPick site ext moves
        let q := s.seq site
        if q.vecEnd then s else State.settle site q.cyc (q.queue.length + 2) s

/-! ## Delivery (R178, R179, R183, R194) -/

/-- An item that has not reached the engines, with the tick of its arrival. -/
def Item.arrive (t : Nat) : Item → Option Item
  | .bundle src n v inh none => some (.bundle src n v inh (some t))
  | .replay lo hi times pos none => some (.replay lo hi times pos (some t))
  | .matchLoop c first len max hit none => some (.matchLoop c first len max hit (some t))
  | .waitx c first bound hit v none => some (.waitx c first bound hit v (some t))
  | _ => none

/-- The oldest item not yet delivered: what stands before it, and the list with it delivered. -/
def deliverFirst (t : Nat) : List Item → Option (List Item × Item × List Item)
  | [] => none
  | it :: rest =>
    match it.arrive t with
    | some it' => some ([], it', it' :: rest)
    | none => (deliverFirst t rest).map (fun p => (it :: p.1, p.2.1, it :: p.2.2))

/-- The VA behind the last run vector among the first `k` vectors of `items`; `prev` is the one behind what has played. -/
def vaBehind (k : Nat) (prev : Option Nat) : List Item → Option Nat
  | [] => prev
  | it :: rest =>
    if k = 0 then prev
    else match it with
      | .bundle .stored n v _ _ => if n ≤ k then vaBehind (k - n) (some (v.va + n)) rest else some (v.va + k)
      | _ => vaBehind (k - it.vectors) prev rest

/-- A stored run among the items plays beyond the first `k` vectors. -/
def runBeyond (k : Nat) : List Item → Bool
  | [] => false
  | it :: rest =>
    match it with
    | .bundle .stored n _ _ _ => decide (k < n) || runBeyond (k - n) rest
    | _ => runBeyond (k - it.vectors) rest

/-- The site fabric delivers the oldest undelivered bundle to every engine of the site (R178). The first run bundle of the
fall-through path beyond a pending branch point, if it is a discontinuity, takes an entry of the branch-target buffer, and
what follows it waits with it; the target path's first run bundle likewise, once the shadow is complete, unless it follows
the shadow's last VA (R183). -/
def State.deliver (s : State) (site : Nat) : State :=
  let q := s.seq site
  let walk (va n : Nat) (s : State) : State := forAll (s.engines site) (fun e s =>
    State.prefetch e (s.modChan e (fun c => { c with walk := c.walk ++ [(va, n)] }))) s
  match deliverFirst s.tt q.queue with
  | some (before, it, queue) =>
    let s := s.modSeq site (fun q => { q with queue := queue })
    match it with
    | .bundle .stored n v _ _ =>
      let ahead := (before.map Item.vectors).sum
      let disc : Bool := decide (vaBehind ahead q.playedEnd before ≠ some v.va)
      let first : Bool := match q.brc with
        | some b => let k := b.ref + s.rd SQ_DLAT.D site - q.vk
          decide (k ≤ ahead) && !runBeyond k before
        | none => false
      if q.heldRuns ≠ [] ∨ (first ∧ disc) then
        let s := if q.heldRuns = [] then forAll (s.engines site) (State.requestEntry 1 v.va) s else s
        s.modSeq site (fun q => { q with heldRuns := q.heldRuns ++ [(v.va, n)] })
      else walk v.va n s
    | _ => s
  | none =>
    match q.brc with
    | none => s
    | some b =>
      if q.issued - b.ref - 1 < s.rd SQ_DLAT.D site - 1 then s
      else match deliverFirst s.tt b.target with
      | none => s
      | some (_, it, target) =>
        let s := s.modSeq site (fun q => { q with brc := some { b with target := target } })
        match it with
        | .bundle .stored n v _ _ =>
          if ¬ (runsOf b.target).isEmpty then s
          else if vaBehind (b.ref + s.rd SQ_DLAT.D site - q.vk) q.playedEnd q.queue = some v.va then walk v.va n s
          else forAll (s.engines site) (State.requestEntry 2 v.va) s
        | _ => s

/-- An engine of the site reads its segment of the next complete ring frame, if the stream buffer has room for it; SQ_SRRD
advances once every engine of the site has read the frame (R189, R194). -/
def State.readSegment (s : State) (e : Nat) : State :=
  let n := s.playsFor e
  match s.siteOf n with
  | none => s
  | some site =>
    let c := s.chan e
    let held := (s.rd SQ_SRWR.WR site + 2 ^ 32 - c.ringRead) % 2 ^ 32
    let flen := s.rd SQ_SRFLEN.FLEN site
    let base := s.rd SQ_SRBASE.BASE site * 256 + (c.ringRead % max 1 (s.rd SQ_SRSIZE.FRAMES site)) * flen
    let head := s.vmem.readN base 32
    let count := field head 4 2
    let ok := (s.engines site).contains e ∧ s.on SQ_SRSTAT.OPEN site ∧ held ≠ 0 ∧ held ≤ 65536 ∧ count ≤ c.room
    if ¬ ok then s
    else
      let before := (s.channels site).takeWhile (· ≠ n)
      let off := 32 + (before.map (fun m => if s.on CH_STRMCFG.WIDTH m then 256 else 128)).sum
      let wide := s.on CH_STRMCFG.WIDTH n
      let codes := (List.range count).map (fun k => (⟨0,
        if wide then (s.vmem.read (base + off + k)).toNat
        else bits (s.vmem.read (base + off + k / 2)).toNat (4 * (k % 2)) 4, s.tt⟩ : Code))
      let newFrame := (s.engines site).all (fun x => (s.chan x).ringRead = c.ringRead ∨
        (c.ringRead + 2 ^ 32 - (s.chan x).ringRead) % 2 ^ 32 < 65536)
      let s := s.modChan e (fun c => { c with ringCodes := c.ringCodes ++ codes, ringRead := (c.ringRead + 1) % 2 ^ 32 })
      let s := if newFrame then s.modSeq site (fun q => { q with
        frames := q.frames ++ [⟨field head 8 5, count, bit (field head 6 1) 0⟩] }) else s
      if (s.engines site).all (fun x => (s.chan x).ringRead ≠ s.rd SQ_SRRD.RD site) then s.bump SQ_SRRD.RD site else s

/-! ## The arms that need nothing else -/

/-- BUNDLE_DELIVERY: R178. -/
def execBundleDelivery (site : Fin 64) (s : State) : Host.Outcome State Fault Refusal := .next (s.deliver site)

/-- STREAM_SEGMENT_READ: R194. -/
def execStreamSegmentRead (unit : Fin 532) (s : State) : Host.Outcome State Fault Refusal := .next (s.readSegment unit)

/-- RUN_START: the run's cycle grid begins at its start time T_0 (R181, R210). -/
def execRunStart (site : Fin 64) (s : State) : Host.Outcome State Fault Refusal :=
  let q := s.seq site
  if s.busySite site ∧ ¬ q.started ∧ ¬ q.waitBarrier ∧ ¬ q.vecEnd then
    let t0 := s.rd SQ_RUNT.T site
    .next (s.modSeq site (fun q => { q with started := true, cyc := t0 * 1250 }))
  else .next s

end Sys2Proof.Machine
end

