-- ==== Sys2Proof/Machine/Site.lean ====
section
/-!
DEFINITION. The site commands (03, 04, 06, 07, 08): binding, patterns, halts, stream rings, Facets, compare mask sets.
RUN stands in Run.lean, microcode in Ucode.lean.
-/
namespace Sys2Proof.Machine

/-! ## Binding (R72–R78) -/

/-- The SITE byte of a descriptor. -/
def siteByte (d : Desc) : Nat := d.site.toNat

/-- The channels a 64-byte bitmap names (R64). -/
def mapChannels (map : Nat) : List Nat := bitList 512 map

/-- Decision latency (R77, R78): `tx` is the ring round trip in steps. -/
def decisionLatency (span : Bool) (k pmin : Nat) : Nat :=
  if k ≤ 1 then (if span then 32 else 24)
  else 32 + ceilDiv (2 * (k - 1) * 48000 + 64000) pmin

/-- SITE_BIND: R72, R73, R231, R408. -/
def siteBind (c : Consumed) (_id : Nat) (p : Bytes) (s : State) : Act :=
  let i := siteByte c.d
  let map := le p
  let pmin := par c.d 24 4
  let k := par c.d 28 1
  let ns := mapChannels map
  let e := Tab.get {} s.ring.entries i
  if s.site i ≠ stUnbound then refuse refusedState s
  else if c.d.length.toNat ≠ 64 ∨ ns = [] ∨ pmin < 2500 ∨ k = 0 ∨ 4 < k then refuse badParam s
  else if s.fenced (532 + i) ∨ ns.any s.fenced then refuse fencedCode s
  else if ns.any (fun n => (s.siteOf n).isSome) then refuse 0x0201 s
  else if 2 ≤ k ∧ ¬ (e.k = k ∧ e.pmin = pmin) then refuse notReady s
  else if ns.any (fun n => s.gated (groupOf n)) then refuse notReady s
  else
    let span := ns.any (fun n => n / 128 != i / 16)
    let d := decisionLatency span k pmin
    let s := (List.range 16).foldl (fun s w => s.wr SQ_CHMAP.MAP (bits map (32 * w) 32) i w) s
    let s := forAll ns (fun n s => s.writeChannel n s.tt .bind) s
    let s := s.wrs i [(SQ_PMIN.PMIN, pmin), (SQ_STATE.CHIPS, k), (SQ_STATE.QSPAN, b2n span), (SQ_DLAT.D, d),
      (SQ_STATE.STATE, stIdle), (SQ_XSITE.RINGOK, b2n (decide (2 ≤ k)))]
    success (toLe 2 d) s

/-- A job in any context names the site (R59). -/
def State.siteJob (s : State) (i : Nat) (ops : List Nat) : Bool :=
  s.mbx.jobs.any (fun j => j.cmd.d.site.toNat == i && (ops.isEmpty || ops.contains j.cmd.op))

/-- SITE_UNBIND: R74, R89, R231. -/
def siteUnbind (c : Consumed) (s : State) : Act :=
  let i := siteByte c.d
  if s.busySite i then refuse refusedState s
  else if s.siteJob i [] then refuse busy s
  else if s.site i = stUnbound then success [] s
  else
    let ns := s.channels i
    let s := forAll ns (fun n s => s.writeChannel n s.tt .unbind) (s.endDrain i)
    let s := (List.range 16).foldl (fun s w => s.wr SQ_CHMAP.MAP 0 i w) s
    let s := s.wrs i [(SQ_STATE.STATE, stUnbound), (SQ_STATE.CHIPS, 0), (SQ_STATE.QSPAN, 0), (SQ_DLAT.D, 0),
      (SQ_XSITE.RINGOK, 0), (SQ_SRSTAT.OPEN, 0), (SQ_SRSTAT.STALE, 0), (SQ_SRSIZE.FRAMES, 0)]
    success [] (s.modSeq i (fun q => { q with pat := {} }))

/-! ## The pattern object (R143, R144, R175, R176) -/

/-- A channel entry of the stream part. -/
structure StreamEntry where
  chan : Nat
  mode : Nat
  base : Nat
  deriving DecidableEq, Repr

/-- The stream part of a pattern object at byte offset `off`. -/
def streamEntries (p : Bytes) (off : Nat) : List StreamEntry :=
  (List.range (field p (off + 6) 2)).map (fun k =>
    let o := off + 16 + 16 * k
    ⟨field p o 2, field p (o + 2) 1, field p (o + 8) 8⟩)

/-- The streamed spans of a pattern object: first VA and count. -/
def streamSpans (p : Bytes) (off : Nat) : List (Nat × Nat) :=
  let e := field p (off + 6) 2
  (List.range (field p (off + 8) 2)).map (fun j =>
    let o := off + 16 + 16 * e + 16 * j
    (field p o 5, field p (o + 8) 5))

/-- Spans lie at or above N_s, in ascending order, apart, and end below 2^40: the end, first VA and count added, is taken as
the VA behind the span (DESIGN CHOICE, log entry 85). -/
def spansOk : (low : Nat) → List (Nat × Nat) → Bool
  | _, [] => true
  | low, (a, n) :: rest => low ≤ a && 1 ≤ n && a + n < 2 ^ 40 && spansOk (a + n) rest

/-- Order 1 of Table 4-9. A non-zero PIOFF with INPLACE, which Table 4-8 gives as 0, and an INSTBASE above bit 35 are refused
here (DESIGN CHOICE, log entry 85). -/
def objectOk (p : Bytes) : Bool :=
  let len := p.length
  let inplace := bit (field p 1 1) 0
  let npi := field p 8 4
  let pioff := field p 12 4
  let base := field p 16 8
  let so := field p 24 4
  let sl := field p 28 4
  let e := field p (so + 6) 2
  let k := field p (so + 8) 2
  64 ≤ len && field p 0 1 == 1 && field p 1 1 < 4 && zeroAt p 6 2 && zeroAt p 37 27 && npi ≠ 0
    && 24 ≤ field p 2 2 && field p 2 2 ≤ 173 && pioff % 8 == 0 && base % 8 == 0 && base < 2 ^ 36 && so % 8 == 0
    && (!inplace || pioff == 0)
    && (inplace || (64 ≤ pioff && pioff + 8 * npi ≤ len && (pioff + 8 * npi ≤ so || so + sl ≤ pioff)))
    && 64 ≤ so && 16 ≤ sl && so + sl ≤ len
    && 2500 ≤ field p 32 4 && field p 36 1 ≤ 1 && sl == 16 + 16 * (e + k)
    && zeroAt p (so + 5) 1 && zeroAt p (so + 10) 6 && field p so 5 ≠ 0 && k ≤ 64
    && (List.range e).all (fun j => zeroAt p (so + 16 + 16 * j + 3) 5)
    && (streamEntries p so).all (fun x => x.mode ≤ 1 && x.base < 2 ^ 36 && x.base % 64 == 0)
    && (List.range k).all (fun j => zeroAt p (so + 16 + 16 * e + 16 * j + 5) 3 && zeroAt p (so + 16 + 16 * e + 16 * j + 13) 3)
    && spansOk (field p so 5) (streamSpans p so)

/-- Bytes of `n` vectors in a stream mode. -/
def streamBytes (n mode : Nat) : Nat := ceilDiv (n * (if mode = 0 then 4 else 8)) 8

/-- `[base, base + len)` lies within one allocation of the channel's group (R37, R176). -/
def State.streamPlaced (s : State) (x : StreamEntry) (ns : Nat) : Bool :=
  s.allocated x.base (streamBytes ns x.mode) && x.base / regionSize == groupOf x.chan

/-- PATTERN_LOAD: R89, R143, R144, R176. -/
def patternLoad (c : Consumed) (_id : Nat) (p : Bytes) (s : State) : Act :=
  let i := siteByte c.d
  let st := s.site i
  let flags := par c.d 24 1
  let replace := bit flags 0
  let so := field p 24 4
  let es := streamEntries p so
  let ns := field p so 5
  let npi := field p 8 4
  let base := field p 16 8
  let inplace := bit (field p 1 1) 0
  let mine := s.channels i
  if ¬ (st = stIdle ∨ (replace ∧ (st = stLoaded ∨ st = stDone ∨ st = stHalted ∨ st = stInvalid))) then refuse refusedState s
  else if 1 < flags then refuse badParam s
  else if ¬ objectOk p then refuse badParam s
  else if ¬ s.allocated base (8 * npi) then refuse outOfRange s
  else if es.length ≠ mine.length ∨ ¬ mine.all (fun n => es.any (fun x => x.chan == n)) then refuse badParam s
  else if ¬ es.all (fun x => s.streamPlaced x ns) then refuse outOfRange s
  else if s.on SQ_SRSTAT.OPEN i ∧ es.any (fun x => s.rd CH_STRMCFG.WIDTH x.chan ≠ x.mode) then refuse busy s
  else
    let pis := (p.drop (field p 12 4)).take (8 * npi)
    let cust := bit (field p 1 1) 1 || (!inplace && (List.range npi).any (fun n => 0xC0 ≤ field pis (8 * n + 7) 1))
    let s := if inplace then s else { s with vmem := s.vmem.writeN base pis }
    let s := es.foldl (fun s x => s.wrs x.chan
      [(CH_STRMBASE.BASE, x.base / 64), (CH_STRMCFG.WIDTH, x.mode), (CH_STRMCFG.VALID, 1)]) s
    let s := s.wrs i [(SQ_INSTBASE.BASE, base), (SQ_STATE.STATE, stLoaded)]
    let s := s.modSeq i (fun q => { q with pat := ⟨field p 2 2, sgn 16 (field p 4 2), npi, ns, streamSpans p so, cust⟩ })
    .done ok (toLe 2 (field p 2 2) ++ toLe 2 (field p 4 2) ++ toLe 4 npi) [] s

/-! ## HALT and SITE_STATUS (R59, R88, R89) -/

/-- The RUN jobs of a site that have not put it in RUNNING end with ABORTED: queued ones and ones that wait (R59). -/
def State.abortRun (s : State) (i : Nat) : State :=
  (s.mbx.jobs.filter (fun j => j.runsSite i && !s.startWaits j)).foldl (fun s j => s.finishJob j aborted [] []) s

/-- HALT: R65, R89. -/
def haltCmd (c : Consumed) (s : State) : Act :=
  let i := siteByte c.d
  let s := (if s.site i = stRunning then s.postHalt i 0 else s).abortRun i
  success (toLe 1 (s.site i)) s

/-- Site-fail and under-run bits of SITE_STATUS byte 13. -/
def State.siteBits (s : State) (i : Nat) : Nat := b2n (s.seq i).sfailRun + 2 * s.rd SQ_SRSTAT.UR i

/-- SITE_STATUS: R88. -/
def siteStatus (c : Consumed) (s : State) : Act :=
  let i := siteByte c.d
  success (toLe 1 (s.site i) ++ toLe 1 (s.siteBits i) ++ zeros 2 ++ toLe 4 (s.rd SQ_IA.IA i) ++ toLe 5 (s.vaNow i)) s

/-! ## Stream rings (R189–R193) -/

/-- F_b of a site's channels in their stream modes (R189). -/
def State.frameBytes (s : State) (i : Nat) : Nat :=
  32 + ((s.channels i).map (fun n => if s.on CH_STRMCFG.WIDTH n then 256 else 128)).sum

/-- STREAM_OPEN: R191. -/
def streamOpen (c : Consumed) (s : State) : Act :=
  let i := siteByte c.d
  let base := par c.d 24 8
  let size := par c.d 32 4
  let pol := par c.d 36 1
  let fb := s.frameBytes i
  let m := size / fb
  if ¬ [stLoaded, stRunning, stDone, stHalted].contains (s.site i) then refuse refusedState s
  else if s.on SQ_SRSTAT.OPEN i then refuse busy s
  else if base % 256 ≠ 0 ∨ size % fb ≠ 0 ∨ m < 2 ∨ 65536 < m ∨ 2 ^ 30 < size ∨ 1 < pol then refuse badParam s
  else if ¬ s.allocated base size then refuse outOfRange s
  else
    let s := s.wrs i [(SQ_SRBASE.BASE, base / 256), (SQ_SRSIZE.FRAMES, m), (SQ_SRFLEN.FLEN, fb), (SQ_SRWR.WR, 0),
      (SQ_SRRD.RD, 0), (SQ_SRSTAT.OPEN, 1), (SQ_SRSTAT.POLICY, pol), (SQ_SRSTAT.STALE, 0)]
    let busy := s.playing i
    let s := forAll (s.engines i) (fun e s => s.modChan e (fun c => { c with
      ringRead := 0, ringCodes := if busy then c.ringCodes else [] })) s
    success [] (s.modSeq i (fun q => { q with frames := if busy then q.frames else [], rpos := if busy then q.rpos else 0 }))

/-- One frame of a push is well formed (R189, R190, Table 6-4). -/
def State.frameOk (s : State) (i seq : Nat) (f : Bytes) : Bool :=
  let vc := field f 4 2
  let flags := field f 6 1
  let ns := s.channels i
  let segs := ns.foldl (fun (acc : Nat × Bool) n =>
    let wide := s.on CH_STRMCFG.WIDTH n
    let sz := if wide then 256 else 128
    let from_ := if wide then vc else ceilDiv vc 2
    (acc.1 + sz, acc.2 && zeroAt f (acc.1 + from_) (sz - from_))) (32, true)
  field f 0 4 == seq % 2 ^ 32 && 1 ≤ vc && vc ≤ 256 && (vc == 256 || bit flags 0) && flags ≤ 1 && zeroAt f 7 1
    && zeroAt f 13 3 && field f 16 2 == ns.length && zeroAt f 18 2 && field f 20 4 == s.rd SQ_SRFLEN.FLEN i
    && zeroAt f 24 8 && segs.2

/-- Bytes free in the ring. -/
def State.ringFree (s : State) (i : Nat) : Nat :=
  (s.rd SQ_SRSIZE.FRAMES i - (s.rd SQ_SRWR.WR i + 2 ^ 32 - s.rd SQ_SRRD.RD i) % 2 ^ 32) * s.rd SQ_SRFLEN.FLEN i

/-- STREAM_PUSH: R192. -/
def streamPush (c : Consumed) (_id : Nat) (p : Bytes) (s : State) : Act :=
  let i := siteByte c.d
  let fb := s.rd SQ_SRFLEN.FLEN i
  let n := p.length / max 1 fb
  let frame (k : Nat) : Bytes := (p.drop (k * fb)).take fb
  let no (st : Nat) : Act := .done st (toLe 4 (s.ringFree i)) [] s
  if ¬ s.on SQ_SRSTAT.OPEN i then no refusedState
  else if s.on SQ_SRSTAT.STALE i then no 0x0072
  else if p.length % max 1 fb ≠ 0 ∨ ¬ (List.range n).all (fun k => s.frameOk i (s.rd SQ_SRWR.WR i + k) (frame k)) then
    no badParam
  else if s.ringFree i < p.length then no busy
  else
    let s := (List.range n).foldl (fun s k =>
      let at_ := s.rd SQ_SRBASE.BASE i * 256 + (s.rd SQ_SRWR.WR i % max 1 (s.rd SQ_SRSIZE.FRAMES i)) * fb
      ({ s with vmem := s.vmem.writeN at_ (frame k) }).bump SQ_SRWR.WR i) s
    .done ok (toLe 4 (s.ringFree i)) [] s

/-- Of frames read, those that the next `n` ring vectors need. -/
def framesFor : (n : Nat) → List RingFrame → List RingFrame
  | 0, _ => []
  | _ + 1, [] => []
  | n + 1, f :: fs => f :: framesFor (n + 1 - f.count) fs

/-- Ring vectors that wait in a queue. -/
def ringVectors (items : List Item) : Nat :=
  (items.map (fun | .bundle .ring n _ _ _ => n | _ => 0)).sum

/-- The ring is discarded but for what the ring vectors already issued take (R193). -/
def State.dropRing (s : State) (i : Nat) : State :=
  let q := s.seq i
  let n := ringVectors q.queue
  let keep := if n = 0 then [] else framesFor (q.rpos + n) q.frames
  let codes := (keep.map (·.count)).sum - q.rpos
  let s := forAll (s.engines i) (fun e s => s.modChan e (fun c => { c with ringCodes := c.ringCodes.take codes })) s
  s.modSeq i (fun q => { q with frames := keep, rpos := if n = 0 then 0 else q.rpos })

/-- STREAM_CLOSE: R193. -/
def streamClose (c : Consumed) (s : State) : Act :=
  let i := siteByte c.d
  if ¬ s.on SQ_SRSTAT.OPEN i ∨ s.on SQ_NEST.STRM i then refuse refusedState s
  else if s.siteJob i [0x0208] then refuse busy s
  else
    let s := s.wrs i [(SQ_SRSTAT.OPEN, 0), (SQ_SRSTAT.STALE, 0), (SQ_SRSIZE.FRAMES, 0), (SQ_SRRD.RD, s.rd SQ_SRWR.WR i)]
    success [] (s.dropRing i)

/-! ## Facets (R202–R209) -/

/-- A time word in steps, if it is well formed (R202). -/
def timeWord (w : Nat) : Option Nat :=
  if 1250 ≤ bits w 0 11 ∨ 4194304 < bits w 11 23 ∨ w / 2 ^ 34 ≠ 0 then none else some (bits w 11 23 * 1250 + bits w 0 11)

/-- A step count as a time word. -/
def ofSteps (n : Nat) : Nat := n / 1250 * 2 ^ 11 + n % 1250

/-- The Facet of an image (Table 7-2), apart from its waveform table, if order 1 of Table 7-6 passes. -/
def facetOf80 (p : Bytes) : Option Facet :=
  let tw (off : Nat) : Option Nat := timeWord (field p off 8)
  match tw 0, tw 16, tw 24, tw 32, tw 40, tw 48, tw 56, tw 64, tw 72 with
  | some per, some d0, some d1, some d2, some d3, some c0, some c1, some c2, some c3 =>
    let mode := field p 8 1
    let bdir := field p 9 1
    let pad := field p 10 1
    let en := field p 11 1
    let pos := [d0, d1, d2, d3, c0, c1, c2, c3]
    let posOk := (List.range 8).all (fun k => if bit en k then pos.getD k 0 < per else pos.getD k 0 == 0)
    let periodOk := per == 0 || (if mode = 1 then per == 2500 else 2500 ≤ per && per ≤ 5242880000)
    if p.length = 80 ∧ mode ≤ 1 ∧ bdir ≤ 2 ∧ (mode = 0 → bdir = 0) ∧ pad < 16 ∧ (mode = 1 → pad = 0 ∧ en = 0)
        ∧ zeroAt p 12 4 ∧ periodOk ∧ posOk ∧ (per = 0 → allZero p) then
      some ⟨per, mode == 1, bdir, pad, en, [d0, d1, d2, d3], [c0, c1, c2, c3], List.replicate 16 0⟩
    else none
  | _, _, _, _, _, _, _, _, _ => none

/-- S_D of a channel (R213). -/
def State.driveSpace (s : State) (n : Nat) : Nat :=
  300 + (sgn 11 (s.rd CH_ENTIME.ENON n) - sgn 11 (s.rd CH_ENTIME.ENOFF n)).natAbs

/-- The enabled positions among four, in index order. -/
def enabledPos (en : Nat) (ps : List Nat) : List Nat := (List.range 4).filterMap (fun k => if bit en k then ps[k]? else none)

/-- Consecutive positions ascend by at least `sp`. -/
def spaced (sp : Nat) : List Nat → Bool
  | a :: b :: rest => a + sp ≤ b && spaced sp (b :: rest)
  | _ => true

/-- Order and spacing of R205. -/
def State.edgesOk (s : State) (n : Nat) (f : Facet) : Bool :=
  spaced (s.driveSpace n) (enabledPos (bits f.en 0 4) f.de) && spaced 300 (enabledPos (bits f.en 4 4) f.ce)

/-- The 80-byte image of a Facet. -/
def facetImage (f : Facet) : Bytes :=
  toLe 8 (ofSteps f.period) ++ toLe 1 (b2n f.burst) ++ toLe 1 f.bdir ++ toLe 1 f.padsel ++ toLe 1 f.en ++ zeros 4
    ++ (f.de ++ f.ce).flatMap (fun x => toLe 8 (ofSteps x))

/-- The channels a timing command names (R66). -/
def State.timingChannels (s : State) (d : Desc) : List Nat :=
  if par d 24 2 = 0xFFFF then s.channels (siteByte d) else [par d 24 2]

/-- A write to several channels reaches each at a tick of its own within 10 µs (R208, R209); the response follows the last. -/
def State.writeAll (s : State) (ns : List Nat) (w : HeldWrite) : State :=
  match ns with
  | [n] => s.writeChannel n s.tt w
  | _ =>
    let now := s.tt
    ns.foldl (fun s n =>
      let (r, s) := s.draw
      let t := now + r % 32001
      (s.reach t).writeChannel n t w) s

/-- The write would give a RUNNING site a Facet with differing periods, or one below P_min (R76, order 3). -/
def State.breaksR76 (s : State) (ns : List Nat) (k period : Nat) : Bool :=
  (List.range 64).any (fun i => s.site i == stRunning &&
    (s.channels i).any ns.contains &&
    ((period != 0 && period < s.rd SQ_PMIN.PMIN i)
      || (s.channels i).any (fun m => !ns.contains m && (s.facet m k).period != period)))

/-- FACET_WRITE: R203–R209, R505. While a named channel is copied to or from its Mirror the job waits (R318). -/
def facetWrite (c : Consumed) (_id : Nat) (p : Bytes) (s : State) : Act :=
  let ch := par c.d 24 2
  let k := par c.d 26 1
  let ns := s.timingChannels c.d
  if ns.any s.copying then .wait
  else if ch = 0xFFFF ∧ s.site (siteByte c.d) = stUnbound then refuse refusedState s
  else if (512 ≤ ch ∧ ch ≠ 0xFFFF) ∨ 32 ≤ k then refuse badParam s
  else match facetOf80 p with
    | none => refuse badParam s
    | some f =>
      let changes (n : Nat) : Bool :=
        let o := s.facet n k
        o.period != f.period || o.burst != f.burst || o.bdir != f.bdir
      if ¬ f.burst ∧ ¬ ns.all (fun n => s.edgesOk n f) then refuse 0x0301 s
      else if s.breaksR76 ns k f.period then refuse 0x0202 s
      else if ns.any (fun n => s.running n && changes n) then refuse 0x0302 s
      else success [] (s.writeAll ns (.timing k f))

/-- FACET_READ: R66, R203. -/
def facetRead (c : Consumed) (_id : Nat) (_p : Bytes) (s : State) : Act :=
  let n := par c.d 24 2
  let k := par c.d 26 1
  if n = 0xFFFF ∧ s.site (siteByte c.d) = stUnbound then refuse refusedState s
  else if 512 ≤ n ∨ 32 ≤ k then refuse badParam s
  else if c.d.length.toNat < 144 then refuse outOfRange s
  else
    let f := s.facet n k
    .done ok (toLe 4 144) (facetImage f ++ f.table.flatMap (toLe 4)) s

/-- WAVETABLE_WRITE: R206–R208. -/
def wavetableWrite (c : Consumed) (_id : Nat) (p : Bytes) (s : State) : Act :=
  let ch := par c.d 24 2
  let k := par c.d 26 1
  let ns := s.timingChannels c.d
  let ws := (List.range 16).map (fun j => field p (4 * j) 4)
  let okWord (w : Nat) : Bool := w < 2 ^ 20 && (List.range 4).all (fun j => bits w (8 + 3 * j) 3 != 7)
  if ch = 0xFFFF ∧ s.site (siteByte c.d) = stUnbound then refuse refusedState s
  else if (512 ≤ ch ∧ ch ≠ 0xFFFF) ∨ 32 ≤ k then refuse badParam s
  else if p.length ≠ 64 ∨ ¬ ws.all okWord then refuse badParam s
  else success [] (s.writeAll ns (.table k ws))

/-! ## Compare mask sets (R231, R232) -/

/-- CMS_WRITE: R231, R232. While a channel of the site is copied to or from its Mirror the job waits (R318). -/
def cmsWrite (c : Consumed) (id : Nat) (p : Bytes) (s : State) : Act :=
  let i := siteByte c.d
  let k := par c.d 24 1
  let map := le p
  if (s.channels i).any s.copying then .wait
  else if s.site i = stUnbound then refuse refusedState s
  else if p.length ≠ 64 ∨ 15 < k ∨ ¬ (mapChannels map).all (s.channels i).contains then refuse badParam s
  else if s.site i = stRunning then
    .later (s.modSeq i (fun q => { q with cmsStage := q.cmsStage ++ [⟨id, k, map⟩] }))
  else success [] (s.applyCms i k map)

/-! ## Commands -/

/-- SITE_BIND: R73. -/
def execSiteBind (d : Desc) (p : Bytes) (s : State) : Host.Outcome State Fault Refusal := .next (s.serveJob 0x0200 d p siteBind)

/-- SITE_UNBIND: R74. -/
def execSiteUnbind (d : Desc) (s : State) : Host.Outcome State Fault Refusal := .next (s.serve 0x0201 d siteUnbind)

/-- PATTERN_LOAD: R144. -/
def execPatternLoad (d : Desc) (p : Bytes) (s : State) : Host.Outcome State Fault Refusal :=
  .next (s.serveJob 0x0202 d p patternLoad)

/-- HALT: R65. -/
def execHalt (d : Desc) (s : State) : Host.Outcome State Fault Refusal := .next (s.serve 0x0205 d haltCmd)

/-- SITE_STATUS: R88. -/
def execSiteStatus (d : Desc) (s : State) : Host.Outcome State Fault Refusal := .next (s.serve 0x0206 d siteStatus)

/-- STREAM_OPEN: R191. -/
def execStreamOpen (d : Desc) (s : State) : Host.Outcome State Fault Refusal := .next (s.serve 0x0207 d streamOpen)

/-- STREAM_PUSH: R192. -/
def execStreamPush (d : Desc) (p : Bytes) (s : State) : Host.Outcome State Fault Refusal :=
  .next (s.serveJob 0x0208 d p streamPush)

/-- STREAM_CLOSE: R193. -/
def execStreamClose (d : Desc) (s : State) : Host.Outcome State Fault Refusal := .next (s.serve 0x0209 d streamClose)

/-- FACET_WRITE: R203, R207. -/
def execFacetWrite (d : Desc) (p : Bytes) (s : State) : Host.Outcome State Fault Refusal :=
  .next (s.serveJob 0x0300 d p facetWrite)

/-- FACET_READ: R203. -/
def execFacetRead (d : Desc) (s : State) : Host.Outcome State Fault Refusal := .next (s.serveJob 0x0301 d [] facetRead)

/-- WAVETABLE_WRITE: R206. -/
def execWavetableWrite (d : Desc) (p : Bytes) (s : State) : Host.Outcome State Fault Refusal :=
  .next (s.serveJob 0x0302 d p wavetableWrite)

/-- CMS_WRITE: R231, R232. -/
def execCmsWrite (d : Desc) (p : Bytes) (s : State) : Host.Outcome State Fault Refusal :=
  .next (s.serveJob 0x0303 d p cmsWrite)

end Sys2Proof.Machine
end

