-- ==== Sys2Proof/Machine/Ucode.lean ====
section
/-!
DEFINITION. Loading the control store: customer microcode with the loader's checks, patch sets, and the control-store
scrub (05).
-/
namespace Sys2Proof.Machine

/-! ## The customer image (Table 5-9) -/

/-- The image's words, 144 bits each, and whether the Reserved bytes 18–23 of each are zero. -/
def imageWords (p : Bytes) (n : Nat) : List (Nat × Bool) :=
  (List.range n).map (fun k => (field p (288 + 24 * k) 18, zeroAt p (288 + 24 * k + 18) 6))

/-- The dispatch record of opcode 0xC0 + k: its micro-address, if it has a routine. -/
def imageEntry (p : Bytes) (k : Nat) : Option Nat :=
  let a := field p (32 + 4 * k) 2
  if a = 0xFFFF then none else some a

/-- Header and parity are sound (R167). -/
def headerOk (p : Bytes) : Bool :=
  let n := field p 2 2
  field p 0 2 == 1 && 1 ≤ n && n ≤ 1024 && p.length == 288 + 24 * n && field p 8 1 ≤ 1 && zeroAt p 9 7
    && (List.range 64).all (fun k => zeroAt p (34 + 4 * k) 2)
    && (imageWords p n).all (fun w => parityFails w.1 == 0)

/-! ## Routines (R167, R168) -/

/-- A place on a path: a word index and the return word indices on the micro-stack. -/
abbrev Place := Nat × List Nat

/-- The word indices NADDR + 0 to NADDR + 15 and the like as customer addresses. -/
def wordTargets (w upc : Nat) : List Nat :=
  let t := if mwWait w then [mwTaddr w] else []
  let n := mwNsel w
  t ++ (if n = 0 then [upc + 1] else if n = 1 then [mwNaddr w] else if n = 2 then [mwNaddr w, upc + 1]
    else if n = 3 then (List.range 16).map (fun i => mwNaddr w + i)
    else if n = 5 then [mwNaddr w, upc + 1] else [])

/-- The places that follow a place within the loaded words (micro-addresses from 0x800); CALL leads on only in compatibility
mode. -/
def nextPlaces (ws : List Nat) (compat : Bool) (p : Place) : List Place :=
  let upc := p.1
  let w := ws.getD (upc - 0x800) 0
  let n := mwNsel w
  let wait := if mwWait w then [(mwTaddr w, p.2)] else []
  let go : List Place :=
    if n = 0 then [(upc + 1, p.2)]
    else if n = 1 then [(mwNaddr w, p.2)]
    else if n = 2 then [(mwNaddr w, p.2), (upc + 1, p.2)]
    else if n = 3 then (List.range 16).map (fun i => (mwNaddr w + i, p.2))
    else if n = 5 ∧ compat then [(mwNaddr w, (upc + 1) :: p.2)]
    else if n = 6 then (match p.2 with
      | [] => []
      | r :: st => [(r, st)])
    else []
  (wait ++ go).filter (fun q => 0x800 ≤ q.1 && q.1 < 0x800 + ws.length && q.2.length ≤ 8)

/-- What `next` leads to from the listed places, themselves included. -/
def closure {α : Type} [BEq α] (next : α → List α) : (fuel : Nat) → (todo seen : List α) → List α
  | 0, _, seen => seen
  | _ + 1, [], seen => seen
  | fuel + 1, p :: todo, seen =>
    if seen.contains p then closure next fuel todo seen else closure next fuel (next p ++ todo) (p :: seen)

/-- Steps that visit every place of an image: at most 17 places follow one, and a place is a word and up to 8 others. -/
def placeFuel (ws : List Nat) : Nat := 20 * (ws.length + 1) ^ 9

/-- The places that some places lead to. -/
def placesFrom (ws : List Nat) (compat : Bool) (ps : List Place) : List Place :=
  closure (nextPlaces ws compat) (placeFuel ws) ps []

/-- The entry as a place, if it lies in the image. -/
def entryPlace (ws : List Nat) (entry : Nat) : List Place :=
  if 0x800 ≤ entry ∧ entry < 0x800 + ws.length then [(entry, [])] else []

/-- The words of the routine of an entry: all that it reaches through NSEL, TADDR and, in compatibility mode, CALL (R167). -/
def routineWords (ws : List Nat) (compat : Bool) (entry : Nat) : List Nat :=
  let next (a : Nat) : List Nat :=
    let w := ws.getD (a - 0x800) 0
    (if mwNsel w = 5 ∧ ¬ compat then [] else wordTargets w a).filter (fun t => 0x800 ≤ t && t < 0x800 + ws.length)
  closure next (20 * (ws.length + 1)) ((entryPlace ws entry).map (·.1)) []

/-- The places `d` words after the given ones. -/
def placesAfter (ws : List Nat) (compat : Bool) : (d : Nat) → List Place → List Place
  | 0, ps => ps
  | d + 1, ps => placesAfter ws compat d ((ps.flatMap (nextPlaces ws compat)).eraseDups)

/-- A check of Table 5-10 on the routine of an entry (6, 7, and the micro-stack part of 8): the offending micro-addresses. A
path passes a word again if it comes back to it with the same micro-stack, so that a subroutine may be called twice
(DEDUCED from check 7; log entry 21). -/
def routineFaults (ws : List Nat) (compat : Bool) (entry reason : Nat) : List Nat :=
  let rs := placesFrom ws compat (entryPlace ws entry)
  if reason = 6 then (rs.filter (fun p => (placesFrom ws compat (nextPlaces ws compat p)).contains p)).map (·.1)
  else if reason = 7 then (placesAfter ws compat 256 (entryPlace ws entry)).map (·.1)
  else if reason = 8 then
    (rs.filter (fun p =>
      let n := mwNsel (ws.getD (p.1 - 0x800) 0)
      (n == 6 && p.2.isEmpty) || (n == 4 && !p.2.isEmpty) || (n == 5 && p.2.length == 8))).map (·.1)
  else []

/-- A check of Table 5-10 on one word at micro-address `a` of an image of `n` words. -/
def wordFails (n : Nat) (compat : Bool) (reason a : Nat) (w : Nat × Bool) : Bool :=
  let x := w.1
  let c := mwCsel x
  if reason = 3 then
    mwReserved x != 0 || mwVx x != 0 || !w.2 || mwNsel x == 7 || 8 < mwAlu x || mwFsel x == 3 || mwMsel x == 3
      || 0x10 ≤ mwSfn x || (4 ≤ c && c ≤ 7) || c == 0x16 || c == 0x17
  else if reason = 4 then mwIssue x == 3 || 0x30 ≤ c || (6 ≤ mwSfn x && mwSfn x ≤ 0xF)
  else if reason = 5 then
    (wordTargets x a).any (fun t => t < 0x800 || 0x800 + n ≤ t) || (mwNsel x == 3 && mwNaddr x % 16 != 0)
  else if reason = 8 then !compat && (mwNsel x == 5 || mwNsel x == 6)
  else if reason = 9 then
    mwRdwe x && (mwRd x == 0 || mwRd x == 12 || mwRd x == 15 || (mwRd x == 14 && mwVaadv x))
  else if reason = 10 then mwWait x && (mwNsel x == 2 || mwNsel x == 3)
  else false

/-- The offending micro-addresses of a check over the whole image. -/
def imageFaults (p : Bytes) (reason : Nat) : List Nat :=
  let n := field p 2 2
  let ws := imageWords p n
  let entries := (List.range 64).filterMap (imageEntry p)
  if reason = 1 then entries.filter (fun a => a < 0x800 || 0x800 + n ≤ a)
  else
    ((List.range n).filter (fun k => wordFails n (field p 8 1 == 1) reason (0x800 + k) (ws.getD k (0, true)))).map (0x800 + ·)
      ++ entries.flatMap (fun e => routineFaults (ws.map (·.1)) (field p 8 1 == 1) e reason)

/-- A bound value is outside 1 to 1,048,576 (reason 2). -/
def badBound (p : Bytes) : Bool :=
  (List.range 4).any (fun j => field p (16 + 4 * j) 4 == 0 || 1048576 < field p (16 + 4 * j) 4)

/-- The lowest failing reason with its lowest offending micro-address (DESIGN CHOICE, log entry 21). -/
def loaderVerdict (p : Bytes) : Option (Nat × Option Nat) :=
  (List.range 10).findSome? (fun r =>
    if r + 1 = 2 then (if badBound p then some (2, none) else none)
    else match imageFaults p (r + 1) with
      | [] => none
      | a :: as => some (r + 1, some (as.foldl min a)))

/-- The customer opcode of the first routine that contains a word. -/
def routineOpcode (p : Bytes) (a : Nat) : Nat :=
  let ws := (imageWords p (field p 2 2)).map (·.1)
  match (List.range 64).find? (fun k => (imageEntry p k).any (fun e => e == a || (routineWords ws (field p 8 1 == 1) e).contains a)) with
  | some k => 0xC0 + k
  | none => 0xFFFF

/-! ## Loading (R166, R168, R170, R172) -/

/-- The dispatch entry that a record gives (R161). -/
def State.setDispatch (s : State) (i k : Nat) (a : Option Nat) : State :=
  let u := bits (a.getD 0) 0 12
  let s := (s.wr SQ_DISP.UADDR u i k).wr SQ_DISP.VALID (b2n a.isSome) i k
  s.wr SQ_DISP.PAR (b2n ((ones 12 u + b2n a.isSome) % 2 == 0)) i k

/-- A customer image is loaded (R168, R170, R172). -/
def State.loadCustomer (s : State) (i : Nat) (p : Bytes) : State :=
  let n := field p 2 2
  let s := (List.range n).foldl (fun s k => s.wr SQ_CUST.WORD (field p (288 + 24 * k) 18) i k) s
  let s := (List.range 64).foldl (fun s k => s.setDispatch i k (imageEntry p k)) s
  let s := (List.range 4).foldl (fun s j => s.wr SQ_UBND.BOUND (field p (16 + 4 * j) 4) i (4 + j)) s
  let s := s.wrs i [(SQ_UIMGID.IMGID, field p 4 4), (SQ_UCTL.COMPAT, field p 8 1), (SQ_UCTL.CUSTOK, 1),
    (SQ_ULOAD.REASON, 0), (SQ_ULOAD.UADDR, 0)]
  let uses := (s.seq i).pat.usesCust && (s.seq i).pat.npi != 0
  let was := s.site i
  let s := (if uses then s.invalidate i else s).endMachineCheck i 1
  if s.site i = stInvalid ∧ was ≠ stInvalid then s.takeFaults [collectorMsg (532 + i) 0x60 0] else s

/-- MICROCODE_LOAD: R89, R166–R170. A refused patch set leaves SQ_ULOAD as it is: no reason of Table 5-10 names its faults
(DESIGN CHOICE, log entry 21). -/
def microcodeLoad (v : Verdict) (c : Consumed) (_id : Nat) (p : Bytes) (s : State) : Act :=
  let i := siteByte c.d
  let region := par c.d 24 1
  let no (st opcode : Nat) (s : State) : Act := .done st (zeros 2 ++ toLe 2 opcode) [] s
  if s.busySite i then refuse refusedState s
  else if region = 1 then
    if ¬ headerOk p then no badParam 0xFFFF (s.wrs i [(SQ_ULOAD.REASON, 0xFF), (SQ_ULOAD.UADDR, 0)])
    else match loaderVerdict p with
      | some (r, a) =>
        let (x, s) := s.draw
        no 0x0203 ((a.map (routineOpcode p)).getD 0xFFFF) (s.wrs i [(SQ_ULOAD.REASON, r), (SQ_ULOAD.UADDR, a.getD x)])
      | none => .done ok (toLe 2 (field p 2 2) ++ toLe 2 0xFFFF) [] (s.loadCustomer i p)
  else if region = 2 then
    match s.verify p 1800 2 1 v with
    | some st => no st 0xFFFF s
    | none =>
      if field p 4 2 ≠ s.rd SQ_UROMID.ROMID i then no updateIncompatible 0xFFFF s
      else if field p 0 4 < s.sec.active.patchver ∨ field p 0 4 = 0 ∨ ¬ zeroAt p 6 2 then no badParam 0xFFFF s
      else .done ok (toLe 2 64 ++ toLe 2 0xFFFF) [] ((s.loadPatch i p).wrs i [(SQ_ULOAD.REASON, 0), (SQ_ULOAD.UADDR, 0)])
  else no badParam 0xFFFF s

/-! ## Commands and events -/

/-- MICROCODE_LOAD: R166–R170. -/
def execMicrocodeLoad (d : Desc) (p : Bytes) (sig : Verdict) (s : State) : Host.Outcome State Fault Refusal :=
  .next (s.serveJob 0x0203 d p (microcodeLoad sig))

/-- MICROWORD: one CK_SEQ cycle of the sequencer (R151–R162, R172). -/
def execMicroword (site : Fin 64) (ext : ExtLines) (uaddr : BitVec 12) (flip : BitVec 144) (s : State) :
    Host.Outcome State Fault Refusal :=
  match s.microStep site (s.wired ext s.tt) uaddr.toNat flip.toNat with
  | .ok (s, ms) => .next ((s.takeFaults ms).runLeft site)
  | .error f => .fault f

/-- CS_SCRUB: the scrub re-reads one place of a control store; `slices` names the slices in error, for a dispatch entry or
a match register bit 0 (R173). An error in region 0 fences the sequencer at once. -/
def execCsScrub (site : Fin 64) (kind : CsKind) (addr : BitVec 12) (slices : BitVec 8) (s : State) :
    Host.Outcome State Fault Refusal :=
  let place := CsPlace.of kind addr
  if slices = 0 ∨ (0xC40 ≤ placeKey place ∧ placeKey place < 0x1000) then .next s
  else
    let i := site.val
    let bad := if placeKey place < 0x1000 then slices.toNat else 1
    let s := (s.recordUerr i place bad true).modSeq i (fun q => { q with faulty := Tab.insert q.faulty (placeKey place) bad })
    let (s, ms) : State × List FaultMsg :=
      if placeRegion place = 0 then (s.modFaults (fun c => { c with romFault := (532 + i) :: c.romFault })).fence (532 + i) else (s, [])
    .next (s.takeFaults (csMessage i place 0x11 2 6 :: ms))

end Sys2Proof.Machine
end

