-- ==== Sys2Proof/Machine/Arms.lean ====
section
/-!
DEFINITION. Dispatch of a pattern instruction with the read of its dispatch entry (R161, R172), and the arms of the pattern
instructions.
-/
namespace Sys2Proof.Machine

/-- The routine that an opcode runs when a scrub has found its entry of the dispatch table in error: reading it brings the
machine check of R172. -/
def badEntryRoutine (op : Nat) (s : State) (site _w : Nat) : State :=
  (s.csError site (.entry (BitVec.ofNat 8 op)) 1).1

/-- Dispatch of the next PI. A vendor opcode whose dispatch entry has a parity error stops the sequencer with a machine
check, and the collector is told (R161, R172); a customer opcode's own entry is the routine's to judge. -/
def State.dispatchPi (s : State) (site w : Nat) (routine : State → Nat → Nat → State) : State :=
  let e : CsPlace := .entry (BitVec.ofNat 8 (piOp w))
  if piOp w < 0xC0 ∧ (s.seq site).badSlices e ≠ 0 then
    let t := s.dispatch site w (badEntryRoutine (piOp w))
    if t.site site = stMachineCheck ∧ s.site site ≠ stMachineCheck then
      (t.takeFaults [csMessage site e 0x10 3 3]).runLeft site
    else t
  else s.dispatch site w routine

/-! ## The arms -/

/-- VEC: R108. -/
def execVec (site : Fin 64) (pi : PI) (s : State) : Host.Outcome State Fault Refusal :=
  .next (s.dispatchPi site (piWord 0x01 pi) vecRoutine)

/-- VEC.A: R109. -/
def execVecA (site : Fin 64) (pi : PI) (s : State) : Host.Outcome State Fault Refusal :=
  .next (s.dispatchPi site (piWord 0x02 pi) vecARoutine)

/-- RPT: R110. -/
def execRpt (site : Fin 64) (pi : PI) (s : State) : Host.Outcome State Fault Refusal :=
  .next (s.dispatchPi site (piWord 0x03 pi) rptRoutine)

/-- LOOP: R114. -/
def execLoop (site : Fin 64) (pi : PI) (s : State) : Host.Outcome State Fault Refusal :=
  .next (s.dispatchPi site (piWord 0x08 pi) loopRoutine)

/-- ENDL: R115, R116. -/
def execEndl (site : Fin 64) (pi : PI) (s : State) : Host.Outcome State Fault Refusal :=
  .next (s.dispatchPi site (piWord 0x09 pi) endlRoutine)

/-- JMP: R117. -/
def execJmp (site : Fin 64) (pi : PI) (s : State) : Host.Outcome State Fault Refusal :=
  .next (s.dispatchPi site (piWord 0x10 pi) jmpRoutine)

/-- CALL: R118. -/
def execCall (site : Fin 64) (pi : PI) (s : State) : Host.Outcome State Fault Refusal :=
  .next (s.dispatchPi site (piWord 0x11 pi) callRoutine)

/-- RET: R119. -/
def execRet (site : Fin 64) (pi : PI) (s : State) : Host.Outcome State Fault Refusal :=
  .next (s.dispatchPi site (piWord 0x12 pi) retRoutine)

/-- BRC: R122–R129. -/
def execBrc (site : Fin 64) (pi : PI) (s : State) : Host.Outcome State Fault Refusal :=
  .next (s.dispatchPi site (piWord 0x14 pi) brcRoutine)

/-- MATCH: R130. -/
def execMatch (site : Fin 64) (pi : PI) (s : State) : Host.Outcome State Fault Refusal :=
  .next (s.dispatchPi site (piWord 0x18 pi) matchRoutine)

/-- WAITX: R133. -/
def execWaitx (site : Fin 64) (pi : PI) (s : State) : Host.Outcome State Fault Refusal :=
  .next (s.dispatchPi site (piWord 0x19 pi) waitxRoutine)

/-- SYNC: R134. -/
def execSync (site : Fin 64) (pi : PI) (s : State) : Host.Outcome State Fault Refusal :=
  .next (s.dispatchPi site (piWord 0x20 pi) syncRoutine)

/-- TSW. -/
def execTsw (site : Fin 64) (pi : PI) (s : State) : Host.Outcome State Fault Refusal :=
  .next (s.dispatchPi site (piWord 0x21 pi) tswRoutine)

/-- CAP: R112. -/
def execCap (site : Fin 64) (pi : PI) (s : State) : Host.Outcome State Fault Refusal :=
  .next (s.dispatchPi site (piWord 0x22 pi) capRoutine)

/-- FLAG: R113. -/
def execFlag (site : Fin 64) (pi : PI) (s : State) : Host.Outcome State Fault Refusal :=
  .next (s.dispatchPi site (piWord 0x23 pi) flagRoutine)

/-- STRM: R137. -/
def execStrm (site : Fin 64) (pi : PI) (s : State) : Host.Outcome State Fault Refusal :=
  .next (s.dispatchPi site (piWord 0x24 pi) strmRoutine)

/-- HALT: R139. -/
def execHaltPi (site : Fin 64) (pi : PI) (s : State) : Host.Outcome State Fault Refusal :=
  .next (s.dispatchPi site (piWord 0x2F pi) haltRoutine)

/-- XOP: R141. -/
def execXop (site : Fin 64) (op : BitVec 6) (pi : PI) (s : State) : Host.Outcome State Fault Refusal :=
  .next (s.dispatchPi site (piWord (0xC0 + op.toNat) pi) xopRoutine)

end Sys2Proof.Machine
end

