-- ==== Sys2Proof/Machine/Run.lean ====
section
/-!
DEFINITION. RUN and its checks (03, 05, 07, 13, 18).
-/
namespace Sys2Proof.Machine

/-! ## Facets at RUN (R76, R205, R216, R218) -/

/-- The defined Facets of a channel. -/
def State.definedFacets (s : State) (n : Nat) : List Facet :=
  ((List.range 32).map (s.facet n)).filter (fun f => f.period != 0)

/-- R76 fails: a Facet's period differs between channels, or is below P_min. -/
def State.periodConflict (s : State) (i : Nat) : Bool :=
  let ns := s.channels i
  (List.range 32).any (fun k =>
    ns.any (fun n => (s.facet n k).period != 0)
      && !(ns.all (fun n => ns.all (fun m => (s.facet n k).period == (s.facet m k).period))
        && ns.all (fun n => s.rd SQ_PMIN.PMIN i ≤ (s.facet n k).period)))

/-- First and last instant of a Facet on a line of channel `n`, in half steps (R216, R220). -/
def State.lineSpan (s : State) (n : Nat) (drive : Bool) (f : Facet) : Option (Nat × Nat) :=
  if f.burst then
    let off := s.rd CH_BURSTCFG.BOFF n
    if drive ∧ f.bdir = 1 then some (2 * off, 2 * off + 4375)
    else if ¬ drive ∧ f.bdir = 2 then
      let t := 2 * (off + s.rd CH_BURSTCFG.BSTRB n)
      some (t, t + 4375)
    else none
  else
    match enabledPos (if drive then bits f.en 0 4 else bits f.en 4 4) (if drive then f.de else f.ce) with
    | [] => none
    | p :: ps => some (2 * ps.foldl min p, 2 * ps.foldl max p)

/-- The boundary of Facet `a` followed by Facet `b` keeps its space on both lines (R216). -/
def State.pairOk (s : State) (n : Nat) (a b : Facet) : Bool :=
  [true, false].all (fun drive =>
    match s.lineSpan n drive a, s.lineSpan n drive b with
    | some (_, last), some (first, _) =>
      let sp := if a.burst || b.burst then 300 else if drive then s.driveSpace n else 300
      2 * sp + last ≤ 2 * a.period + first
    | _, _ => true)

/-- R205 or R216 fails on some channel of the site. -/
def State.edgeConflict (s : State) (i : Nat) : Bool :=
  (s.channels i).any (fun n =>
    let fs := s.definedFacets n
    fs.any (fun a => (!a.burst && !s.edgesOk n a) || fs.any (fun b => !s.pairOk n a b)))

/-- R218 fails: a full-format stream with a burst Facet. -/
def State.modeConflict (s : State) (i : Nat) : Bool :=
  (s.channels i).any (fun n => !s.on CH_STRMCFG.WIDTH n && (s.definedFacets n).any (·.burst))

/-! ## RUN -/

/-- The refusals of RUN after its state rule (R12, R76, R79, R172, R173, R216, R218, R360, R441, R443). -/
def State.runRefusal (s : State) (i flags : Nat) : Option Nat :=
  if 1 < flags then some badParam
  else if s.faults.critical ∨ s.on SQ_UERR.VALID i ∨ (s.seq i).badRegions ≠ [] then some machineCheckCode
  else if s.fenced (532 + i) ∨ (s.channels i).any (fun n => s.fenced n && s.rd CH_CALSTAT.STANDIN n ≠ 2) then
    some fencedCode
  else if 1 < s.rd SQ_STATE.CHIPS i ∧ (¬ s.on SY_STAT.RINGUP ∨ ¬ s.on SY_STAT.ALIGNED ∨ s.memberLinkDown i) then
    some 0x0902
  else if s.periodConflict i then some 0x0202
  else if (s.seq i).pat.d ≠ s.rd SQ_DLAT.D i then some 0x0070
  else if s.edgeConflict i then some 0x0301
  else if s.modeConflict i then some 0x0303
  else none

/-- RUN: R65, R82, R89, R166, R181, R317, R349. -/
def runCmd (c : Consumed) (id : Nat) (_p : Bytes) (s : State) : Act :=
  let i := siteByte c.d
  if ¬ [stLoaded, stDone, stHalted].contains (s.site i) then refuse refusedState s
  else match s.runRefusal i (par c.d 28 1) with
    | some e => refuse e s
    | none =>
      let s := s.deliverPatch i
      if s.runWaits i then .later { s with cal := { s.cal with waiters := s.cal.waiters ++ [⟨id, i, s.facetsDefined i⟩] } }
      else
        let s := s.enterRun i (par c.d 24 4) (bit (par c.d 28 1) 0) (s.facetsDefined i)
        if (s.seq i).waitBarrier then .later s else success (toLe 8 (s.rd SQ_RUNT.T i)) s

/-- RUN: R65. -/
def execRun (d : Desc) (s : State) : Host.Outcome State Fault Refusal := .next (s.serveJob 0x0204 d [] runCmd)

/-- MEASUREMENT_END: a REF measurement of a group's channel ends (R311, R317); RUN jobs that waited for it go on. -/
def execMeasurementEnd (g : Fin 16) (errors : List Int) (gain : Int) (s : State) : Host.Outcome State Fault Refusal :=
  .next (s.measured g errors gain)

end Sys2Proof.Machine
end

