-- ==== Sys2Proof/Machine/Cycle.lean ====
section
/-!
DEFINITION. The events of a run: a cycle of a site with what measurement, Loupe and Prism see of it, arrivals from vector
memory, halts, and barriers in the chip (03, 04, 06).
-/
namespace Sys2Proof.Machine

/-! ## Vector cycles -/

/-- The result of the vector whose select stage comes next is still missing on a cross-chip site (R360). -/
def Seq.voteMissing (q : Seq) (d : Nat) : Bool :=
  d ≤ q.vk && (q.hist.getD (d - 1 - b2n q.fresh.isSome) none).isNone

/-- A vote is lost or corrupt: the site halts with cause 4 and tells the others (R360). -/
def State.voteError (s : State) (site : Nat) : State :=
  (s.postHalt site 4).takeFaults [collectorMsg 715 0x41 3]

/-- What the cycle just played shows to the measurement units, Loupe and Prism (R104, R112, R258, R296). -/
def State.showCycle (s : State) (site period : Nat) : State :=
  let s := forAll (s.channels site) (fun n s => s.tiaDrive n) s
  let c := (s.seq site).lastCycle
  if c.pad then s.noteShow site c.start period true
  else
    let s := (s.loupeVector site c.start c.vec).noteShow site c.start period false
    let s := s.pzVector site c.start period c.vec (bit c.cond 0) (bit c.cond 1)
    match c.vec.event with
    | some e => s.tiaCap site e c.start
    | none => s

/-- One cycle of a site's grid with all that follows from it. -/
def State.fullCycle (s : State) (site : Nat) (ext : ExtLines) (moves : List LineMove) : State :=
  let was := s.busySite site
  let s := if s.site site = stRunning ∧ 1 < s.rd SQ_STATE.CHIPS site ∧ (s.seq site).started
      ∧ (s.seq site).voteMissing (s.rd SQ_DLAT.D site) then s.voteError site else s
  let start := (s.seq site).cyc
  let s := s.vectorCycle site ext moves
  let period := (s.seq site).cyc - start
  let s := if period ≠ 0 then s.showCycle site period else s
  if was ∧ ¬ s.busySite site then (if s.site site = stDone then s.pzEnd site s.tt else s).runLeft site else s

/-- VECTOR_CYCLE: R18–R22. -/
def execVectorCycle (site : Fin 64) (ext : ExtLines) (moves : List LineMove) (s : State) :
    Host.Outcome State Fault Refusal := .next (s.fullCycle site (s.wired ext s.tt) moves)

/-! ## Arrivals from vector memory -/

/-- An uncorrectable error met by a reader of a site: the fault, and the site halts with cause 4 (R423). -/
def State.siteMemError (s : State) (site a access : Nat) : State :=
  let k := s.pcOf a
  let m : FaultMsg := ⟨BitVec.ofNat 10 (596 + k), 0x21, 3, BitVec.ofNat 3 access, BitVec.ofNat 8 (0x40 + site),
    BitVec.ofNat 40 a, false, false⟩
  (s.postHalt site 4).takeFaults [m]

/-- PI_FETCH_ARRIVAL: the PI at the next IA is dispatched, or its error halts the site (R107, R159, R423). -/
def execPiFetchArrival (site : Fin 64) (uncorr : Bool) (s : State) : Host.Outcome State Fault Refusal :=
  let ia := (s.seq site).ureg 13
  if ¬ s.busySite site then .next s
  else if uncorr then .next (s.siteMemError site (s.rd SQ_INSTBASE.BASE site + 8 * ia) 3)
  else
    let w := s.piAt site ia
    .next (s.dispatchPi site w (routineOf (piOp w)))

/-- GRANULE_ARRIVAL: the oldest requested granule of an engine arrives, or its error halts the site (R179, R423). While an
older request of the group is open, nothing arrives: transfers come in request order. -/
def execGranuleArrival (unit : Fin 532) (uncorr : Bool) (s : State) : Host.Outcome State Fault Refusal :=
  let e := unit.val
  match (s.chan e).reqs, s.siteOf (s.playsFor e) with
  | r :: _, some site =>
    if ¬ s.reqTurn e then .next s
    else if uncorr then
      let n := s.playsFor e
      let per := if s.on CH_STRMCFG.WIDTH n then r.va else r.va / 2
      .next (s.siteMemError site (s.rd CH_STRMBASE.BASE n * 64 + per) 1)
    else .next (s.granuleIn e)
  | _, _ => .next s

/-! ## Halts (R90–R95) -/

/-- HALT_CAUSE: a halt cause reaches the site (R90, R94). A machine check is one of the region that SQ_UERR names (R172). -/
def execHaltCause (site : Fin 64) (cause : Fin 5) (s : State) : Host.Outcome State Fault Refusal :=
  if cause = 3 then .next ((s.machineCheck site (s.rd SQ_UERR.REGION site)).runLeft site)
  else
    let s := s.postHalt site cause
    .next (if s.site site = stHalting then s.reach (s.seq site).haltAt else s)

/-- The results of the last played cycle have drained: 40 ticks after its end (R93). -/
def State.drainTime (s : State) (i : Nat) : State :=
  let q := s.seq i
  if q.started then s.reach (ceilDiv q.cyc 1250 + 40) else s

/-- SITE_HALTED: both halves of the halt are over and the results have drained (R93). A vendor PI stalled at a full queue has
completed at once (R155). After a machine check the sequencer has stopped, and only the vector side is awaited (R172). -/
def execSiteHalted (site : Fin 64) (s : State) : Host.Outcome State Fault Refusal :=
  let i := site.val
  let s := match (s.seq i).stall with
    | some pi => if s.site i = stHalting ∧ ¬ (s.seq i).inRoutine then s.stalledPi i pi else s
    | none => s
  let q := s.seq i
  if s.site i = stHalting ∧ q.vecEnd ∧ ¬ q.inRoutine then
    let s := s.drainTime i
    .next (((s.endRun i stHalted).haltedEvent i |>.pzEnd i s.tt).runLeft i)
  else if q.draining ∧ q.vecEnd then
    let s := s.drainTime i
    .next (((s.endDrain i).pzEnd i s.tt).runLeft i)
  else .next s

/-! ## Barriers in the chip (R97–R99, R135, R136) -/

/-- The site waits at in-chip barrier `b`. -/
def State.waitsAt (s : State) (b i : Nat) : Bool :=
  s.site i == stRunning && s.on SQ_BARSTAT.WAITING i && s.rd SQ_BARSTAT.BAR i == b

/-- The SYNC at the head of the queue is released at tick `t`, by its barrier or by its timeout. -/
def State.releaseSync (s : State) (i t : Nat) (timeout : Bool) : State :=
  let s := (s.wr SQ_BARSTAT.WAITING 0 i).wr SQ_RBARSTAT.WAITING 0 i
  let s := s.setFlag i 7 timeout
  s.modSeq i (fun q => { q with queue := match q.queue with
    | .sync r b n none :: rest => .sync r b n (some t) :: rest
    | its => its })

/-- The members of in-chip barrier `b`. -/
def State.chipMembers (s : State) (b : Nat) : List Nat :=
  (List.range 64).filter (fun i => bit (s.rd SQ_BARMEM.MEMBER i) b)

/-- When in-chip barrier `b` releases, once every RUNNING member waits: 8 CK_SEQ cycles (32 ticks) after the last arrival
or the last leaving (R97, R98). -/
def State.barrierTime (s : State) (b : Nat) : Option Nat :=
  let members := s.chipMembers b
  if (members.filter (fun i => s.site i == stRunning)).all (s.waitsAt b) && members.any (s.waitsAt b) then
    some ((members.map (s.awaitedUntil b)).foldl max 0 + 32)
  else none

/-- When the SYNC that site `i` waits at is released, as far as it is settled: its in-chip barrier, its ring barrier's T_r
(R353), or 32 ticks after its arrival where it is no member (R99, R352). -/
def State.syncRelease (s : State) (i : Nat) (ring : Bool) (b : Nat) : Option Nat :=
  if ¬ bit (if ring then s.rd SQ_RBARMEM.MEMBER i else s.rd SQ_BARMEM.MEMBER i) b then some ((s.seq i).barTime + 32)
  else if ring then
    (if (Tab.get [] s.ring.part b).contains i ∧ Tab.get 0 s.ring.release b ≠ 0 then some (Tab.get 0 s.ring.release b - 1) else none)
  else s.barrierTime b

/-- BARRIER_RELEASE: every RUNNING member has arrived, and all are released together. A waiting site that is no member is
released 32 ticks after its own arrival (R97–R99). -/
def execBarrierRelease (bar : Fin 16) (s : State) : Host.Outcome State Fault Refusal :=
  let b := bar.val
  let alone := (List.range 64).filter (fun i => s.waitsAt b i && !(s.chipMembers b).contains i)
  let waiting := (s.chipMembers b).filter (s.waitsAt b)
  let due := s.barrierTime b
  let s := alone.foldl (fun s i => (s.reach ((s.seq i).barTime + 32)).releaseSync i ((s.seq i).barTime + 32) false) s
  match due with
  | some t => .next (waiting.foldl (fun s i => s.releaseSync i t false) (s.reach t))
  | none => .next s

/-- SYNC_TIMEOUT: the timeout of a waiting SYNC expires (R136). A release at or before the expiry, or in its CK_SEQ cycle,
counts instead (R136, R353). -/
def execSyncTimeout (site : Fin 64) (s : State) : Host.Outcome State Fault Refusal :=
  let q := s.seq site
  match q.queue with
  | .sync ring b n none :: _ =>
    if q.arrived ∧ s.site site = stRunning then
      let t := q.barTime + 4 * n
      match s.syncRelease site ring b with
      | some r => if r ≤ t ∨ r / 4 = t / 4 then .next ((s.reach r).releaseSync site r false)
        else .next (((s.reach t).releaseSync site t true).pm site 0x13 1)
      | none => .next (((s.reach t).releaseSync site t true).pm site 0x13 1)
    else .next s
  | _ => .next s

end Sys2Proof.Machine
end

