-- ==== Sys2Proof/Machine/Takeover.lean ====
section
/-!
DEFINITION. The switch of the pad between a channel engine and its Mirror (R320, R321).
-/
namespace Sys2Proof.Machine

/-- Neither engine of a list has a transition on PE_DRV or PE_EN within 150 steps of instant `b`, in steps. -/
def State.quietAt (s : State) (es : List Nat) (b : Nat) : Bool :=
  es.all (fun e =>
    let c := s.chan e
    (c.drvEdges ++ c.enEdges ++ c.enQ).all (fun x => decide (300 < (x.time - 2 * (b : Int)).natAbs)))

/-- The boundary at which the site's next cycle starts is eligible for a switch of engines (R320): the engines command equal
levels there, neither has a transition within 150 steps before it (the cycle behind it) or after it (the cycle that starts
there, played ahead), and their windows are alike open or closed. Away from RUNNING the switch takes place at once. -/
def State.eligible (s : State) (n : Nat) : Bool :=
  match s.siteOf n with
  | none => true
  | some site =>
    let m := 512 + groupOf n
    let b := (s.seq site).cyc
    let alike (f : Field) : Bool := s.rd f n == s.rd f m
    s.site site != stRunning ||
      (alike CH_PELIVE.DRV && alike CH_PELIVE.EN && alike CH_WINSTAT.OPEN
        && s.quietAt [n, m] b && (s.vectorCycle site s.ext []).quietAt [n, m] b)

/-- TAKE_OVER: the Mirror takes over the pad at an eligible boundary, once no measurement holds the channel (R261, R320). -/
def execTakeOver (g : Fin 16) (s : State) : Host.Outcome State Fault Refusal :=
  let n := s.rd CA_GRP.CHAN 0 g
  if (s.calg g).stage = 3 ∧ s.eligible n ∧ ¬ s.heldBack g n then
    let s := if s.tiaArmed n then s.endMeasure n 2 else s
    let s := State.dropWindow n (State.stopChan n s)
    .next (((s.wr CH_MSTAT.MODE 2 g).wr CH_CALSTAT.STANDIN 1 n).beginMeasure g)
  else if (s.calg g).stage = 3 ∧ s.heldBack g n then .next (s.modCal g (fun c => { c with waiting := some n }))
  else .next s

/-- The channel takes back the pad; of a calibration that was given up it stays due, and the Mirror goes on to the fenced
channel that it replaces (R443). -/
def State.takeBack (s : State) (g n : Nat) : State :=
  let c := s.calg g
  if ¬ c.release then s.handBack g n
  else
    let s := (((s.detachMirror g).wr CH_CALSTAT.STANDIN 0 n).leaveChannel g n).modCal g (fun c => { c with
      wanted := c.wanted.filter (· != n) })
    match c.replace with
    | some u => if s.fenced u then s.replaceChannel u else s
    | none => s

/-- HAND_BACK: the freed channel has shadowed 64 cycles and takes back the pad at an eligible boundary (R321). -/
def execHandBack (g : Fin 16) (s : State) : Host.Outcome State Fault Refusal :=
  let n := s.rd CA_GRP.CHAN 0 g
  if (s.calg g).stage = 6 ∧ s.shadowed g ∧ ((s.calg g).back ∨ ¬ s.running n) ∧ s.eligible n then .next (s.takeBack g n)
  else .next s

end Sys2Proof.Machine
end

