-- ==== Sys2Proof/Machine/Fail.lean ====
section
/-!
DEFINITION. Fail record queues, the fail log, SUPMON records (08), slot accounting and dumps (14), and the host's halt
request.
-/
namespace Sys2Proof.Machine

/-! ## Group queues (R235–R241) -/

/-- Records whose last word has been written are present (R237). -/
def Group.settle (g : Group) (tt : Nat) : Group :=
  if g.moving ≠ [] ∧ g.movedAt + 3 ≤ tt then { g with records := g.records ++ g.moving, moving := [] } else g

/-- Slots taken, records being written included. -/
def Group.slots (g : Group) : Nat := g.records.length + g.moving.length

/-- The group's queue with what has become complete by now. -/
def State.settleGroup (s : State) (g : Nat) : State := s.modGroup g (fun q => q.settle s.tt)

/-- The pending buffers of a group in round-robin order from `turn`: 32 channels, then the Mirror. -/
def pendingUnit (g k : Nat) : Nat := if k % 33 < 32 then 32 * g + k % 33 else 512 + g

/-- The oldest entry of a pending buffer, if it entered before the present CK_SEQ cycle (R235). -/
def State.takeable (s : State) (p : List (Nat × Bytes)) : Option Bytes :=
  (p.head?.filter (fun e => decide (e.1 < s.tt / 4))).map (·.2)

/-- The next pending record of the group: SUPMON records first, then round-robin (R235, R248). -/
def State.takeRecord (s : State) (g : Nat) : Option (Bytes × State) :=
  let q := s.group g
  match s.takeable q.supPending with
  | some r => some (r, s.modGroup g (fun q => { q with supPending := q.supPending.tail }))
  | none =>
    match (List.range 33).find? (fun k => (s.takeable (s.chan (pendingUnit g (q.turn + k))).pending).isSome) with
    | none => none
    | some k =>
      let u := pendingUnit g (q.turn + k)
      let r := (s.takeable (s.chan u).pending).getD []
      let s := s.modChan u (fun c => { c with pending := c.pending.tail })
      some (r, s.modGroup g (fun q => { q with turn := (q.turn + k + 1) % 33 }))

/-- A header is written: at a full queue the oldest record is overwritten (R239). -/
def State.beginPush (s : State) (g : Nat) (r : Bytes) : State :=
  let s := if 1024 ≤ (s.group g).slots then
      (s.modGroup g (fun q => { q with records := q.records.tail })).inc GR_FQLOST.LOST g else s
  s.modGroup g (fun q => { q with moving := q.moving ++ [r], movedAt := s.tt })

/-- Up to `n` pending records begin to move into the queue. -/
def State.takeRecords (g : Nat) : (n : Nat) → State → State
  | 0, s => s
  | n + 1, s =>
    match s.takeRecord g with
    | none => s
    | some (r, s) => State.takeRecords g n (s.beginPush g r)

/-- The CK_SEQ cycle from which the group's oldest pending record can be taken: the one after its entry (R235). -/
def State.firstTake (s : State) (g : Nat) : Option Nat :=
  let heads := ((s.group g).supPending :: (List.range 33).map (fun k => (s.chan (pendingUnit g k)).pending)).filterMap
    (fun p => p.head?.map (·.1))
  heads.min?.map (· + 1)

/-- RECORD_TAKE: the next CK_SEQ cycle in which the group's pending path takes records (R235). The records of an earlier
cycle are complete. -/
def execRecordTake (g : Fin 16) (s : State) : Host.Outcome State Fault Refusal :=
  let s := if (s.group g).moving = [] then s else s.reach ((s.group g).movedAt + 4)
  let s := match s.firstTake g with
    | some c => s.reach (4 * c)
    | none => s
  .next (State.takeRecords g 4 (s.settleGroup g))

/-- A flush of the group's queue: a record between its header and its last word is truncated; one whose header is written in
the same tick lands in the empty queue (R241, R243). -/
def State.flushGroup (g : Nat) (s : State) : State :=
  let s := s.settleGroup g
  let q := s.group g
  let cut := decide (q.movedAt < s.tt)
  let left := if cut then q.moving.length * (3 - (s.tt - q.movedAt)) else 0
  (s.modGroup g (fun q => { q with records := [], moving := if cut then [] else q.moving })).wrs g
    [(GR_FQLOST.LOST, 0), (GR_FQTRUNC.WORDS, left)]

/-- QUEUE_POINTER: the two copies of a pointer differ: the queue is emptied (R238, R260, R362). Queue 16 is the event ring,
queue 17 + u the result buffer of measurement unit u, queue 545 the inbox. -/
def execQueuePointer (queue : Fin 546) (s : State) : Host.Outcome State Fault Refusal :=
  let g := queue.val
  if g < 16 then
    let s := s.settleGroup g
    let n := (s.group g).records.length
    let s := (s.modGroup g (fun q => { q with records := [] })).inc GR_FQLOST.LOST g 0 n
    .next ((s.wr GR_FQSTAT.PTRERR 1 g).takeFaults [collectorMsg (716 + g) 0x12 2])
  else if g = 545 then
    let n := s.ring.inbox.length
    let s := s.modRing (fun r => { r with inbox := [], inboxHead := (r.inboxHead + n) % 8 })
    .next ((s.inc SY_INBOXLOST.LOST 0 0 n).takeFaults [collectorMsg 715 0x12 2])
  else if 17 ≤ g then
    let u := g - 17
    let n := (s.tia u).records.length
    .next (((s.modTia u (fun t => { t with records := [] })).inc CH_TIALOST.LOST u 0 n).takeFaults [collectorMsg u 0x12 2])
  else
    let n := (s.rd HW_EVT_PROD.PROD + 65536 - s.rd HW_EVT_CONS.CONS) % 65536
    let s := (s.wr HW_EVT_CONS.CONS (s.rd HW_EVT_PROD.PROD)).inc HW_EVT_LOST.LOST 0 0 n
    .next (s.takeFaults [collectorMsg 709 0x12 2])

/-- FAIL_READ: R242, R243. -/
def failRead (c : Consumed) (_id : Nat) (_p : Bytes) (s : State) : Act :=
  let g := par c.d 24 1
  let len := c.d.length.toNat
  if 16 ≤ g then refuse badParam s
  else if s.on GR_FQCTL.DRAIN g then refuse 0x0204 s
  else if len < 32 then refuse outOfRange s
  else
    let s := s.settleGroup g
    let n := min (min (par c.d 28 4) (len / 32)) (s.group g).records.length
    let out := ((s.group g).records.take n).flatMap id
    let s := s.modGroup g (fun q => { q with records := q.records.drop n })
    .done ok (toLe 4 n ++ toLe 4 (s.rd GR_FQLOST.LOST g) ++ toLe 4 (s.rd GR_FQTRUNC.WORDS g)) out s

/-- The FAIL_READ jobs of a group that are running. -/
def State.readsOf (s : State) (g : Nat) : List Job :=
  s.mbx.jobs.filter (fun j => j.started && j.cmd.op == 0x020A && par j.cmd.d 24 1 == g)

/-- A group is flushed; a FAIL_READ of it that is running ends with the records it has popped, none in this model, where it
pops them in the step that answers it (R243). -/
def State.flushReads (g : Nat) (s : State) : State :=
  let js := s.readsOf g
  let s := State.flushGroup g s
  js.foldl (fun s j => s.completeJob j.id ok (toLe 4 0 ++ toLe 4 (s.rd GR_FQLOST.LOST g) ++ toLe 4 (s.rd GR_FQTRUNC.WORDS g)) []) s

/-- FAIL_FLUSH: R243. -/
def failFlush (c : Consumed) (s : State) : Act :=
  success [] (forAll (bitList 16 (par c.d 24 2)) State.flushReads s)

/-- FAIL_READ: R242. -/
def execFailRead (d : Desc) (s : State) : Host.Outcome State Fault Refusal := .next (s.serveJob 0x020A d [] failRead)

/-- FAIL_FLUSH: R243. -/
def execFailFlush (d : Desc) (s : State) : Host.Outcome State Fault Refusal := .next (s.serve 0x020B d failFlush)

/-! ## The fail log (R244–R246) -/

/-- DRAIN_MODE_WRITE: the next record popped is drained in the new mode (R244). -/
def execDrainModeWrite (g : Fin 16) (log : Bool) (s : State) : Host.Outcome State Fault Refusal :=
  .next (s.flag GR_FQCTL.DRAIN log g)

/-- The geometry of a fail log is one that can be enabled (R245). -/
def State.logOk (s : State) (i : Nat) : Bool :=
  let n := s.rd SQ_FLSIZE.SIZE i
  64 ≤ n && n ≤ 16777216 && s.allocated (s.rd SQ_FLBASE.BASE i * 32) (32 * n)

/-- FAIL_LOG_ENABLE: a write of SQ_FLCTL, ignored while the lock is closed (R245). -/
def execFailLogEnable (site : Fin 64) (en wrap : Bool) (s : State) : Host.Outcome State Fault Refusal :=
  let i := site.val
  if s.busySite i then .next s
  else
    let was := s.on SQ_FLCTL.EN i
    let now := en && s.logOk i
    let s := (s.flag SQ_FLCTL.EN now i).flag SQ_FLCTL.WRAP wrap i
    .next (if now && !was then s.wrs i [(SQ_FLWR.WR, 0), (SQ_FLRD.RD, 0)] else s)

/-- A read index of a ring in vector memory moves on, within what has been written (R245, R372). -/
def State.advanceRead (s : State) (rd wr : Field) (i v : Nat) : State :=
  if (v + 2 ^ 32 - s.rd rd i) % 2 ^ 32 ≤ (s.rd wr i + 2 ^ 32 - s.rd rd i) % 2 ^ 32 then s.wr rd v i else s

/-- FAIL_LOG_READ_ADVANCE: R245. -/
def execFailLogReadAdvance (site : Fin 64) (v : BitVec 32) (s : State) : Host.Outcome State Fault Refusal :=
  .next (s.advanceRead SQ_FLRD.RD SQ_FLWR.WR site v.toNat)

/-- FAIL_LOG_DRAIN: a group in LOG mode moves its oldest record to the log of the record's site (R246). -/
def execFailLogDrain (g : Fin 16) (s : State) : Host.Outcome State Fault Refusal :=
  let s := s.settleGroup g
  match (s.group g).records with
  | [] => .next s
  | r :: rest =>
    if ¬ s.on GR_FQCTL.DRAIN g then .next s
    else
      let s := s.modGroup g (fun q => { q with records := rest })
      let i := field r 4 1 % 64
      let wr := s.rd SQ_FLWR.WR i
      let size := s.rd SQ_FLSIZE.SIZE i
      let full : Bool := size ≤ (wr + 2 ^ 32 - s.rd SQ_FLRD.RD i) % 2 ^ 32
      if ¬ s.on SQ_FLCTL.EN i ∨ (full ∧ ¬ s.on SQ_FLCTL.WRAP i) then .next (s.inc SQ_FLDROP.DROP i)
      else
        let s := if full then (s.bump SQ_FLRD.RD i).inc SQ_FLDROP.DROP i else s
        .next ({ s with vmem := s.vmem.writeN (s.rd SQ_FLBASE.BASE i * 32 + 32 * (wr % max 1 size)) r }.bump SQ_FLWR.WR i)

/-! ## SUPMON (R247, R248) -/

/-- The record of a SUPMON change (Table 8-4). Facet and CMS are those of the cycle in play (DEDUCED, log entry 24). -/
def State.supRecord (s : State) (site line time rseq : Nat) (active : Bool) : Bytes :=
  let v := (s.seq site).lastCycle.vec
  [4, 0] ++ toLe 2 0xFFFF ++ toLe 1 site ++ zeros 1 ++ toLe 1 v.facet ++ toLe 1 v.cms ++ toLe 5 (s.vaNow site)
    ++ toLe 1 line ++ toLe 2 (b2n active) ++ toLe 8 time ++ zeros 6 ++ toLe 2 rseq

/-- SUPMON_RECORD: SUPMON line `line`, at `level` since tick `time`, has kept it for the filter time (R247). -/
def execSupmonRecord (site : Fin 64) (line : Fin 8) (level : Bool) (time : Nat) (s : State) :
    Host.Outcome State Fault Refusal :=
  let i := site.val
  let lines := BitVec.ofNat 8 (setBits s.ext.supmon.toNat line 1 (b2n level))
  let s := { s with ext := { s.ext with supmon := lines } }
  if ¬ s.busySite i ∨ ¬ bit (s.rd SQ_SUPCFG.ENA i) line then .next s
  else
    let s := s.reach (time + 32 * s.rd SQ_SUPCFG.FILT i)
    let active := level == bit (s.rd SQ_SUPCFG.POL i) line
    let s := if active then s.wr SQ_SUPSTAT.LATCH (setBits (s.rd SQ_SUPSTAT.LATCH i) line 1 1) i else s
    match s.channels i with
    | [] => .next s
    | n :: _ =>
      let g := groupOf n
      let r := s.supRecord i line time (s.rd GR_FQSEQ.RSEQ g) active
      .next ((s.bump GR_FQSEQ.RSEQ g).modGroup g (fun q => { q with supPending := q.supPending ++ [(s.tt / 4, r)] }))

/-! ## Slot accounting (R368, R370–R375) -/

/-- PERF_CONFIG: R370. -/
def perfConfig (c : Consumed) (s : State) : Act :=
  let i := siteByte c.d
  let flags := par c.d 32 1
  let en := bit flags 1
  let int := par c.d 36 4
  let base := par c.d 40 8
  let size := par c.d 48 4
  if s.busySite i then refuse refusedState s
  else if (List.range 8).any (fun k => 0x14 < par c.d (24 + k) 1) ∨ 16 ≤ flags ∨ par c.d 33 3 ≠ 0 ∨ par c.d 52 12 ≠ 0
      ∨ (en ∧ ¬ (10 ≤ int ∧ int ≤ 10000000 ∧ base % 128 = 0 ∧ 16 ≤ size ∧ size ≤ 1048576))
      ∨ (¬ en ∧ (int ≠ 0 ∨ base ≠ 0 ∨ size ≠ 0)) then refuse badParam s
  else if en ∧ ¬ s.allocated base (128 * size) then refuse outOfRange s
  else
    let s := s.settleDumps i
    let was := s.on PM_CTL.DUMPEN i
    let s := s.wrs i [(PM_SEL.SEL, par c.d 24 8), (PM_CTL.CLRRUN, bits flags 0 1), (PM_CTL.DUMPEN, b2n en),
      (PM_CTL.WRAP, bits flags 2 1), (PM_CTL.INTERVAL, int), (PM_DBASE.BASE, base / 128), (PM_DSIZE.SIZE, size)]
    let s := if bit flags 3 then s.pmClear i else s
    let s := if en && !was then s.wrs i [(PM_DWR.WR, 0), (PM_DRD.RD, 0)] else s
    success [] (if bit flags 0 then s else s.wr PM_DSEQ.K 0 i)

/-- PERF_CONFIG: R370. -/
def execPerfConfig (d : Desc) (s : State) : Host.Outcome State Fault Refusal := .next (s.serve 0x0604 d perfConfig)

/-- PERF_DUMP: dump k of the run is sampled at S_k; its write ends at `finish` (R374). -/
def execPerfDump (site : Fin 64) (finish : Nat) (s : State) : Host.Outcome State Fault Refusal :=
  let i := site.val
  let q := s.seq i
  if ¬ s.busySite i ∨ ¬ q.started ∨ ¬ s.on PM_CTL.DUMPEN i then .next s
  else
    let sk := ({ q.dump with t0 := s.rd SQ_RUNT.T i } : Periodic).due (s.rd PM_CTL.INTERVAL i * 3200)
    .next ((s.reach sk).sampleDump i (s.dumpNominal i) finish false)

/-- COUNTER_LATCH_READ: a read of PM_SLOTS_LO (`k` = 0) or PM_CNT(k − 1)_LO latches the counter's bits [47:32] (R368). -/
def execCounterLatchRead (site : Fin 64) (k : Fin 9) (s : State) : Host.Outcome State Fault Refusal :=
  let i := site.val
  let s := s.pmTicks i
  let v := if k = 0 then s.rd PM_SLOTS.COUNT i else s.rd PM_CNT.COUNT i (k.val - 1)
  .next { s.modSeq i (fun q => { q with hiLatch := Tab.set 0 q.hiLatch k (v / 2 ^ 32) }) with bus := ⟨false, [v % 2 ^ 32]⟩ }

/-- DUMP_READ_ADVANCE: R372. -/
def execDumpReadAdvance (site : Fin 64) (v : BitVec 32) (s : State) : Host.Outcome State Fault Refusal :=
  .next ((s.settleDumps site).advanceRead PM_DRD.RD PM_DWR.WR site v.toNat)

/-- HALTREQ: a write of 1 to SQ_CTRL.HALTREQ halts a RUNNING site with cause 0 (R94). -/
def execHaltreq (site : Fin 64) (s : State) : Host.Outcome State Fault Refusal :=
  if s.site site = stRunning then .next ((s.wr SQ_CTRL.HALTREQ 1 site).postHalt site 0) else .next s

end Sys2Proof.Machine
end

