-- ==== Sys2Proof/Machine/Device.lean ====
section
/-!
DEFINITION. The device commands that only report, reach a PE device or move data (02, 10, 17).
-/
namespace Sys2Proof.Machine

/-- The highest of the 24 temperature readings, signed, in 1/16 °C (R498). -/
def State.hottest (s : State) : Int :=
  (List.range 24).foldl (fun m k => max m (sgn 16 (Tab.get 0 s.cal.sensors k))) (sgn 16 (Tab.get 0 s.cal.sensors 0))

/-- IDENT: R2, R63. -/
def identCmd (_c : Consumed) (s : State) : Act :=
  success (toLe 1 0xB1 ++ toLe 1 (s.rd HW_ID.IFVER) ++ toLe 2 (s.rd SC_FWVER.ACTIVE) ++ toLe 1 (s.rd CK_STRAP.CHIPID)
    ++ toLe 1 (s.rd HW_STATUS.ACTIVE) ++ zeros 2 ++ toLe 12 Config.dieId.toNat) s

/-- STATUS: R63. -/
def statusCmd (_c : Consumed) (s : State) : Act :=
  success (toLe 2 ((List.range 64).countP (fun i => s.site i == stRunning)) ++ toLe 2 ((List.range 736).countP s.fenced)
    ++ toLe 1 (s.rd FC_STAT.FEVALID) ++ toLe 1 (s.rd SC_STAT.POLICY) ++ toLe 2 (unsgn 16 s.hottest)) s

/-- TIME_GET: R63. -/
def timeGet (c : Consumed) (s : State) : Act := success (toLe 8 s.tt ++ toLe 8 c.dbTime) s

/-- The first `n` bits of a transfer, the first in bit 7 of byte 0 (R63). -/
def firstBits (n : Nat) (bs : Bytes) : Bytes :=
  (List.range 16).map (fun k =>
    let keep := n - 8 * k
    if 8 ≤ keep then bs.getD k 0 else bs.getD k 0 &&& BitVec.ofNat 8 (256 - 2 ^ (8 - keep)))

/-- PE_SERIAL: R63, R408, R492. The bits leave on PE_MOSI under one chip select (Group.pe). `miso` holds what the PE device answers, byte 0 in its lowest bits. -/
def peSerial (miso : BitVec 128) (c : Consumed) (_id : Nat) (_p : Bytes) (s : State) : Act :=
  let g := par c.d 24 1
  let div := par c.d 26 2
  let n := par c.d 28 1
  if 16 ≤ g ∨ 4 ≤ par c.d 25 1 ∨ div < 20 ∨ 1000 < div ∨ n < 8 ∨ 128 < n then refuse badParam s
  else if s.fenced (716 + g) then refuse fencedCode s
  else if s.gated 18 then refuse notReady s
  else
    let t : PeTransfer := ⟨par c.d 25 1, div, n, firstBits n (toLe 16 (par c.d 32 16))⟩
    success (firstBits n (toLe 16 miso.toNat)) (s.modGroup g (fun q => { q with pe := some t }))

/-- TEMP_READ: Table 2-9. -/
def tempRead (c : Consumed) (s : State) : Act :=
  let k := par c.d 24 1
  if 24 ≤ k then refuse badParam s else success (toLe 2 (Tab.get 0 s.cal.sensors k)) s

/-- SELFTEST: Table 2-9. The manual gives neither the scopes nor the report: an open number of open bytes. -/
def selftest (c : Consumed) (_id : Nat) (_p : Bytes) (s : State) : Act :=
  if (List.range 64).any (fun i => s.site i == stRunning) then refuse busy s
  else
    let (r, s) := s.draw
    let n := r % (c.d.length.toNat + 1)
    let (out, s) := s.drawBytes n
    .done ok (toLe 4 n) out s

/-! ## Data (R70, R288, R423, R432–R435) -/

def memUncorr : Nat := 0x0804
def collided : Nat := 0x0073

/-- An uncorrectable error that a job meets at address `a` of a space (0 vector memory, 1 scratchpad, 2 capture SRAM). -/
def State.readError (s : State) (space a : Nat) : State :=
  if space = 0 then
    let k := s.pcOf a
    s.takeFaults [pcFault k 0x21 2 4 a]
  else
    let m : FaultMsg := { source := BitVec.ofNat 10 (702 + space), kind := 0x21, sev := 2, access := 4,
                          address := BitVec.ofNat 40 ((if space = 1 then 0x10000000 else 0x20000000) + a) }
    s.takeFaults [m]

/-- MEM_WRITE: R70, R288. `clash` is the offset of a byte that a control core writes in the cycle in which its word of the
scratchpad (32 bytes) or of capture SRAM (8 bytes) issues: that word is lost, and the job ends (R432, R434). -/
def memWrite (clash : Option Nat) (c : Consumed) (_id : Nat) (p : Bytes) (s : State) : Act :=
  let space := par c.d 24 1
  let a := par c.d 28 8
  if 2 < space then refuse badParam s
  else if ¬ s.spaceOk space a p.length then refuse outOfRange s
  else if space = 2 ∧ s.loupeActive then refuse busy s
  else if space = 0 then
    let s := s.dumpsWritten
    success [] { s with vmem := s.vmem.writeN a p }
  else
    let w := if space = 1 then 32 else 8
    let put (q : Bytes) : State :=
      if space = 1 then { s with pad := s.pad.writeN a q } else { s with cap := s.cap.writeN a q }
    match clash with
    | some o => .done collided [] [] (put (p.take ((a + o) / w * w - a)))
    | none => success [] (put p)

/-- MEM_READ: R70. `bad` is the offset of the first byte whose word has an uncorrectable error (Table 17-4). -/
def memRead (bad : Option Nat) (c : Consumed) (_id : Nat) (_p : Bytes) (s : State) : Act :=
  let space := par c.d 24 1
  let a := par c.d 28 8
  let n := c.d.length.toNat
  let s := s.dumpsWritten
  let data (n : Nat) : Bytes := (if space = 0 then s.vmem else if space = 1 then s.pad else s.cap).readN a n
  if 2 < space then refuse badParam s
  else if ¬ s.spaceOk space a n then refuse outOfRange s
  else match bad with
    | some o =>
      let m := (a + min o (n - 1)) / 8 * 8 - a
      .done memUncorr (toLe 4 m) (data m) (s.readError space (a + o))
    | none => .done ok (toLe 4 n) (data n) s

/-- LOUPE_READ: R288. `bad` is the offset in the readout of the first unit with an uncorrectable error and, if that unit
lies in spill, its vector-memory address (R435, Table 17-4). -/
def loupeRead (bad : Option (Nat × Option (BitVec 36))) (c : Consumed) (_id : Nat) (_p : Bytes) (s : State) : Act :=
  let off := par c.d 24 8
  let n := min c.d.length.toNat (s.ilen - off)
  if s.rd LP_STAT.STATE = 0 then refuse notReady s
  else if s.ilen ≤ off then refuse outOfRange s
  else if s.unreadable off n then refuse busy s
  else match bad with
    | some (o, va) =>
      let s' := match va with
        | some a => s.readError 0 a.toNat
        | none => s.readError 2 0
      .done memUncorr (toLe 4 (min o n)) ((s.image.drop off).take (min o n)) s'
    | none => .done ok (toLe 4 n) ((s.image.drop off).take n) s

/-! ## Commands -/

/-- MEM_WRITE: R70, R432. -/
def execMemWrite (d : Desc) (p : Bytes) (clash : Option Nat) (s : State) : Host.Outcome State Fault Refusal :=
  .next (s.serveJob 0x0800 d p (memWrite clash))

/-- MEM_READ: R70, R423, R433. -/
def execMemRead (d : Desc) (bad : Option Nat) (s : State) : Host.Outcome State Fault Refusal :=
  .next (s.serveJob 0x0801 d [] (memRead bad))

/-- LOUPE_READ: R288, R435. -/
def execLoupeRead (d : Desc) (bad : Option (Nat × Option (BitVec 36))) (s : State) : Host.Outcome State Fault Refusal :=
  .next (s.serveJob 0x0406 d [] (loupeRead bad))

/-- IDENT: R2. -/
def execIdent (d : Desc) (s : State) : Host.Outcome State Fault Refusal := .next (s.serve 0x0100 d identCmd)

/-- STATUS: R63. -/
def execStatus (d : Desc) (s : State) : Host.Outcome State Fault Refusal := .next (s.serve 0x0101 d statusCmd)

/-- TIME_GET: R63. -/
def execTimeGet (d : Desc) (s : State) : Host.Outcome State Fault Refusal := .next (s.serve 0x0106 d timeGet)

/-- PE_SERIAL: R492. -/
def execPeSerial (d : Desc) (miso : BitVec 128) (s : State) : Host.Outcome State Fault Refusal :=
  .next (s.serveJob 0x0107 d [] (peSerial miso))

/-- TEMP_READ: Table 2-9. -/
def execTempRead (d : Desc) (s : State) : Host.Outcome State Fault Refusal := .next (s.serve 0x0605 d tempRead)

/-- SELFTEST: Table 2-9. -/
def execSelftest (d : Desc) (s : State) : Host.Outcome State Fault Refusal := .next (s.serveJob 0x0606 d [] selftest)

end Sys2Proof.Machine
end

