-- ==== Sys2Proof/Machine/Lanes.lean ====
section
/-!
DEFINITION. The host link's lanes (15): bring-up from DETECT, ACTIVE, retrains, rate steps and RECOVERY.
-/
namespace Sys2Proof.Machine

/-- Fields of the link changed. -/
def State.modLink (s : State) (f : Link → Link) : State := { s with link := f s.link }

/-- Host lane `l` has unit ID 660 + l (R376). -/
def laneUnit (l : Nat) : Nat := 660 + l

/-- Every lane visited. -/
def forLanes (f : Nat → State → State) (s : State) : State := forAll (List.range 16) f s

/-! ## Eye scans (R394) -/

/-- The report of Table 15-7 with the first `n` of its 4,160 points scanned; the counts and the instants that no command
carries are open. -/
def State.eyeReport (s : State) (lane n : Nat) (t0 t1 : Nat) : Bytes × State :=
  let point (i : Nat) : Bytes := toLe 4 (if i < n then Config.freeNat (s.free + i) % (2 ^ 20 + 1) else 0xFFFFFFFF)
  (toLe 1 1 ++ toLe 1 lane ++ toLe 1 (s.rd HL_STAT.RATE) ++ toLe 1 (b2n (n == 4160)) ++ toLe 4 1048576
    ++ toLe 8 t0 ++ toLe 8 t1 ++ zeros 8 ++ (List.range 4160).flatMap point,
   { s with free := s.free + 4160 })

/-- Why a started EYE_SCAN is refused whatever else runs (R394). -/
def State.scanRefusal (s : State) (d : Desc) : Option Nat :=
  let l := par d 24 1
  if 16 ≤ l then some badParam
  else if d.length.toNat < 16672 then some outOfRange
  else if ¬ s.on HL_LnSTAT.ACTIVE 0 l ∨ s.fenced (laneUnit l) then some fencedCode
  else none

/-- The eye scan that runs: the first one started that is not refused. -/
def State.scanning (s : State) : Option Job :=
  s.mbx.jobs.find? (fun j => j.started && j.cmd.op == 0x0A01 && (s.scanRefusal j.cmd.d).isNone
    && s.mbx.jobs.all (fun x => !(x.started && x.cmd.op == 0x0A01 && (s.scanRefusal x.cmd.d).isNone) || decide (j.since ≤ x.since)))

/-- An eye scan of a lane that `p` picks ends with ABORTED; the points scanned so far, an open number, are kept (R394). -/
def State.abortScans (s : State) (p : Nat → Bool) : State :=
  match s.scanning with
  | some j =>
    if p (par j.cmd.d 24 1) then
      let (n, s) := s.draw
      let (r, s) := s.eyeReport (par j.cmd.d 24 1) (n % 4160) j.since s.tt
      s.finishJob j aborted (toLe 4 r.length) r
    else s
  | none => s

/-! ## Lanes in and out (R380, R382, Table 18-5) -/

/-- The lanes that a bring-up, retrain or rate step tries: those in service and those whose self-check is this training
(Table 18-5); after RECOVERY all that are not permanently fenced (R380). -/
def State.lanesTried (s : State) (recovery : Bool) : Nat :=
  ofBitList 16 ((List.range 16).filter (fun l =>
    let u := laneUnit l
    !s.fenced u || s.on FC_UNIT.CHECK 0 u || (recovery && !s.on FC_UNIT.PERM 0 u)))

/-- Lanes that have not met a stage's condition are fenced, each with a LANE_FAIL fault (R382); a lane in its self-check
has failed it. -/
def State.failLanes (s : State) (pass : Nat) : State :=
  let out := (bitList 16 s.link.lanesIn).filter (fun l => !bit pass l)
  let s := s.modLink (fun k => { k with lanesIn := ofBitList 16 ((bitList 16 k.lanesIn).filter (bit pass)) })
  let s := out.foldl (fun s l => s.selfCheckDone (laneUnit l) false) s
  s.takeFaults (out.map (fun l => collectorMsg (laneUnit l) 0x30 2))

/-- Lanes that have locked although they are fenced have passed their self-check (Table 18-5). -/
def State.admitLanes (s : State) : State :=
  (bitList 16 s.link.lanesIn).foldl (fun s l => if s.fenced (laneUnit l) then s.unfence (laneUnit l) else s) s

/-- Lanes leave use. -/
def State.idleLanes (s : State) : State :=
  forLanes (fun l s => ((s.wr HL_LnSTAT.BITLOCK 0 0 l).wr HL_LnSTAT.DESKEW 0 0 l).wr HL_LnSTAT.ACTIVE 0 0 l) s

/-- The link leaves ACTIVE: eye scans end and the trim code holds (R394, R404). -/
def State.leaveActive (s : State) : State :=
  ((s.abortScans (fun _ => true)).wr CK_OSC.TBUSY 0).modLink (fun k => { k with locking := false, resends := 0 })

/-- Bring-up starts from DETECT, at rate code 0 (R382). -/
def State.enterDetect (s : State) (recovery : Bool) : State :=
  let s := s.leaveActive
  let s := forLanes (fun l s => (s.wr HL_LnSTAT.DET 0 0 l).wr HL_LnCTL.SYMLOCK 0 0 l) s.idleLanes
  let s := s.wrs 0 [(HL_STAT.STAGE, 0), (HL_STAT.WIDTH, 0), (HL_STAT.RATE, 0)]
  s.modLink (fun k => { k with lanesIn := s.lanesTried recovery, fresh := true, capsIn := false, chosen := 0 })

/-- Bring-up ends in RECOVERY (R380). -/
def State.enterRecovery (s : State) : State := s.wr HL_STAT.STAGE 5

/-- The device retrains (R391), or carries out a rate step (R393), on the lanes in service. -/
def State.startTraining (s : State) (stage rate : Nat) : State :=
  let s := s.leaveActive.idleLanes.wr HL_STAT.STAGE stage
  s.modLink (fun k => { k with lanesIn := s.lanesTried false, newRate := rate })

/-- A retrain at the current rate; HL_ERR counts it. -/
def State.retrain (s : State) : State := (s.inc HL_ERR.RETRAIN).startTraining 7 (s.rd HL_STAT.RATE)

/-- A rate step; the recovered phase may differ, so ALIGNED clears (R393). -/
def State.rateStep (s : State) (rate : Nat) : State := (s.wr SY_STAT.ALIGNED 0).startTraining 6 rate

/-- Frames not yet acknowledged leave again; TXTS is of the new passage (R388, R390). -/
def State.resendAll (s : State) : State :=
  s.modLink (fun k => { k with unacked := k.unacked.map (fun f => { f with txts := s.txts }) })

/-- FSEQ counts from 0: the frames that wait for an acknowledgement are numbered anew (R390; DEDUCED, log entry 25). -/
def Link.renumber (k : Link) : Link :=
  { k with unacked := k.unacked.mapIdx (fun i f => { f with fseq := i % 65536 }), txSeq := k.unacked.length % 65536, rxSeq := 0 }

/-- The link enters ACTIVE on the lanes that are in (R384, R390, R391); a trim run starts (R404). -/
def State.enterActive (s : State) (rate : Nat) : State :=
  let w := ones 16 s.link.lanesIn
  let ref := s.rd HL_STAT.REFLANE
  let s := s.wrs 0 [(HL_STAT.STAGE, 4), (HL_STAT.WIDTH, w), (HL_STAT.RATE, rate), (HW_LINK.WIDTH, w), (HW_LINK.RATE, rate),
    (HW_LINK.REFLANE, ref), (CK_OSC.TBUSY, 1)]
  let s := forLanes (fun l s => s.wr HL_LnSTAT.ACTIVE (b2n (bit s.link.lanesIn l)) 0 l) s
  let s := s.modLink (fun k => let k := if k.fresh then k.renumber else k; { k with fresh := false, locking := false, resends := 0 })
  let s := { s with clk := { s.clk with boot := max s.clk.boot 10, trimWait := false, trim := none } }
  s.resendAll.flushLink

/-- The reference lane of R379 among the lanes that have locked. -/
def State.chooseReference (s : State) : Option Nat :=
  let first := s.rd HL_CTL.REFPREF
  (first :: (List.range 4).filter (· != first)).find? (bit s.link.lanesIn)

/-- Lanes of the mask marked in a status bit. -/
def State.markLanes (s : State) (f : Field) : State := forLanes (fun l s => s.wr f (b2n (bit s.link.lanesIn l)) 0 l) s

/-- Every lane that is in has locked and is deskewed (R383). -/
def State.lockLanes (s : State) : State :=
  (((s.admitLanes.markLanes HL_LnSTAT.BITLOCK).markLanes HL_LnSTAT.DESKEW).markLanes HL_LnCTL.SYMLOCK)

end Sys2Proof.Machine
end

