-- ==== Sys2Proof/Machine/Clock.lean ====
section
/-!
DEFINITION. Clocks (16): ready flags, loss of the reference, the oscillator's trim, the frequency counter, gates and the
regulators' settings.
-/
namespace Sys2Proof.Machine

/-! ## Ready flags (R395) -/

/-- Domain `d` of Table 1-5 is ready. -/
def State.ready (s : State) (d : Nat) : Bool := 1 ≤ d && d ≤ 25 && bit (s.rd CK_READY.READY) (d - 1)

/-- `n` domains from `d` upward become ready or not. -/
def State.setReady (s : State) (d n : Nat) (b : Bool) : State :=
  s.wr CK_READY.READY (setBits (s.rd CK_READY.READY) (d - 1) n (if b then 2 ^ n - 1 else 0))

/-- A fault of the clock and reset unit (unit ID 708). -/
def clockFault (kind sev : Nat) : FaultMsg := collectorMsg 708 kind sev

/-- The domains a PLL feeds, first and number: link, main, memory 0, memory 1, ring, control (Table 16-1). -/
def pllDomains : Nat → Nat × Nat
  | 0 => (22, 1) | 1 => (2, 18) | 2 => (20, 1) | 3 => (21, 1) | 4 => (23, 1) | _ => (24, 1)

/-- The HOLD bit of CK_PLLSTAT of a PLL; the control PLL has none. -/
def holdBit : Nat → Option Nat
  | 0 => some 4 | 1 => some 0 | 2 => some 1 | 3 => some 2 | 4 => some 3 | _ => none

/-- A bit of CK_PLLSTAT.HOLD. -/
def State.setHold (s : State) (k : Nat) (b : Bool) : State :=
  match holdBit k with
  | some i => s.wr CK_PLLSTAT.HOLD (setBits (s.rd CK_PLLSTAT.HOLD) i 1 (b2n b))
  | none => s

/-- The PLL is in holdover or runs free. -/
def State.held (s : State) (k : Nat) : Bool := (holdBit k).any (bit (s.rd CK_PLLSTAT.HOLD))

/-- The reference lane has locked: the link is past LOCK. -/
def State.laneLocked (s : State) : Bool := [3, 4, 6, 7].contains (s.rd HL_STAT.STAGE)

/-- The main PLL has locked: tester time starts at 0, or after a holdover the chips must align anew (R396). -/
def State.mainLocked (s : State) : State :=
  if ¬ s.ttRuns then ({ s with tt := 0, epoch := s.age, ttRuns := true }).newSyncPhase
  else if s.held 1 then s.wr SY_STAT.ALIGNED 0 else s

/-- A PLL locks to its input (R395–R397). The link PLL locks to the reference lane, which makes CK_REF ready after four
monitor windows in range, or else to CK_INT. The firmware selects the control PLL once it is ready. -/
def State.pllLock (s : State) (k : Nat) : State :=
  if k = 0 then
    if s.laneLocked then
      let (r, s) := s.draw
      let s := (((s.setReady 22 1 true).setReady 1 1 true).setHold 0 false).wrs 0
        [(CK_PLLSTAT.LOCK, setBits (s.rd CK_PLLSTAT.LOCK) 0 1 1), (CK_MON.LOST, 0), (CK_MON.COUNT, 98 + r % 5)]
      { s with clk := { s.clk with refSeen := true } }
    else if s.ready 25 then
      ((s.setReady 22 1 true).setHold 0 true).wr CK_PLLSTAT.LOCK (setBits (s.rd CK_PLLSTAT.LOCK) 0 1 1)
    else s
  else if ¬ s.ready 1 then s
  else
    let s := if k = 1 then s.mainLocked else s
    let d := pllDomains k
    let s := ((s.setReady d.1 d.2 true).setHold k false).wr CK_PLLSTAT.LOCK (setBits (s.rd CK_PLLSTAT.LOCK) k 1 1)
    if k = 5 then s.wr CK_SEL.CTLSRC 1 else if k = 4 then s.newSyncPhase else s

/-! ## Gates (R406–R408) -/

/-- A close of the island is refused (Table 16-6). -/
def State.closeRefused (s : State) (i : Nat) : Bool :=
  if i < 16 then (List.range 32).any (fun k => (s.siteOf (32 * i + k)).isSome) || s.rd CH_MSTAT.MODE i != 0
  else if i = 16 then s.loupeActive
  else if i = 17 then s.pzRunning
  else s.mbx.jobs.any (fun j => j.started && j.cmd.op == 0x0107)

/-- PENDING follows the closes that wait. -/
def State.setClosing (s : State) (m : Nat) : State :=
  ({ s with clk := { s.clk with closing := m } }).flag CK_GATESTAT.PENDING (m != 0)

/-- The island's clock stops. -/
def State.stopIsland (s : State) (i : Nat) : State :=
  (s.wr CK_GATESTAT.OPEN (setBits (s.rd CK_GATESTAT.OPEN) i 1 0)).setClosing (setBits s.clk.closing i 1 0)

/-- Closes that wait end as forced closes at once (R402). -/
def State.forceClosing (s : State) : State :=
  if s.clk.closing = 0 then s
  else (forAll (bitList 19 s.clk.closing) (fun i s => s.stopIsland i) s).wr CK_GATESTAT.FORCED 1

/-- GATE_CLOSE: the bits that may not close stay 0; the others wait for idle handshakes (R406, R407). -/
def State.gateClose (s : State) (mask : Nat) : State :=
  let new := (bitList 19 mask).filter (fun i => !bit (s.rd CK_GATE.CLOSE) i)
  let bad := new.filter s.closeRefused
  let good := new.filter (fun i => !s.closeRefused i)
  let s := s.wr CK_GATE.CLOSE (good.foldl (fun v i => setBits v i 1 1) (s.rd CK_GATE.CLOSE))
  let s := s.setClosing (good.foldl (fun v i => setBits v i 1 1) s.clk.closing)
  if bad = [] then s else (s.wr CK_GATESTAT.REFUSED 1).takeFaults [clockFault 0x05 0]

/-- GATE_OPEN: R407. -/
def State.gateOpen (s : State) (mask : Nat) : State :=
  let is := bitList 19 mask
  let s := s.wr CK_GATE.CLOSE (is.foldl (fun v i => setBits v i 1 0) (s.rd CK_GATE.CLOSE))
  let s := s.wr CK_GATESTAT.OPEN (is.foldl (fun v i => setBits v i 1 1) (s.rd CK_GATESTAT.OPEN))
  s.setClosing (is.foldl (fun v i => setBits v i 1 0) s.clk.closing)

/-- A forced close: each access in flight ends with a bus error and an INFO fault that names its master; what access it
was is open (R407). -/
def State.gateForce (s : State) (i : Nat) (masters : List (BitVec 8)) : State :=
  if ¬ bit s.clk.closing i then s
  else
    let s := (s.stopIsland i).wr CK_GATESTAT.FORCED 1
    let (r, s) := s.draw
    let s := if masters = [] then s else { s with bus := ⟨true, [0]⟩ }
    s.takeFaults (masters.map (fun m => infoMsg (masterUnit m.toNat) 0x01 (r % 8) m.toNat (r / 8)))

/-! ## Loss of the reference (R399–R402) -/

/-- Steps 1 and 2 of R400: PE_EN off, sites halted, captures, programs and measurements ended. -/
def State.lossStops (s : State) : State :=
  let s := s.forceAllEn.haltAll 2
  let s := if s.loupeActive then s.stopCapture 3 else s
  let s := forAll (List.range 528) (fun u s => if s.tiaArmed u then s.endMeasure u 4 else s) (s.pzStopAt s.tt)
  forAll (List.range 16) (fun g s => s.abandonCal g true) s

/-- What CK_MON records of a loss. -/
def State.noteLoss (s : State) (byDet : Bool) : State :=
  (s.inc CK_MON.LOSSES).wrs 0 [(CK_MON.LOST, 1), (CK_MON.BYDET, b2n byDet)]

/-- Steps 3 and 4: CK_CTL runs from CK_INT, the PLLs hold, CK_REF and the control PLL are not ready. -/
def State.holdover (s : State) : State :=
  ((s.setReady 1 1 false).setReady 24 1 false).wrs 0 [(CK_SEL.CTLSRC, 0), (CK_PLLSTAT.HOLD, 31), (CK_PLLSTAT.LOCK, 0)]

/-- A loss while CK_INT is ready (R400): the reference lane is fenced and bring-up restarts (R381). -/
def State.lossNow (s : State) (byDet : Bool) : State :=
  let s := ((s.noteLoss byDet).lossStops.holdover).forceClosing
  let s := s.event 11 0xFFFF s.tt [0]
  let s := s.takeFaults [clockFault 0x50 2, collectorMsg (laneUnit (s.rd HL_STAT.REFLANE)) 0x30 2]
  s.enterDetect false

/-- A loss report counts as a new loss: CK_REF has been ready since the last reset and is not lost already (R399, R402). -/
def State.newLoss (s : State) : Bool := s.clk.refSeen && !s.on CK_MON.LOST

/-! ## Trim (R404) -/

/-- A trim run over 64 frame-mark intervals has counted `count` CK_INT cycles. A higher trim code is taken as a higher
frequency (DEDUCED, log entry 26). -/
def State.trimEnd (s : State) (count : Nat) : State :=
  if ¬ s.on CK_OSC.TBUSY then s
  else
    let off := ((count : Int) - 128000).natAbs
    let t := s.rd CK_OSC.TRIM
    let s := s.flag CK_OSC.TRIMOK (decide (off ≤ 128))
    if 64 < off then s.wr CK_OSC.TRIM (if 128000 < count then t - 1 else min 255 (t + 1))
    else
      let p : Periodic := match s.clk.trim with
        | some p => { p with done := s.age }
        | none => { t0 := s.age, prev := s.age, done := s.age }
      { (s.wr CK_OSC.TBUSY 0) with clk := { s.clk with trim := some p } }

/-- A frame mark arrives: a discarded run restarts, and a scheduled one starts once it is due, every 100 ms (R374, R404). -/
def State.frameMark (s : State) : State :=
  let due : Bool := s.clk.trim.any (fun p => decide (p.due 320000000 ≤ s.age))
  if s.linkUp ∧ ¬ s.on CK_OSC.TBUSY ∧ (s.clk.trimWait ∨ due) then
    let trim := if s.clk.trimWait then s.clk.trim else s.clk.trim.map (fun p => p.take s.age)
    { (s.wr CK_OSC.TBUSY 1) with clk := { s.clk with trimWait := false, trim := trim } }
  else s

/-! ## Commands -/

/-- CLOCK_SELECT: R398. -/
def execClockSelect (pll : Bool) (s : State) : Host.Outcome State Fault Refusal :=
  if s.ready (if pll then 24 else 25) then .next (s.flag CK_SEL.CTLSRC pll)
  else .next ((s.wr CK_SEL.REFUSED 1).takeFaults [clockFault 0x05 0])

/-- CTL_DIVIDER_WRITE: R398; a value outside 4–16 leaves the divider as it is. -/
def execCtlDividerWrite (v : BitVec 5) (s : State) : Host.Outcome State Fault Refusal :=
  if s.on CK_OSC.TBUSY then .next ((s.wr CK_SEL.REFUSED 1).takeFaults [clockFault 0x05 0])
  else if 4 ≤ v.toNat ∧ v.toNat ≤ 16 then .next (s.wr CK_CTLDIV.DIV v.toNat)
  else .next s

/-- Both domains of the frequency counter are ready. -/
def State.countable (s : State) : Bool := s.ready (s.rd CK_FCCTL.MEAS) && s.ready (s.rd CK_FCCTL.REF)

/-- The count ends without a result. -/
def State.countNotReady (s : State) : State :=
  { (s.wrs 0 [(CK_FCCTL.NREADY, 1), (CK_FCRES.COUNT, 0)]) with clk := { s.clk with counting := false } }

/-- FREQ_COUNT_START: R405. -/
def execFreqCountStart (s : State) : Host.Outcome State Fault Refusal :=
  let s := s.wrs 0 [(CK_FCCTL.DONE, 0), (CK_FCCTL.NREADY, 0)]
  .next (if s.countable then { s with clk := { s.clk with counting := true } } else s.countNotReady)

/-- FREQ_COUNT_DONE: R405. -/
def execFreqCountDone (count : BitVec 32) (s : State) : Host.Outcome State Fault Refusal :=
  if ¬ s.clk.counting then .next s
  else if ¬ s.countable then .next s.countNotReady
  else .next { (s.wrs 0 [(CK_FCCTL.DONE, 1), (CK_FCRES.COUNT, count.toNat)]) with clk := { s.clk with counting := false } }

/-- GATE_CLOSE: R406. -/
def execGateClose (mask : BitVec 19) (s : State) : Host.Outcome State Fault Refusal := .next (s.gateClose mask.toNat)

/-- GATE_OPEN: R407. -/
def execGateOpen (mask : BitVec 19) (s : State) : Host.Outcome State Fault Refusal := .next (s.gateOpen mask.toNat)

/-- GATE_HANDSHAKE_IDLE: R407. -/
def execGateHandshakeIdle (island : Fin 19) (s : State) : Host.Outcome State Fault Refusal :=
  .next (if bit s.clk.closing island then s.stopIsland island else s)

/-- GATE_FORCE_TIMEOUT: R407. -/
def execGateForceTimeout (island : Fin 19) (masters : List (BitVec 8)) (s : State) : Host.Outcome State Fault Refusal :=
  .next (s.gateForce island masters)

/-- REGULATOR_WRITE: a part of 0 leaves its field as it is; port 0 has no regulator (R418). -/
def execRegulatorWrite (port : Fin 7) (v : BitVec 32) (s : State) : Host.Outcome State Fault Refusal :=
  let put (f : Field) (x : Nat) (s : State) : State := if x = 0 then s else s.wr f x 0 port
  if port = 0 then .next s
  else .next (put MC_PORT.BURST (bits v.toNat 20 8) (put MC_PORT.GCAP (bits v.toNat 10 10) (put MC_PORT.RATE (bits v.toNat 0 10) s)))

/-- PLL_LOCK: R395. -/
def execPllLock (pll : Fin 6) (s : State) : Host.Outcome State Fault Refusal := .next (s.pllLock pll)

/-- TRIM_RUN_END: R404. -/
def execTrimRunEnd (count : Nat) (s : State) : Host.Outcome State Fault Refusal := .next (s.trimEnd count)

/-- FRAME_MARK: R389. -/
def execFrameMark (s : State) : Host.Outcome State Fault Refusal := .next s.frameMark

/-- MARK_GAP: the gap is counted, with an INFO fault; a trim run that meets it starts again at the next mark (R389, R404). -/
def execMarkGap (s : State) : Host.Outcome State Fault Refusal :=
  if ¬ s.linkUp then .next s
  else
    let s := { (s.inc HL_MARKS.GAPS) with clk := { s.clk with trimWait := s.clk.trimWait || s.on CK_OSC.TBUSY } }
    .next ((s.wr CK_OSC.TBUSY 0).takeFaults [collectorMsg 709 0x31 0])

end Sys2Proof.Machine
end

