-- ==== Sys2Proof/Machine/Secure.lean ====
section
/-!
DEFINITION. The security core (19): keys, attestation, alarms, update sessions and activation, and the calibration seal
(12).
-/
namespace Sys2Proof.Machine

/-- The security core changed. -/
def State.modSec (s : State) (f : Security → Security) : State := { s with sec := f s.sec }

/-- Device updates are locked (R466). -/
def State.locked (s : State) : Bool := s.on SC_STAT.LOCKED

/-- LOCKED as both windows show it. -/
def State.setLocked (s : State) (b : Bool) : State := (s.flag SC_STAT.LOCKED b).flag CA_STAT.LOCKED b

/-! ## Alarms (R465–R467) -/

/-- The owner keys and the seal private key are zeroised (R466, R467). -/
def State.eraseKeys (s : State) : State :=
  let s := s.modSec (fun c => { c with ownerKey := [], sealKey := [], marker := false })
  s.wrs 0 [(SC_STAT.OWNER, 0), (SC_STAT.SEALKEY, 0), (SC_LMSREM_SEAL.LEFT, 0), (CA_STAT.KEYLOST, 1)]

/-- The trip is entered into the alarm log, over the oldest of 32 entries. -/
def State.logAlarm (s : State) (cls policy : Nat) : State :=
  let e := s.sec.alogNext % 32
  let s := [(SC_ALOG.CLASS, cls), (SC_ALOG.POLICY, policy), (SC_ALOG.LOCKED, b2n (policy == 1)), (SC_ALOG.ERASED, b2n (policy == 2)),
    (SC_ALOG.PWRCNT, s.sec.powerOns), (SC_ALOG.TIME, s.tt)].foldl (fun (s : State) p => s.wr p.1 p.2 0 e) s
  s.modSec (fun c => { c with alogNext := (e + 1) % 32 })

/-- A sensor of class `cls` trips (R465, R466). A trip of a class within 1 ms of its last only counts; without tester time
`again` tells. A clock glitch restarts the oscillator with its fuse trim (R403). -/
def State.alarm (s : State) (cls : Nat) (again : Bool) : State :=
  let soon : Bool := match Tab.find s.sec.lastTrip cls with
    | some t => if s.ttRuns then decide (s.age < t + 3200000) else again
    | none => false
  let s := (s.inc SC_ALMCNT.COUNT).modSec (fun c => { c with lastTrip := Tab.insert c.lastTrip cls s.age })
  if soon then s
  else
    let policy := s.rd SC_STAT.POLICY
    let s := ((s.haltAll 4).forceAllEn).takeFaults [collectorMsg 694 0x54 2]
    let s := (s.event 12 0xFFFF s.tt (toLe 1 cls ++ toLe 1 policy)).logAlarm cls policy
    let s := if policy = 1 then (s.setLocked true).endActivation updateLocked else if policy = 2 then s.eraseKeys else s
    if cls = 2 then (s.setReady 25 1 false).wrs 0 [(CK_OSC.TRIM, CK_OSC.TRIM.reset 0), (CK_OSC.TRIMOK, 0)] else s

/-! ## Provisioning (R462, R463, R468) -/

/-- A key record's content is sound (R463, order 2). -/
def State.recordOk (s : State) (p : Bytes) : Bool :=
  let t := field p 1 1
  let rev := field p 20 1
  field p 0 1 == 1 && zeroAt p 2 2 && dieIdOk p 4 && zeroAt p 21 3 && zeroAt p 177 15
    && (if t = 1 then rev == 0
        else t == 2 && field p 16 4 == 0 && decide (rev < 4) && zeroAt p 24 153
          && (List.range 4).any (fun k => k != rev && !bit (s.rd SC_STAT.REVOKED) k))

/-- The signer class and OWNSEQ that a key record must have (R462): its class, if they are right. -/
def State.recordSigner (s : State) (p : Bytes) : Option Nat :=
  let cls := field p (192 + 3) 1
  if field p 1 1 = 2 then (if cls = 1 ∧ field p (192 + 4) 2 ≠ field p 20 1 then some 1 else none)
  else if s.on SC_STAT.OWNER then (if cls = 2 ∧ field p 16 4 = s.rd SC_OWNSEQ.SEQ then some 2 else none)
  else if cls = 1 ∧ field p 16 4 = 0 then some 1
  else none

/-- The seal key is generated if none is present (R462). -/
def State.makeSealKey (s : State) : State :=
  if s.on SC_STAT.SEALKEY then s
  else
    let (k, s) := s.drawBytes 153
    (s.modSec (fun c => { c with sealKey := k })).wrs 0
      [(SC_STAT.SEALKEY, 1), (SC_LMSREM_SEAL.LEFT, 32768), (CA_STAT.KEYLOST, 0)]

/-- KEY_PROVISION: R462, R463. -/
def keyProvision (v : Verdict) (_c : Consumed) (_id : Nat) (p : Bytes) (s : State) : Act :=
  if s.locked then refuse updateLocked s
  else if ¬ s.recordOk p then refuse badParam s
  else match s.recordSigner p with
    | none => refuse authFail s
    | some cls =>
      match s.verify p 192 3 cls v with
      | some e => refuse e s
      | none =>
        if field p 1 1 = 2 then success [] (s.wr SC_STAT.REVOKED (setBits (s.rd SC_STAT.REVOKED) (field p 20 1) 1 1))
        else
          let s := (s.modSec (fun c => { c with ownerKey := (p.drop 24).take 153 })).wr SC_STAT.OWNER 1
          success [] (s.bump SC_OWNSEQ.SEQ).makeSealKey

/-- ALARM_POLICY: R468. -/
def alarmPolicy (v : Verdict) (c : Consumed) (_id : Nat) (p : Bytes) (s : State) : Act :=
  let pol := par c.d 24 1
  if 2 < pol ∨ field p 1 1 ≠ pol ∨ field p 0 1 ≠ 1 ∨ 2 ≤ field p 2 1 ∨ ¬ zeroAt p 3 1 ∨ ¬ dieIdOk p 4 then refuse badParam s
  else if ¬ s.on SC_STAT.OWNER ∨ field p 16 4 ≠ s.rd SC_OWNSEQ.SEQ then refuse authFail s
  else match s.verify p 20 5 2 v with
    | some e => refuse e s
    | none =>
      let s := (s.wr SC_STAT.POLICY pol).bump SC_OWNSEQ.SEQ
      success [] (if field p 2 1 = 1 then s.setLocked false else s)

/-! ## Attestation (R459, R464) -/

/-- The content of Table 19-4. -/
def State.attestation (s : State) (nonce : Bytes) : Bytes :=
  let a := s.sec.active
  let flags := s.rd SC_STAT.OWNER + 2 * s.rd SC_STAT.SEALKEY + 4 * s.rd SC_STAT.LOCKED + 8 * s.rd CA_STAT.SEALOK
    + 16 * b2n (s.rd SC_STAT.SESSION != 0)
  let hash (k : Bytes) : Bytes := if k = [] then zeros 48 else digest k
  toLe 1 1 ++ toLe 1 (s.rd SC_STAT.BOOT) ++ toLe 1 0xB1 ++ toLe 1 (s.rd HW_ID.IFVER) ++ toLe 2 (s.rd SC_FWVER.ACTIVE)
    ++ toLe 1 (s.rd CK_STRAP.CHIPID) ++ toLe 1 flags ++ toLe 12 Config.dieId.toNat ++ toLe 4 (s.rd SC_SVN.SVN)
    ++ toLe 4 (s.rd SC_MINSVN.MIN) ++ toLe 4 (s.rd CA_SEALCNT.COUNT) ++ toLe 1 (s.rd SC_STAT.POLICY)
    ++ toLe 1 (s.rd SC_STAT.REVOKED) ++ toLe 2 (s.rd SQ_UROMID.ROMID) ++ toLe 4 a.patchver ++ toLe 4 (s.rd SC_ALMCNT.COUNT)
    ++ toLe 4 (s.rd SC_OWNSEQ.SEQ) ++ fit 48 a.dig ++ hash s.sec.ownerKey ++ hash s.sec.sealKey ++ toLe 8 s.tt
    ++ fit 32 nonce ++ toLe 4 (s.rd SC_LMSREM_ID.LEFT) ++ zeros 20

/-- ATTEST: R464. The leaf index advances before the signature leaves (R459). -/
def attest (c : Consumed) (_id : Nat) (_p : Bytes) (s : State) : Act :=
  if c.d.length.toNat < 2140 then refuse outOfRange s
  else if s.rd SC_LMSREM_ID.LEFT = 0 then refuse keyExhausted s
  else
    let s := s.wr SC_LMSREM_ID.LEFT (s.rd SC_LMSREM_ID.LEFT - 1)
    let r := s.attestation ((toLe 40 c.d.params.toNat).take 32)
    let (b, s) := s.signatureBlock 6 3 256 1772
    .done ok (toLe 4 2140) (r ++ b) s

/-! ## The calibration seal (R333–R337) -/

/-- A record body is sound in its own bytes. -/
def bodyOk (b : Bytes) : Bool :=
  field b 0 1 == 1 && zeroAt b 1 3 && zeroAt b 112 16 && dieIdOk b 4
    && (List.range 16).all (fun m => (List.range 8).all (fun p => zeroAt b (640 + 128 * m + 16 * p + 14) 2))

/-- A copy of the sealed record in MRAM is valid (R333, R334). -/
def recordValid (b : Option Bytes) : Bool := b.any (fun b => b.length == 4800 && bodyOk b)

/-- The newer valid copy of the sealed record is in force; without one every table is zero (R334). -/
def State.loadRecord (s : State) : State :=
  let c := s.cal
  let c := if recordValid c.record then c else { c with record := c.older, older := c.record }
  if recordValid c.record then { s with cal := c }.wr CA_STAT.SEALOK 1
  else ({ s with cal := { c with record := none } }.wr CA_STAT.SEALOK 0).takeFaults [collectorMsg 705 0x51 2]

/-- A record body with SEALCNT set. -/
def withSealCount (b : Bytes) (n : Nat) : Bytes := b.take 16 ++ toLe 4 n ++ b.drop 20

/-- A calibration is in progress. -/
def State.calibrating (s : State) : Bool := (List.range 16).any (fun g => (s.calg g).stage != 0)

/-- A new sealed record is in force: its tables, and every channel is due (R336). -/
def State.newRecord (s : State) (b : Bytes) : State :=
  let s := { s with cal := { s.cal with older := s.cal.record, record := some b, resealed := List.range 512 } }
  let s := (List.range 20).foldl State.recompute (s.wr CA_STAT.SEALOK 1)
  (forAll (List.range 512) State.refreshDue s).refreshFix

/-- CAL_SEAL_WRITE: R335, R336. -/
def calSealWrite (v : Verdict) (_c : Consumed) (_id : Nat) (p : Bytes) (s : State) : Act :=
  let b := p.take 4800
  let a := p.drop 4804
  let n := s.rd CA_SEALCNT.COUNT
  if s.locked then refuse 0x0503 s
  else if (List.range 64).any s.busySite ∨ s.calibrating then refuse busy s
  else if ¬ bodyOk b ∨ ¬ [1452, 1612, 1772].any (fun l => p.length == 4804 + 52 + 112 + l) then refuse badParam s
  else if field p 4800 4 ≠ n then refuse 0x0502 s
  else if n = 0xFFFFFFFF then refuse outOfRange s
  else if ¬ s.on SC_STAT.OWNER then refuse authFail s
  else if a.take 52 ≠ digest (withSealCount b 0) ++ toLe 4 n ∨ (s.verify a 52 4 2 v).isSome then refuse sigFail s
  else
    .done ok (toLe 4 (n + 1)) [] ((s.newRecord (withSealCount b (n + 1))).wr CA_SEALCNT.COUNT (n + 1))

/-- The content of the seal report (R337). -/
def State.sealReport (s : State) (nonce : Bytes) : Bytes :=
  toLe 4 (s.rd CA_SEALCNT.COUNT)
    ++ toLe 1 (s.rd CA_STAT.SEALOK + 2 * s.rd CA_STAT.FIXMATCH + 4 * s.rd CA_STAT.KEYLOST) ++ zeros 3 ++ toLe 8 s.tt
    ++ fit 40 nonce ++ zeros 8 ++ zeros 64 ++ fit 4800 (s.cal.record.getD [])

/-- CAL_SEAL_READ: R337. With KEYLOST the signature block is all zero. -/
def calSealRead (c : Consumed) (_id : Nat) (_p : Bytes) (s : State) : Act :=
  if c.d.length.toNat < 6652 then refuse outOfRange s
  else
    let r := s.sealReport (toLe 40 c.d.params.toNat)
    let done := toLe 4 (s.rd CA_SEALCNT.COUNT)
    if s.on CA_STAT.KEYLOST then .done ok done (r ++ zeros 1724) s
    else if s.rd SC_LMSREM_SEAL.LEFT = 0 then refuse keyExhausted s
    else
      let (b, s) := (s.wr SC_LMSREM_SEAL.LEFT (s.rd SC_LMSREM_SEAL.LEFT - 1)).signatureBlock 7 4 4928 1612
      .done ok done (r ++ b) s

/-! ## Update sessions (R470–R475) -/

/-- Session states (R471). -/
def sessNone : Nat := 0
def sessStaging : Nat := 1
def sessComplete : Nat := 2
def sessActivating : Nat := 3

/-- Chunks received. -/
def Session.received (x : Session) : Nat := ones 96 x.bitmap

/-- The session's registers. -/
def State.showSession (s : State) : State :=
  match s.sec.session with
  | some x => s.wrs 0 [(SC_SESS.RECEIVED, x.received), (SC_SESS.TOTAL, x.img.nchunk), (SC_SESS.IDLEDAYS, x.idle / 86400)]
  | none => s.wrs 0 [(SC_STAT.SESSION, 0), (SC_SESS.RECEIVED, 0), (SC_SESS.TOTAL, 0), (SC_SESS.OPENER, 0), (SC_SESS.IDLEDAYS, 0)]

/-- The session set, and shown. -/
def State.setSession (s : State) (x : Option Session) : State := (s.modSec (fun c => { c with session := x })).showSession

/-- UPDATE_PROGRESS (code 10). -/
def State.progress (s : State) : State :=
  let (r, t) := match s.sec.session with
    | some x => (x.received, x.img.nchunk)
    | none => (0, 0)
  s.event 10 0xFFFF s.tt (toLe 4 r ++ toLe 4 t ++ toLe 1 (s.rd SC_STAT.SESSION))

/-- The image a manifest describes (Table 19-6). -/
def manifestImage (p : Bytes) : Image :=
  let n := field p 18 2
  { fwver := field p 2 2, svn := field p 8 4, floor := field p 12 4, rmin := field p 16 1, rmax := field p 17 1, nchunk := n,
    ilen := field p 20 4, patchver := field p 24 4, dig := (p.drop 64).take 48,
    chunks := (List.range n).map (fun i => (p.drop (112 + 48 * i)).take 48) }

/-- The manifest's own fields are sound (Table 19-7, order 4). -/
def State.manifestOk (s : State) (p : Bytes) : Bool :=
  let m := manifestImage p
  field p 0 2 == 1 && field p 5 1 == 0xB1 && field p 6 2 == s.rd SQ_UROMID.ROMID && zeroAt p 28 36
    && 1 ≤ m.ilen && m.ilen ≤ 6291456 && m.nchunk == ceilDiv m.ilen 65536 && m.floor ≤ m.svn

/-- A new session (R472): COMPLETE if the staging slot holds the image already. -/
def State.openSession (s : State) (m : Image) (ctx : Nat) : State :=
  let here := s.sec.prev.any (fun i => i.dig == m.dig)
  let s := if here then s else (s.modSec (fun c => { c with prev := none })).wr SC_FWVER.PREV 0
  let s := s.wrs 0 [(SC_STAT.SESSION, if here then sessComplete else sessStaging), (SC_SESS.OPENER, ctx)]
  s.setSession (some { img := m, bitmap := if here then 2 ^ m.nchunk - 1 else 0 })

/-- The session has been named (R474). -/
def State.nameSession (s : State) : State := s.setSession (s.sec.session.map (fun x => { x with idle := 0 }))

/-- UPDATE_OPEN: R472. -/
def updateOpen (v : Verdict) (c : Consumed) (_id : Nat) (p : Bytes) (s : State) : Act :=
  if s.locked then refuse updateLocked s
  else if s.rd SC_STAT.SESSION = sessActivating then refuse busy s
  else match s.verify p (112 + 48 * field p 18 2) 1 1 v with
    | some e => refuse e s
    | none =>
      let m := manifestImage p
      if ¬ s.manifestOk p then refuse badParam s
      else if m.svn < s.rd SC_MINSVN.MIN then refuse rollback s
      else if s.sec.session.any (fun x => x.img.dig != m.dig) then refuse 0x0050 s
      else
        let s := (if s.sec.session.isSome then s.nameSession else s.openSession m c.d.ctx.val).progress
        success (toLe 1 (s.rd SC_STAT.SESSION)) s

/-- The length that chunk `k` must have. -/
def Image.chunkLen (m : Image) (k : Nat) : Nat := if k + 1 = m.nchunk then m.ilen - 65536 * (m.nchunk - 1) else 65536

/-- UPDATE_CHUNK: R473. -/
def updateChunk (c : Consumed) (_id : Nat) (p : Bytes) (s : State) : Act :=
  if s.locked then refuse updateLocked s
  else match s.sec.session with
    | none => refuse noSession s
    | some x =>
      let k := par c.d 24 4
      if s.rd SC_STAT.SESSION = sessActivating then refuse busy s
      else if x.img.nchunk ≤ k ∨ p.length ≠ x.img.chunkLen k then refuse badParam s
      else if digest p ≠ x.img.chunks.getD k [] then refuse chunkBad s
      else if bit x.bitmap k then success (toLe 4 (x.img.nchunk - x.received)) s.nameSession
      else
        let x := { x with bitmap := setBits x.bitmap k 1 1, idle := 0 }
        let s := s.modSec (fun c => { c with staging := c.staging.writeN (65536 * k) p })
        let s := if x.received = x.img.nchunk then s.wr SC_STAT.SESSION sessComplete else s
        success (toLe 4 (x.img.nchunk - x.received)) (s.setSession (some x)).progress

/-- UPDATE_STATUS: R475. -/
def updateStatus (_c : Consumed) (s : State) : Act :=
  let s := s.nameSession
  success (toLe 1 (s.rd SC_STAT.SESSION) ++ zeros 3 ++ toLe 4 (s.rd SC_SESS.RECEIVED) ++ toLe 4 (s.rd SC_SESS.TOTAL)) s

/-- UPDATE_ABANDON: R475. -/
def updateAbandon (c : Consumed) (s : State) : Act :=
  if s.sec.session.isNone then refuse noSession s
  else if c.d.ctx.val ≠ s.rd SC_SESS.OPENER ∨ s.rd SC_STAT.SESSION = sessActivating then refuse refusedState s
  else success [] (s.setSession none)

/-! ## Activation (R476–R479) -/

/-- The chunks of the staged image whose digest fails (Table 19-9, step 1). -/
def State.badChunks (s : State) (m : Image) : List Nat :=
  (List.range m.nchunk).filter (fun k => digest (s.sec.staging.readN (65536 * k) (m.chunkLen k)) != m.chunks.getD k [])

/-- UPDATE_ACTIVATE: R476, R477. The check of order 6 is step 1, and a digest failure of a chunk or of the whole image
returns the session to STAGING; steps 2–4 go on without the command. -/
def updateActivate (v : Verdict) (_c : Consumed) (id : Nat) (_p : Bytes) (s : State) : Act :=
  match s.sec.session with
  | none => refuse noSession s
  | some x =>
    let st := s.rd SC_STAT.SESSION
    let m := x.img
    let bad := s.badChunks m
    if st = sessStaging then refuse notStaged s
    else if st = sessActivating then refuse busy s
    else if s.locked then refuse updateLocked s
    else if m.svn < s.rd SC_MINSVN.MIN then refuse rollback s
    else if s.fenced (692 + (1 - s.rd HW_STATUS.ACTIVE)) ∨ s.sec.standbyDown then refuse notReady s
    else if bad ≠ [] ∨ digest (s.sec.staging.readN 0 m.ilen) ≠ m.dig then
      let x := { x with bitmap := bad.foldl (fun b k => setBits b k 1 0) x.bitmap }
      refuse sigFail ((s.wr SC_STAT.SESSION sessStaging).setSession (some x))
    else if ¬ v.ecdsa ∨ ¬ v.lms then refuse sigFail s
    else if s.on SY_STAT.RINGUP ∧ (s.rd SY_VER.CURV < m.rmin ∨ m.rmax < s.rd SY_VER.CURV) then refuse updateIncompatible s
    else .later ((s.wr SC_STAT.SESSION sessActivating).modSec (fun c => { c with act := some { job := id } }))

/-- The commit (Table 19-9, step 4): the slots change places, the standby becomes active, MINSVN rises, the session ends
and the job is answered. -/
def State.commit (s : State) (job : Nat) (m : Image) : State :=
  let old := s.sec.active
  let s := s.modSec (fun c => { c with
    active := m, prev := some old, slot := c.staging, staging := c.slot, act := none, standbyDown := true })
  let s := s.wrs 0 [(SC_SVN.SVN, m.svn), (SC_MINSVN.MIN, max (s.rd SC_MINSVN.MIN) m.floor), (SC_FWVER.ACTIVE, m.fwver),
    (SC_FWVER.PREV, old.fwver), (SY_VER.MINV, m.rmin), (SY_VER.MAXV, m.rmax), (HW_STATUS.ACTIVE, 1 - s.rd HW_STATUS.ACTIVE)]
  let s := { s with mbx := { s.mbx with visit := 0 } }
  (s.setSession none).completeJob job ok [] []

/-! ## Commands -/

/-- KEY_PROVISION: R462. -/
def execKeyProvision (d : Desc) (p : Bytes) (sig : Verdict) (s : State) : Host.Outcome State Fault Refusal :=
  .next (s.serveJob 0x0705 d p (keyProvision sig))

/-- ALARM_POLICY: R468. -/
def execAlarmPolicy (d : Desc) (p : Bytes) (sig : Verdict) (s : State) : Host.Outcome State Fault Refusal :=
  .next (s.serveJob 0x0706 d p (alarmPolicy sig))

/-- ATTEST: R464. -/
def execAttest (d : Desc) (s : State) : Host.Outcome State Fault Refusal := .next (s.serveJob 0x0105 d [] attest)

/-- CAL_SEAL_READ: R337. -/
def execCalSealRead (d : Desc) (s : State) : Host.Outcome State Fault Refusal := .next (s.serveJob 0x0504 d [] calSealRead)

/-- CAL_SEAL_WRITE: R335. -/
def execCalSealWrite (d : Desc) (p : Bytes) (sig : Verdict) (s : State) : Host.Outcome State Fault Refusal :=
  .next (s.serveJob 0x0505 d p (calSealWrite sig))

/-- UPDATE_OPEN: R472. -/
def execUpdateOpen (d : Desc) (p : Bytes) (sig : Verdict) (s : State) : Host.Outcome State Fault Refusal :=
  .next (s.serveJob 0x0700 d p (updateOpen sig))

/-- UPDATE_CHUNK: R473. -/
def execUpdateChunk (d : Desc) (p : Bytes) (s : State) : Host.Outcome State Fault Refusal :=
  .next (s.serveJob 0x0701 d p updateChunk)

/-- UPDATE_STATUS: R475. -/
def execUpdateStatus (d : Desc) (s : State) : Host.Outcome State Fault Refusal := .next (s.serve 0x0702 d updateStatus)

/-- UPDATE_ABANDON: R475. -/
def execUpdateAbandon (d : Desc) (s : State) : Host.Outcome State Fault Refusal := .next (s.serve 0x0703 d updateAbandon)

/-- UPDATE_ACTIVATE: R476. -/
def execUpdateActivate (d : Desc) (sig : Verdict) (s : State) : Host.Outcome State Fault Refusal :=
  .next (s.serveJob 0x0704 d [] (updateActivate sig))

/-- ALARM_TRIP: sensor class `cls` + 1 trips (R465). -/
def execAlarmTrip (cls : Fin 5) (again : Bool) (s : State) : Host.Outcome State Fault Refusal :=
  .next (s.alarm (cls.val + 1) again)

/-- POWERED_TIME_STORE: 60 s of powered time are stored (R474). -/
def execPoweredTimeStore (s : State) : Host.Outcome State Fault Refusal :=
  let s := s.modSec (fun c => { c with powered := c.powered + 60 })
  .next (s.setSession (s.sec.session.map (fun x => { x with idle := x.idle + 60 })))

/-- SESSION_EXPIRY: 30 days of powered time, of which the last minute may not be stored yet, without a command that names
the session (R474). -/
def execSessionExpiry (s : State) : Host.Outcome State Fault Refusal :=
  match s.sec.session with
  | some x =>
    if 2592000 ≤ x.idle + 60 ∧ s.rd SC_STAT.SESSION ≠ sessActivating then .next (s.setSession none).progress else .next s
  | none => .next s

/-- ACTIVATE_STANDBY_READY: R477. -/
def execActivateStandbyReady (s : State) : Host.Outcome State Fault Refusal :=
  match s.sec.act with
  | some a =>
    if s.fenced (692 + (1 - s.rd HW_STATUS.ACTIVE)) then .next s
    else .next (s.modSec (fun c => { c with act := some { a with ready := true } }))
  | none => .next s

/-- ACTIVATE_COMMIT: once the standby is ready and no immediate command is in service (R477). -/
def execActivateCommit (s : State) : Host.Outcome State Fault Refusal :=
  match s.sec.act, s.sec.session with
  | some a, some x => if a.ready ∧ s.mbx.imm = [] then .next (s.commit a.job x.img) else .next s
  | _, _ => .next s

/-- ACTIVATE_FAILED: R478. -/
def execActivateFailed (s : State) : Host.Outcome State Fault Refusal :=
  match s.sec.act with
  | some a => .next (if a.ready then s else s.endActivation activateFailed)
  | none => .next s

/-- STANDBY_RESTART_DONE: R477, step 5. -/
def execStandbyRestartDone (s : State) : Host.Outcome State Fault Refusal :=
  .next (s.modSec (fun c => { c with standbyDown := false }))

end Sys2Proof.Machine
end

