-- ==== Sys2Proof/Machine/Boot.lean ====
section
/-!
DEFINITION. Resets, CLOCK_HOLD and start-up (16): what each kind of reset keeps, the boot steps, and the power of the PE
outputs (20).
-/
namespace Sys2Proof.Machine

/-! ## What resets keep (R409, Table 16-2) -/

/-- The register key belongs to the field, in some instance and copy. -/
def Field.owns (f : Field) (key : Nat) : Bool :=
  let r := key - 8 * f.win.base
  decide (8 * f.win.base ≤ key) && decide (r / (8 * f.win.stride) < f.win.count)
    && (List.range f.n).any (fun k => r % (8 * f.win.stride) == (f.off + k * f.sub) * 8 + f.lo)

/-- Only the registers of the listed fields keep their values. -/
def State.keepRegs (s : State) (fs : List Field) : State :=
  { s with regs := s.regs.filter (fun e => fs.any (fun f => f.owns e.1)) }

/-- Registers whose values stand in MRAM and fuses. -/
def mramFields : List Field := fieldsOf .sc ++ [CA_STAT.KEYLOST, CA_STAT.LOCKED, CA_SEALCNT.COUNT]

/-- Registers that a warm reset keeps beside those: RWS fields, the link, the PLL locks, SY_ADJ, the records, straps, and
the partitions of vector memory (R409, R430, R445). -/
def warmFields : List Field :=
  [HL_STAT.STAGE, HL_STAT.WIDTH, HL_STAT.RATE, HL_STAT.REFLANE, HL_CTL.REFPREF, HL_PEER.MAXRATE, HL_PEER.REQRATE,
   HL_PEER.LANES, HL_LnCTL.SYMLOCK, HL_LnSTAT.DET, HL_LnSTAT.BITLOCK, HL_LnSTAT.DESKEW, HL_LnSTAT.ACTIVE, HW_LINK.WIDTH,
   HW_LINK.RATE, HW_LINK.REFLANE]
  ++ [CK_READY.READY, CK_MON.LOST, CK_MON.LOSSES, CK_PLLSTAT.LOCK, CK_PLLSTAT.HOLD, CK_OSC.TRIM, CK_OSC.TRIMOK,
   CK_STRAP.OSCDLY, CK_STRAP.BOOT, CK_STRAP.TEST, CK_STRAP.CHIPID, CK_RSTCAUSE.RECOV]
  ++ [SQ_UERR.VALID, SY_ADJ.ADJ, SY_CFG.CHIP_ID, FC_FE.DATA, FC_CO.DATA, FC_STAT.FEVALID, FC_STAT.COVALID, FC_STAT.MAXSEV,
   FC_COINCN.COUNT, MC_PC.FENCED, MC_PC.CODE, CA_STAT.SEALOK]

/-- A memory whose whole content is undefined (R283, R409). -/
def Mem.undefined (size epoch : Nat) : Mem := ({} : Mem).scramble 0 size epoch

/-- Memories after a reset: what is not kept is undefined; the host window's rings likewise. -/
def State.clearMemories (s : State) (vector : Bool) : State :=
  { s with
    vmem := if vector then Mem.undefined 0xC00000000 s.free else s.vmem
    pad := Mem.undefined 0x400000 (s.free + 1)
    cap := Mem.undefined 0x2000000 (s.free + 2)
    win := ({} : Mem).scramble 0x10000 0x28000 (s.free + 3)
    free := s.free + 4 }

/-- The security core's registers and store go through a reset; an activation that had not committed is gone and its
session is COMPLETE again (R477, R479). -/
def State.keepSession (s : State) : State :=
  if s.sec.act.isSome then (s.modSec (fun c => { c with act := none, standbyDown := false })).wr SC_STAT.SESSION 2
  else s.modSec (fun c => { c with standbyDown := false })

/-- Everything but MRAM, fuses and what `keep` names is cleared; all units are as after power-on. -/
def State.clear (s : State) (keep : List Field) : State :=
  let s := s.keepSession
  let k := (s.keepRegs (mramFields ++ keep)).clearMemories true
  { pending := s.pending, regs := k.regs, free := k.free, bus := s.bus, ext := s.ext, win := k.win, vmem := k.vmem, pad := k.pad,
    cap := k.cap, sec := s.sec, cal := { record := s.cal.record, older := s.cal.older }, vpe := s.vpe, latch := s.latch }

/-- The ring versions the active image speaks and the chip's strapped number. -/
def State.showVersions (s : State) : State :=
  s.wrs 0 [(SY_VER.MINV, s.sec.active.rmin), (SY_VER.MAXV, s.sec.active.rmax), (SY_CFG.CHIP_ID, s.rd CK_STRAP.CHIPID)]

/-- The cause of the last reset (R411). -/
def State.cause (s : State) (kind : Nat) (pin cmd hold : Bool) : State :=
  s.wrs 0 [(CK_RSTCAUSE.KIND, kind), (CK_RSTCAUSE.PIN, b2n pin), (CK_RSTCAUSE.CMD, b2n cmd), (CK_RSTCAUSE.HOLD, b2n hold)]

/-- The straps latched (R412). -/
def State.latchStraps (s : State) (p : Straps) : State :=
  s.wrs 0 [(CK_STRAP.OSCDLY, p.oscDly.toNat), (CK_STRAP.BOOT, p.bootMode.toNat), (CK_STRAP.TEST, b2n p.testMode),
    (CK_STRAP.CHIPID, p.chipId.toNat)]

/-! ## Start-up (R412, R413) -/

/-- The boot mode of the straps: 0 normal, 1 recovery, 2 factory test. -/
def State.bootMode (s : State) : Nat :=
  let b := s.rd CK_STRAP.BOOT
  if b = 0 then 0 else if b = 2 ∧ s.on CK_STRAP.TEST then 2 else 1

/-- A strap combination that R412 marks as misuse. -/
def State.misuse (s : State) : Bool :=
  let b := s.rd CK_STRAP.BOOT
  if s.on CK_STRAP.TEST then b < 2 else b == 2

/-- Steps 2–6 of Table 16-4: the security core leaves reset, completes an erase (R467), loads the sealed record (R334),
chooses the boot mode and verifies the image (R412), starts the control cores; the link enters DETECT. -/
def State.bootCore (s : State) (imageOk : Bool) : State :=
  let s := s.setReady 25 1 true
  let s := if s.sec.marker then s.eraseKeys else s
  let s := s.loadRecord
  let s := if s.on CA_STAT.SEALOK then s.refreshFix else s
  let mode := s.bootMode
  let s := if s.misuse then s.alarm 5 false else s
  let s := if s.rd CK_STRAP.BOOT = 3 then s.takeFaults [clockFault 0x53 2] else s
  let bad := mode = 0 ∧ ¬ imageOk
  let s := if bad then s.takeFaults [collectorMsg 694 0x52 4] else s
  let s := s.modSec (fun c => { c with imageBad := !imageOk })
  let s := s.wrs 0 [(SC_STAT.BOOT, if bad then 1 else mode), (CK_RSTCAUSE.RECOV, b2n (decide bad || mode == 1)),
    (HW_STATUS.ACTIVE, 0), (CK_SEL.CTLSRC, 0)]
  ({ s with clk := { s.clk with boot := 6 }, latch := false }.showVersions).enterDetect false

/-- A power-on reset; with PWR_GOOD low the device stays in it (R409, R484). -/
def State.powerReset (s : State) : State := ((s.clear []).cause 0 false false false).showVersions

/-- A cold reset: the oscillator keeps running and step 2 is entered at once, or when CK_INT becomes ready (R409, R413).
The image is the one verified before (DEDUCED, log entry 27). -/
def State.coldReset (s : State) (straps : Straps) (pin : Bool) : State :=
  let int := s.ready 25
  let s := (((s.clear [CK_OSC.TRIM]).latchStraps straps).cause 1 pin (!pin) false).showVersions
  let s := { s with clk := { boot := 1 } }
  if int then s.bootCore (!s.sec.imageBad) else s

/-- The straps as latched. -/
def State.straps (s : State) : Straps :=
  ⟨BitVec.ofNat 3 (s.rd CK_STRAP.OSCDLY), BitVec.ofNat 2 (s.rd CK_STRAP.BOOT), s.on CK_STRAP.TEST,
    BitVec.ofNat 6 (s.rd CK_STRAP.CHIPID)⟩

/-- Permanent fences and sequencers with a mask ROM error stay fenced through a warm reset (R450). -/
def State.keepFences (s old : State) : State :=
  let us := (List.range 736).filter (fun u => old.on FC_UNIT.PERM 0 u || old.faults.romFault.contains u)
  let s := us.foldl (fun s u => ((s.wr FC_UNIT.FENCED 1 0 u).wr FC_UNIT.PERM (old.rd FC_UNIT.PERM 0 u) 0 u).wr FC_UNIT.RECOV
    (old.rd FC_UNIT.RECOV 0 u) 0 u) s
  let lanes (lo n : Nat) : Nat := ofBitList n ((List.range n).filter (fun l => s.fenced (lo + l)))
  let s := s.modFaults (fun c => { c with critical := old.faults.critical, romFault := old.faults.romFault })
  s.wrs 0 [(HL_FENCE.FENCED, lanes 660 16), (SY_LINK.EFENCE, lanes 676 8), (SY_LINK.WFENCE, lanes 684 8)]

/-- Control-store regions in error stay so until they are loaded again (SQ_UERR.VALID is RWS). -/
def State.keepBad (s : State) : Tab Seq :=
  s.seqs.foldl (fun t p => Tab.set {} t p.1 { badRegions := p.2.badRegions }) []

/-- What a warm reset clears and keeps (R409, R410): FSEQ restarts at 0, tester time goes on, allocations are freed. -/
def State.warmClear (s : State) : State :=
  let c := s.clear warmFields
  let c := { c with
    vmem := s.vmem, tt := s.tt, epoch := s.epoch, ttRuns := s.ttRuns
    link := { lanesIn := s.link.lanesIn, locking := s.link.locking, fresh := s.link.fresh, capsIn := s.link.capsIn,
              chosen := s.link.chosen, newRate := s.link.newRate }
    clk := { refSeen := s.clk.refSeen, boot := 10 }
    seqs := s.keepBad
    cal := { c.cal with sensors := s.cal.sensors } }
  ((c.keepFences s).showVersions).refreshFix

/-- A warm reset (R409, R413): boot goes on at step 10. -/
def State.warmReset (s : State) : State :=
  let s := (s.warmClear.cause 2 false true false).flag CK_SEL.CTLSRC (s.ready 24)
  { s.flag CK_OSC.TBUSY s.linkUp with latch := false }

/-- Mailbox service begins (steps 11 and 12): the DRAM interfaces take the codes of the sealed delay tables and have been
verified, the control stores are checked, the collector is armed (R413, R425, R426). -/
def State.mailboxReady (s : State) : State :=
  let temp (k : Nat) : Int := sgn 8 (s.rd (if k < 32 then MC_STAT.TEMP0 else MC_STAT.TEMP1))
  let s := forAll (List.range 64) (fun k s => { s.wr MC_PC.CODE (Config.delayCode k (temp k)).toNat 0 k with
    mem := { s.mem with sweepTemp := Tab.insert s.mem.sweepTemp k (unsgn 16 (temp k)) } }) s
  { (s.wr HW_STATUS.MBRDY 1) with clk := { s.clk with boot := 12 }, mbx := { s.mbx with visit := 0 } }

/-- Steps 7–10 are done: CK_REF and every PLL are ready and the link is ACTIVE. -/
def State.bootable (s : State) : Bool := s.clk.boot == 10 && s.linkUp && s.rd CK_READY.READY == 2 ^ 25 - 1

/-! ## CLOCK_HOLD (R401) -/

/-- A loss while CK_INT is not ready: PE_EN goes off, everything clocked from CK_REF, the PLLs or CK_CTL is held in reset,
the security core, MRAM and fault collector keep their state, and the event is latched. -/
def State.enterHold (s : State) (byDet : Bool) : State :=
  let f := s.faults
  let u := s.regs.filter (fun e => (fieldsOf .fc).any (fun x => x.owns e.1))
  let s := (s.noteLoss byDet).warmClear
  let s := u.foldl (fun s e => { s with regs := Tab.insert s.regs e.1 e.2 }) s
  let s := (s.wrs 0 [(CK_MON.HOLD, 1), (CK_MON.BYDET, b2n byDet)]).holdover
  { s with faults := f, clk := { s.clk with latched := true, boot := 6 } }

/-- OSC_DLY has elapsed: the device goes on as after a warm reset with the link from DETECT, and the firmware delivers the
latched event (R401). -/
def State.leaveHold (s : State) : State :=
  let s := ((s.setReady 25 1 true).wr CK_MON.HOLD 0).cause 2 false false true
  let s := if s.clk.latched then s.event 11 0xFFFF s.tt [1] else s
  ({ s with clk := { s.clk with latched := false } }).enterDetect false

/-- The reference is lost (R400, R401); a report that is no new loss changes nothing (R399, R402). -/
def State.refLost (s : State) (byDet : Bool) : State :=
  if ¬ s.newLoss then s
  else if s.ready 25 then s.lossNow byDet
  else s.enterHold byDet

/-! ## Commands -/

/-- DEVICE_RESET: R63, R409. The response is written before the reset begins. -/
def deviceReset (c : Consumed) (s : State) : Act :=
  let kind := par c.d 24 1
  let force := par c.d 25 1
  if kind = 0 ∨ 2 < kind ∨ 1 < force then refuse badParam s
  else if force = 0 ∧ (List.range 64).any s.busySite then refuse refusedState s
  else
    let s := s.answer c ok []
    .later (if kind = 1 then s.warmReset else s.coldReset s.straps false)

/-- DEVICE_RESET: R409. -/
def execDeviceReset (d : Desc) (s : State) : Host.Outcome State Fault Refusal := .next (s.serve 0x0102 d deviceReset)

/-- POWER_ON_RESET: PWR_GOOD rises; the straps are latched and the oscillator starts (R403, R412, R413). -/
def execPowerOnReset (straps : Straps) (s : State) : Host.Outcome State Fault Refusal :=
  let s := (s.powerReset.latchStraps straps).showVersions
  .next { s with clk := { boot := 1 }, sec := { s.sec with powerOns := s.sec.powerOns + 1 } }

/-- POWER_FAIL: PWR_GOOD falls; power-on reset is held until it rises (R409, R484). -/
def execPowerFail (s : State) : Host.Outcome State Fault Refusal := .next s.powerReset

/-- RESET_PIN: RESET_L was low for `ns` (R411). Between 100 ns and 1 µs whether it acts is open. -/
def execResetPin (straps : Straps) (ns : Nat) (s : State) : Host.Outcome State Fault Refusal :=
  if s.clk.boot = 0 ∨ ns < 100 then .next s
  else if 1000 ≤ ns then .next (s.coldReset straps true)
  else
    let (r, s) := s.draw
    .next (if r % 2 = 1 then s.coldReset straps true else s)

/-- OSCILLATOR_READY: CK_INT becomes ready; at start-up the security core goes on (R395, R403, R413). -/
def execOscillatorReady (imageOk : Bool) (s : State) : Host.Outcome State Fault Refusal :=
  if s.on CK_MON.HOLD then .next s.leaveHold
  else if s.clk.boot = 1 then .next (s.bootCore imageOk)
  else if s.clk.boot = 0 then .next s
  else .next (s.setReady 25 1 true)

/-- CLOCK_HOLD_EXIT: R401. -/
def execClockHoldExit (s : State) : Host.Outcome State Fault Refusal := .next (if s.on CK_MON.HOLD then s.leaveHold else s)

/-- REF_LOSS: a window of the monitor ends with its count or the detector reports. A count in 98–102 is no
loss, and inside a rate step none is reported (R399, R400). -/
def execRefLoss (byDetector : Bool) (edges : BitVec 8) (s : State) : Host.Outcome State Fault Refusal :=
  let quiet : Bool := !byDetector && (!s.ready 25 || (decide (98 ≤ edges.toNat) && decide (edges.toNat ≤ 102)))
  let rateStep := s.rd HL_STAT.STAGE == 6
  let s := if byDetector ∨ ¬ s.ready 25 then s else s.wr CK_MON.COUNT edges.toNat
  .next (if rateStep || quiet then s else s.refLost byDetector)

/-- MAILBOX_READY: R413. -/
def execMailboxReady (s : State) : Host.Outcome State Fault Refusal := .next (if s.bootable then s.mailboxReady else s)

/-- What a PE output pair of an engine drives: nothing without VPE, 0 while the latch holds (R490). -/
def State.pePair (s : State) (f : Field) (u : Nat) : Option Bool := if ¬ s.vpe then none else some (!s.latch && s.on f u)

/-- VPE_ENTERS_RANGE: every PE output pair drives logic 0; the latch holds that until reset releases the channel engines
(R221, R490). -/
def execVpeEntersRange (s : State) : Host.Outcome State Fault Refusal := .next { s with vpe := true, latch := true }

/-- VPE_BELOW_RANGE: every PE output pair is at high impedance (R490). -/
def execVpeBelowRange (s : State) : Host.Outcome State Fault Refusal := .next { s with vpe := false }

end Sys2Proof.Machine
end

