-- ==== Sys2Proof/Machine/Link.lean ====
section
/-!
DEFINITION. The host link's events, frames and commands (15).
-/
namespace Sys2Proof.Machine

/-! ## Bring-up (R379–R384) -/

/-- The reference lane has failed: a loss of the reference (which of the two watchers reports it is open), the lane is
fenced, and bring-up restarts (R381). -/
def State.refLaneFail (s : State) : State :=
  let (r, s) := s.draw
  if s.newLoss then s.refLost (r % 2 == 1)
  else (s.takeFaults [collectorMsg (laneUnit (s.rd HL_STAT.REFLANE)) 0x30 2]).enterDetect false

/-- A part of a retrain or a rate step ends: TRAIN, then LOCK (R382, R391, R393). -/
def State.trainingStage (s : State) (pass : Nat) : State :=
  if ¬ bit pass (s.rd HL_STAT.REFLANE) then s.refLaneFail
  else
    let s := s.failLanes pass
    if s.link.locking then s.lockLanes.enterActive s.link.newRate
    else s.modLink (fun k => { k with locking := true })

/-- The end of a bring-up stage; bit l of `pass` tells whether lane l met the stage's condition (Table 15-3). -/
def State.bringupStage (s : State) (pass : Nat) : State :=
  let stage := s.rd HL_STAT.STAGE
  if s.clk.boot < 6 ∨ s.on CK_MON.HOLD then s
  else if stage < 3 then
    let s := s.failLanes pass
    if s.link.lanesIn = 0 then s.enterRecovery
    else if stage = 0 then (s.markLanes HL_LnSTAT.DET).wr HL_STAT.STAGE 1
    else if stage = 1 then s.wr HL_STAT.STAGE 2
    else match s.chooseReference with
      | none => s.enterRecovery
      | some l => s.lockLanes.wrs 0 [(HL_STAT.REFLANE, l), (HL_STAT.STAGE, 3)]
  else if stage = 3 then
    if ¬ s.link.capsIn then s
    else if s.link.chosen = 0 then s.enterActive 0
    else s.startTraining 6 s.link.chosen
  else if stage = 6 ∨ stage = 7 then s.trainingStage pass
  else s

/-- A stage of bring-up times out with no lane passing (R382); in CAPS the condition is the frames', not a lane's. -/
def State.stageTimeout (s : State) : State :=
  let stage := s.rd HL_STAT.STAGE
  if stage < 3 ∧ 6 ≤ s.clk.boot then (s.failLanes 0).enterRecovery
  else if stage = 3 then s.enterRecovery
  else s

/-! ## Receiving (R386, R390) -/

/-- ACK or NAK: the last FSEQ received in order. -/
def State.acknowledge (s : State) (nak : Bool) : State :=
  s.sendControl 0x3E (toLe 2 ((s.link.rxSeq + 65535) % 65536) ++ toLe 1 (b2n nak) ++ zeros 1)

/-- A frame that R386 discards is counted. -/
def State.badFrame (s : State) : State := s.inc HL_ERR.BADFRM

/-- A received frame has neither a code error nor an error marker, and its CRC holds (R385, R390). -/
def headClean (h : RxHead) (type : Nat) (p : Bytes) : Bool :=
  h.clean && h.crc.toNat == crc32 (linkHead type h.flags.toNat h.len.toNat h.fseq.toNat h.tag.toNat h.txts.toNat ++ p)

/-- Its Reserved header bits are zero and LEN is the length of its payload (R386). -/
def headFormed (h : RxHead) (p : Bytes) : Bool := decide (h.flags.toNat < 2 ∧ h.len.toNat = p.length)

/-- A sequenced frame arrives: one with an error or out of order is discarded and brings a NAK; one in order is
acknowledged, and acts if it is well formed, which of its payload `formed` tells (R386, R390). The device does not use its
TXTS (R388). -/
def State.receive (s : State) (h : RxHead) (type : Nat) (p : Bytes) (formed : Bool) (act : State → State) : State :=
  if ¬ s.linkUp then s
  else if ¬ headClean h type p ∨ h.fseq.toNat ≠ s.link.rxSeq then s.acknowledge true
  else
    let s := (s.modLink (fun k => { k with rxSeq := (k.rxSeq + 1) % 65536 })).acknowledge false
    if headFormed h p && formed then act s else s.badFrame

/-- A control frame arrives (R386, R390). -/
def State.receiveControl (s : State) (h : RxHead) (type : Nat) (p : Bytes) (formed : Bool) (act : State → State) : State :=
  if ¬ headClean h type p then s.acknowledge true
  else if headFormed h p && formed then act s else s.badFrame

/-- Every unacknowledged frame is sent again; after 8 resends without progress the link retrains instead (R390, R391). -/
def State.resendRound (s : State) : State :=
  if s.link.unacked = [] then s
  else if 8 ≤ s.link.resends then s.retrain
  else ((s.inc HL_ERR.RESEND).modLink (fun k => { k with resends := k.resends + 1 })).resendAll

/-- Frames up to `n` are acknowledged, if `n` is one of those kept. -/
def Link.release (k : Link) (n : Nat) : Link :=
  match k.unacked.findIdx? (fun f => f.fseq == n) with
  | some i => { k with unacked := k.unacked.drop (i + 1), resends := 0 }
  | none => k

/-- An ACK or a NAK from the host (R390). -/
def State.ackFrame (s : State) (n : Nat) (nak : Bool) : State :=
  if ¬ s.linkUp then s
  else
    let s := (s.modLink (fun k => k.release n)).flushLink
    if nak then s.resendRound else s

/-- The host's CAPS frame: the device chooses the rate and answers with its own; an unknown LINKVER ends CAPS as a timeout
does (R384). -/
def State.capsFrame (s : State) (ver maxrate rate lanes : Nat) : State :=
  if s.rd HL_STAT.STAGE ≠ 3 then s
  else if ver ≠ 1 then s.stageTimeout
  else
    let chosen := min (min rate maxrate) 2
    let s := s.wrs 0 [(HL_PEER.MAXRATE, min maxrate 3), (HL_PEER.REQRATE, min rate 3), (HL_PEER.LANES, lanes)]
    let s := s.modLink (fun k => { k with capsIn := true, chosen := chosen })
    s.sendControl 0x30 (toLe 1 1 ++ toLe 1 3 ++ toLe 1 2 ++ toLe 1 chosen ++ toLe 2 s.link.lanesIn
      ++ toLe 1 (s.rd HL_STAT.REFLANE) ++ zeros 1 ++ toLe 12 Config.dieId.toNat ++ zeros 12)

/-- A RATE frame from the host (R393). -/
def State.rateFrame (s : State) (rate : Nat) : State := if s.linkUp ∧ rate ≤ 2 then s.rateStep rate else s

/-! ## Payload reads (R387) -/

/-- Started jobs ask for what they still want while there are free tags. -/
def State.requestAll (s : State) : State :=
  (s.mbx.jobs.filter (·.started)).foldl (fun s j => s.requestData j.id 64) s

/-- A DMACPL frame: the data of the request with its TAG; otherwise discarded. -/
def State.dmaComplete (s : State) (tag : Nat) (data : Bytes) : State :=
  match s.mbx.reqs.find? (fun r => r.tag == tag) with
  | none => s
  | some r =>
    if data.length ≠ r.len then s.badFrame
    else
      let s := { s with mbx := { s.mbx with reqs := s.mbx.reqs.filter (fun x => x.tag != tag) } }
      (s.modJob r.job (fun j => { j with data := Tab.insert j.data r.off data })).requestAll

/-- A DMARD without its completion ends its job, with an INFO fault from the worker. -/
def State.dmaLost (s : State) (tag : Nat) : State :=
  match s.mbx.reqs.find? (fun r => r.tag == tag) with
  | none => s
  | some r =>
    let w := ((s.job r.job).bind (·.worker)).getD 0
    ((s.completeJob r.job aborted [] []).takeFaults [collectorMsg (695 + w) 0x32 0]).requestAll

/-! ## Commands of the 0x0Axx group -/

/-- LINK_STATUS: R394. -/
def linkStatus (_c : Consumed) (s : State) : Act :=
  success (toLe 1 (s.rd HW_LINK.WIDTH) ++ toLe 1 (s.rd HW_LINK.RATE) ++ toLe 1 (s.rd HW_LINK.REFLANE) ++ zeros 1
    ++ toLe 2 (s.rd HL_FENCE.FENCED)) s

/-- EYE_SCAN: R394. The scan that has run since the job started ends after an open time. -/
def eyeScan (c : Consumed) (id : Nat) (_p : Bytes) (s : State) : Act :=
  match s.scanRefusal c.d with
  | some e => refuse e s
  | none =>
    if s.scanning.any (fun j => j.id != id) then refuse busy s
    else
      let t0 := ((s.job id).map (·.since)).getD s.tt
      let (t, s) := s.draw
      let s := s.reach (s.tt + t % 2 ^ 40)
      let (r, s) := s.eyeReport (par c.d 24 1) 4160 t0 s.tt
      .done ok (toLe 4 16672) r s

/-- An eye scan, COLLIMATE or measurement that LINK_RATE must not disturb (R393, order 3). -/
def State.rateRefused (s : State) : Bool :=
  (List.range 64).any s.busySite || s.loupeActive || (List.range 528).any s.tiaBusy
    || s.mbx.jobs.any (fun j => j.started && j.cmd.op == 0x0902) || s.ring.collecting || s.on SY_STAT.COLLBUSY

/-- LINK_RATE: R393. The response goes out at the old rate, then a RATE frame; the current rate only retrains. -/
def linkRate (c : Consumed) (s : State) : Act :=
  let r := par c.d 24 1
  if 2 < r ∨ s.rd HL_PEER.MAXRATE < r then refuse badParam s
  else if ¬ s.linkUp ∨ s.scanning.isSome then refuse busy s
  else if s.rateRefused then refuse refusedState s
  else
    let s := (s.answer c ok []).sendControl 0x31 (toLe 1 r ++ zeros 7)
    .later (if r = s.rd HL_STAT.RATE then s.retrain else s.rateStep r)

/-! ## The rows -/

/-- LINK_STATUS: R394. -/
def execLinkStatus (d : Desc) (s : State) : Host.Outcome State Fault Refusal := .next (s.serve 0x0A00 d linkStatus)

/-- EYE_SCAN: R394. -/
def execEyeScan (d : Desc) (s : State) : Host.Outcome State Fault Refusal := .next (s.serveJob 0x0A01 d [] eyeScan)

/-- LINK_RATE: R393. -/
def execLinkRate (d : Desc) (s : State) : Host.Outcome State Fault Refusal := .next (s.serve 0x0A02 d linkRate)

/-- LINK_BRINGUP_STAGE: R382. -/
def execLinkBringupStage (pass : BitVec 16) (s : State) : Host.Outcome State Fault Refusal := .next (s.bringupStage pass.toNat)

/-- LINK_STAGE_TIMEOUT: R382. -/
def execLinkStageTimeout (s : State) : Host.Outcome State Fault Refusal := .next s.stageTimeout

/-- LINK_RECOVERY_RESTART: R380. -/
def execLinkRecoveryRestart (s : State) : Host.Outcome State Fault Refusal :=
  .next (if s.rd HL_STAT.STAGE = 5 then s.enterDetect true else s)

/-- REFERENCE_LANE_FAIL: R381. -/
def execReferenceLaneFail (s : State) : Host.Outcome State Fault Refusal := .next (if s.linkUp then s.refLaneFail else s)

/-- LINK_RETRAIN: R391. -/
def execLinkRetrain (s : State) : Host.Outcome State Fault Refusal := .next (if s.linkUp then s.retrain else s)

/-- RETRAIN_TIMEOUT: R391. -/
def execRetrainTimeout (s : State) : Host.Outcome State Fault Refusal :=
  .next (if s.rd HL_STAT.STAGE = 7 then s.enterDetect false else s)

/-- RATE_STEP_TIMEOUT: it counts as reference loss, and bring-up restarts (R393). -/
def execRateStepTimeout (s : State) : Host.Outcome State Fault Refusal :=
  let (r, s') := s.draw
  .next (if s.rd HL_STAT.STAGE ≠ 6 then s else if s.newLoss then s'.refLost (r % 2 == 1) else s.enterDetect false)

/-- The payload of a CAPS frame (Table 15-4): LINKVER and IFVER, MAXRATE, RATE and what follows. -/
def capsPayload (ver : BitVec 16) (maxrate rate : BitVec 8) (rest : Bytes) : Bytes := toLe 2 ver.toNat ++ maxrate :: rate :: rest

/-- The payload of an ACK frame (R390): the FSEQ and what follows. -/
def ackPayload (fseq : BitVec 16) (rest : Bytes) : Bytes := toLe 2 fseq.toNat ++ rest

/-- CAPS: R384. -/
def execCaps (h : RxHead) (ver : BitVec 16) (maxrate rate : BitVec 8) (rest : Bytes) (s : State) : Host.Outcome State Fault Refusal :=
  let p := capsPayload ver maxrate rate rest
  .next (s.receiveControl h 0x30 p (p.length == 32 && field p 7 1 == 0 && field p 20 12 == 0)
    (fun s => s.capsFrame (field p 0 1) (field p 2 1) (field p 3 1) (field p 4 2)))

/-- RATE: R393. -/
def execRate (h : RxHead) (p : Bytes) (s : State) : Host.Outcome State Fault Refusal :=
  .next (s.receiveControl h 0x31 p (p.length == 8 && field p 1 7 == 0) (fun s => s.rateFrame (field p 0 1)))

/-- ACK: R390. -/
def execAck (h : RxHead) (fseq : BitVec 16) (rest : Bytes) (s : State) : Host.Outcome State Fault Refusal :=
  let p := ackPayload fseq rest
  .next (s.receiveControl h 0x3E p (p.length == 4 && field p 2 2 ≤ 1) (fun s => s.ackFrame (field p 0 2) (field p 2 1 == 1)))

/-- RESEND_TIMEOUT: R390. -/
def execResendTimeout (s : State) : Host.Outcome State Fault Refusal := .next (if s.linkUp then s.resendRound else s)

/-- DMACPL: R387. -/
def execDmacpl (h : RxHead) (data : Bytes) (s : State) : Host.Outcome State Fault Refusal :=
  .next (s.receive h 0x12 data true (fun s => s.dmaComplete h.tag.toNat data))

/-- DMA_TIMEOUT: R387. -/
def execDmaTimeout (tag : Fin 64) (s : State) : Host.Outcome State Fault Refusal := .next (s.dmaLost tag)

/-- LANE_SLIP: the lane's deserialiser slips by one bit, so the next symbol is another; SLIP reads 1 only until the slip is
done (R383). -/
def execLaneSlip (lane : Fin 16) (s : State) : Host.Outcome State Fault Refusal :=
  let (r, s) := s.draw
  .next ((s.wr HL_LnCTL.SLIP 0 0 lane).wr HL_LnRAW.SYM (r % 1024) 0 lane)

/-- LANE_SYMLOCK: R383. -/
def execLaneSymlock (lane : Fin 16) (v : Bool) (s : State) : Host.Outcome State Fault Refusal :=
  .next (s.wr HL_LnCTL.SYMLOCK (b2n v) 0 lane)

/-- LANE_COUNT_CLEAR: R383. -/
def execLaneCountClear (lane : Fin 16) (s : State) : Host.Outcome State Fault Refusal :=
  .next ((s.wr HL_LnCNT.COMMA 0 0 lane).wr HL_LnCNT.CODEERR 0 0 lane)

end Sys2Proof.Machine
end

