-- ==== Sys2Proof/Machine/Ring.lean ====
section
/-!
DEFINITION. The sync ring (13): links, frames, barriers, ring flags, snapshots, ring reset, timed frames, the sync pulse,
the Collimator and the votes of cross-chip sites.
-/
namespace Sys2Proof.Machine

def ringDown : Nat := 0x0902

/-! ## Frames (R339, R345, R346) -/

/-- This chip's CHIP_ID. -/
def State.me (s : State) : Nat := s.rd SY_CFG.CHIP_ID

/-- The chip takes part in a ring; with N = 1 it ignores its ring ports (R339). -/
def State.onRing (s : State) : Bool := decide (1 < s.rd SY_CFG.N) && s.on SY_CFG.EN

/-- A ring action comes late, or a frame is lost for good (R346). -/
def State.ringLate (s : State) : State := s.takeFaults [collectorMsg 715 0x40 2]

/-- The frame has arrived whole: no code or disparity error, and byte 7 is the CRC of this header and payload (R344, R346). -/
def headIntact (h : RingHead) (type : Nat) (payload : Bytes) : Bool :=
  h.clean && h.crc.toNat == frameCrc type h.origin.toNat h.ver.toNat payload

/-- A received frame: a bad one is discarded and counted; a frame back at its origin is `home`'s (R342, R346). -/
def State.ringIn (s : State) (h : RingHead) (type : Nat) (payload : Bytes) (home other : State → State) : State :=
  if ¬ s.onRing then s
  else if ¬ headIntact h type payload then s.inc SY_FRERR.DISCARD
  else if h.origin.toNat = s.me then home s else other s

/-- How long a frame may take to return (R346). -/
def State.returnTime (s : State) : Nat := ticksUp (12 * s.lap + 1000)

/-- Only the first copy of a frame is acted on: what it names has not come from its origin within the time that a frame
and its 3 resends take (R346). -/
def State.firstCopy (s : State) (type origin : Nat) (key : List Nat) (act : State → State) : State :=
  let recent := s.ring.acted.filter (fun a => s.tt ≤ a.at_ + 4 * s.returnTime)
  if recent.any (fun a => a.type == type && a.origin == origin && a.key == key) then s
  else act (s.modRing (fun r => { r with acted := ⟨type, origin, key, s.tt⟩ :: recent }))

/-- This chip's frame is under way. -/
def State.outstanding (s : State) (type : Nat) (payload : Bytes) : Bool :=
  s.ring.sent.any (fun f => f.type == type && f.payload == payload)

/-- This chip's frame has returned, or gives way; it is removed. -/
def State.removeSent (s : State) (type : Nat) (payload : Bytes) : State :=
  s.modRing (fun r => { r with sent := r.sent.eraseP (fun f => f.type == type && f.payload == payload) })

/-- A payload's time of 56 bits. -/
def ringTime (t : Nat) : Bytes := ringWord (toLe 7 t)

/-- The frame types that R346 resends. -/
def resendable (type : Nat) : Bool := (2 ≤ type && type ≤ 8) || type == 10

/-- An outstanding frame is not back in time: it is resent up to 3 times, then given up; a frame of another type is
gone (R346). -/
def State.resendFrame (s : State) (idx : Nat) : State :=
  match s.ring.sent[idx]? with
  | none => s
  | some f =>
    let s := s.reach (f.launched + s.returnTime)
    let drop (s : State) : State := s.modRing (fun r => { r with sent := r.sent.eraseIdx idx })
    if ¬ resendable f.type then drop s
    else if f.resends < 3 then
      let (at_, s) := (s.inc SY_FRERR.RESEND).departure
      let words := frameWords f.type s.me (s.rd SY_VER.CURV) at_ f.payload
      s.modRing (fun r => { r with
        sent := r.sent.set idx { f with launched := s.tt, resends := f.resends + 1, words := words } })
    else (drop s).ringLate

/-! ## Links (R340, R341) -/

/-- A port trains its lanes: failing lanes are fenced, a lane in self-check returns, and the link comes up once all 8 lanes
are trained and unfenced (R340, Table 18-5). -/
def State.trainPort (s : State) (port pass : Nat) : State :=
  if ¬ (1 < s.rd SY_CFG.N ∧ s.ready 23) then s
  else
    let unit (b : Nat) : Nat := 676 + 8 * port + b
    let bad := (List.range 8).filter (fun b => !bit pass b && !s.fenced (unit b))
    let s := (bitList 8 pass).foldl (fun s b => s.selfCheckDone (unit b) true) s
    let s := s.takeFaults (bad.map (fun b => collectorMsg (unit b) 0x30 2))
    if pass = 255 ∧ (List.range 8).all (fun b => !s.fenced (unit b)) then
      if port = 0 then s.wrs 0 [(SY_LINK.EUP, 1), (SY_LINK.EWRAP, 0)] else s.wrs 0 [(SY_LINK.WUP, 1), (SY_LINK.WWRAP, 0)]
    else s

/-! ## DISCOVER (R343) -/

/-- Data filled to whole payload words. -/
def padWords (data : Bytes) : Bytes := fit (7 * ceilDiv data.length 7) data

/-- The payload of a DISCOVER frame. -/
def discoverPayload (f : Discover) : Bytes :=
  padWords (toLe 1 f.n.toNat ++ toLe 1 f.hops.toNat ++ toLe 1 (f.lo.toNat + 16 * f.hi.toNat) ++ f.ids)

/-- A DISCOVER of chip 0 that names this chip's place, its N and a version that this chip speaks, on its first pass. The place
is the CHIP_ID on a closed ring, where the frame comes home after N hops, and the number of chips met on a wrapped one. -/
def State.discoverFits (s : State) (origin : Nat) (f : Discover) (wrapped : Bool) : Bool :=
  let home := s.me == 0
  let place := if wrapped then f.ids.length else if home then f.n.toNat else s.me
  decide (origin = 0 ∧ f.n.toNat = s.rd SY_CFG.N ∧ f.hops.toNat = place
    ∧ max f.lo.toNat (s.rd SY_VER.MINV) ≤ min f.hi.toNat (s.rd SY_VER.MAXV)
    ∧ (home ∨ BitVec.ofNat 8 s.me ∉ f.ids))

/-- The DISCOVER is taken: the ring is up, at the highest version that all chips speak if it was down (R343, R480). -/
def State.discovered (s : State) (hi : Nat) (wrapped : Bool) : State :=
  let s := if s.on SY_STAT.RINGUP then s else s.wrs 0 [(SY_STAT.RINGUP, 1), (SY_VER.CURV, min hi (s.rd SY_VER.MAXV))]
  ((s.flag SY_STAT.WRAP wrapped).modRing (fun r => { r with discover := some s.tt })).advanceBars

/-- A DISCOVER goes on: on its first pass this chip has added itself and the versions that it speaks. -/
def State.gatherDiscover (s : State) (f : Discover) : Discover :=
  let me := BitVec.ofNat 8 s.me
  if me ∈ f.ids then f
  else { f with
    hops := f.hops + 1, ids := f.ids ++ [me], lo := BitVec.ofNat 4 (max f.lo.toNat (s.rd SY_VER.MINV)),
    hi := BitVec.ofNat 4 (min f.hi.toNat (s.rd SY_VER.MAXV)) }

/-- A DISCOVER at another chip than its origin. -/
def State.discoverIn (origin : Nat) (f : Discover) (wrapped : Bool) (s : State) : State :=
  let next := s.gatherDiscover f
  let s := s.modRing (fun r => { r with fwdDiscover := some next })
  if s.discoverFits origin f wrapped then s.discovered f.hi.toNat wrapped else s

/-- A DISCOVER back at chip 0. -/
def State.discoverHome (f : Discover) (wrapped : Bool) (s : State) : State :=
  let s := s.modRing (fun r => { r with sent := r.sent.filter (fun x => x.type != 1) })
  if s.discoverFits s.me f wrapped then s.discovered f.hi.toNat wrapped else s

/-- The DISCOVER that chip 0 sends. -/
def State.newDiscover (s : State) : Discover :=
  ⟨BitVec.ofNat 8 (s.rd SY_CFG.N), 1, [0], BitVec.ofNat 4 (s.rd SY_VER.MINV), BitVec.ofNat 4 (s.rd SY_VER.MAXV)⟩

/-! ## Ring barriers (R352, R353) -/

/-- A RELEASE's payload. -/
def releasePayload (b t : Nat) : Bytes := barPayload b ++ ringTime t

/-- A GATHER of another chip: of two for one barrier the one with the lower ORIGIN goes on (R352). -/
def State.gatherIn (b origin : Nat) (s : State) : State :=
  let h := Tab.get 0 s.ring.held b
  let cur := if h ≠ 0 then some (h - 1) else if s.gatherOut b then some s.me else none
  let take (s : State) : State :=
    ((s.removeSent 2 (barPayload b)).modRing (fun r => { r with held := Tab.insert r.held b (origin + 1) })).advanceBar b
  match cur with
  | some c => if origin < c then take s else s
  | none => if s.ring.passed.contains b then s else take s

/-- This chip's GATHER is back: every chip has arrived, and the RELEASE goes out with T_r (R352). -/
def State.gatherHome (b : Nat) (s : State) : State :=
  if ¬ s.gatherOut b then s
  else
    let (at_, s) := s.departure
    let t := s.lapTime at_
    ((s.removeSent 2 (barPayload b)).emit at_ 3 (releasePayload b t)).modRing (fun r => { r with
      release := Tab.insert r.release b (t + 1) })

/-- The start barrier of a site releases at `t`: its first vector starts then, and its RUN job reports the time (R82). -/
def State.startSite (t : Nat) (s : State) (i : Nat) : State :=
  if ¬ (s.site i = stRunning ∧ (s.seq i).waitBarrier) then s
  else
    let s := (s.wr SQ_RUNT.T t i).modSeq i (fun q => { q with waitBarrier := false })
    (s.mbx.jobs.filter (fun j => j.cmd.op == 0x0204 && j.cmd.d.site.toNat == i && j.deferred)).foldl
      (fun s j => s.finishJob j ok (toLe 8 t) []) s

/-- Barrier `b` releases at tick `t`: the members that this instance counts go on; a member that has joined since waits for
the next instance (R352). -/
def State.releaseBar (s : State) (b t : Nat) : State :=
  let ms := Tab.get [] s.ring.part b
  let s := s.reach t
  let s := if b < 16 then (ms.filter (s.ringWaits b)).foldl (fun s i => s.releaseSync i t false) s
    else if 64 ≤ b ∧ b < 128 then ms.foldl (State.startSite t) s else s
  let s := s.modRing (fun r => { r with
    passed := r.passed.filter (· != b), part := Tab.erase r.part b, release := Tab.erase r.release b,
    started := r.started.filter (fun i => i + 64 != b),
    acted := r.acted.filter (fun a => !(a.type == 8 && a.key == [b - 64] && 64 ≤ b)) })
  if b < 16 ∧ (s.ringMembers b).any (s.ringWaits b) then s.arriveBar b else s.advanceBar b

/-- A RELEASE of another chip (R346, R352). -/
def State.releaseIn (b origin t : Nat) (s : State) : State :=
  let t := nearest 56 t s.tt
  s.firstCopy 3 origin [b, t] (fun s =>
    if t < s.tt then (s.releaseBar b s.tt).ringLate
    else s.modRing (fun r => { r with release := Tab.insert r.release b (t + 1) }))

/-- A ring barrier of a chip without a ring: L is 1 hop, and the members of this chip are all there are. It completes with the
last arrival, or when the last member that had not arrived leaves RUNNING. -/
def State.loneRelease (s : State) (b : Nat) : State :=
  let ms := s.barMembers b
  if b < 16 ∧ ms ≠ [] ∧ ms.all (s.ringWaits b) then
    let t := ((s.ringMembers b).map (s.awaitedUntil (16 + b))).foldl max 0 + ticksUp 44
    ms.foldl (fun s i => s.releaseSync i t false) (s.reach t)
  else s

/-- The release of a barrier falls due. A waiting site that is no member goes on 32 ticks after its own arrival. -/
def State.barDue (s : State) (b : Nat) : State :=
  let alone := (List.range 64).filter (fun i => s.ringWaits b i && !(s.ringMembers b).contains i)
  let s := if b < 16 then alone.foldl (fun s i => (s.reach ((s.seq i).barTime + 32)).releaseSync i ((s.seq i).barTime + 32) false) s
    else s
  if s.rd SY_CFG.N ≤ 1 then s.loneRelease b
  else if Tab.get 0 s.ring.release b = 0 then s
  else s.releaseBar b (Tab.get 0 s.ring.release b - 1)

/-! ## Ring flags (R354) -/

/-- A FLAGS frame's payload. -/
def flagsPayload (set clr t : Nat) : Bytes := ringWord (toLe 1 (set + 16 * clr)) ++ ringTime t

/-- The changes of ring flags due at tick `t`, in ascending ORIGIN order. -/
def State.applyFlags (s : State) (t : Nat) : State :=
  let due := flagsInOrder (s.ring.flags.filter (fun f => f.time == t))
  let s := (s.reach t).modRing (fun r => { r with flags := r.flags.filter (fun f => f.time != t) })
  s.setRf t (due.foldl (fun rf f => f.apply rf) (s.rd SY_RF.RF))

/-- A change of ring flags waits for its time. -/
def State.addFlags (s : State) (f : RingFlags) : State := s.modRing (fun r => { r with flags := r.flags ++ [f] })

/-- A FLAGS frame of another chip. -/
def State.flagsIn (origin set clr t : Nat) (s : State) : State :=
  let t := nearest 56 t s.tt
  s.firstCopy 4 origin [set, clr, t] (fun s =>
    if t < s.tt then ((s.addFlags ⟨s.tt, origin, set, clr⟩).applyFlags s.tt).ringLate else s.addFlags ⟨t, origin, set, clr⟩)

/-- A write of SY_RFCTL. Without a ring the change is made here alone, 32 ns later. -/
def State.writeFlags (s : State) (set clr : Nat) : State :=
  if set &&& clr ≠ 0 then s
  else if s.ringUp then
    let (at_, s) := s.departure
    let t := s.lapTime at_
    (s.emit at_ 4 (flagsPayload set clr t)).addFlags ⟨t, s.me, set, clr⟩
  else s.addFlags ⟨s.tt + ticksUp 32, s.me, set, clr⟩

/-! ## Snapshots (R355, R356) -/

/-- SQ_COND as one word. -/
def State.condReg (s : State) (i : Nat) : Nat :=
  s.rd SQ_COND.SFAIL i + 2 * s.rd SQ_COND.SPASS i + 4 * s.rd SQ_COND.ANYM i + 8 * s.rd SQ_COND.ALLM i
    + 16 * s.rd SQ_COND.SFM i + 2 ^ 8 * s.rd SQ_COND.TRIG i + 2 ^ 12 * s.rd SQ_COND.XTRIG i
    + 2 ^ 20 * s.rd SQ_COND.SUPMON i + 2 ^ 28 * s.rd SQ_COND.RF i

/-- The fail count of channel `n` at tick `t`: the counted failing cycles that ended by then (R356). -/
def State.failsAt (s : State) (n t : Nat) : Nat :=
  match ((s.chan n).failLog.filter (fun e => decide (t * 1250 < e.1))).getLast? with
  | some e => e.2
  | none => s.rd CH_FCNT.COUNT n

/-- The VA of the first vector whose cycle starts after tick `t`: the last one played, if it starts later, or the next
(R356). -/
def State.vaAfter (s : State) (i t : Nat) : Nat :=
  let c := (s.seq i).lastCycle
  if s.busySite i ∧ ¬ c.pad ∧ t * 1250 < c.start then c.vec.va else s.vaNow i

/-- The image of Table 13-7, latched at tick `t`. -/
def State.snapImage (s : State) (origin t : Nat) : Bytes :=
  toLe 1 1 ++ toLe 1 s.me ++ toLe 1 origin ++ zeros 5 ++ toLe 8 t ++ zeros 48
    ++ (List.range 64).flatMap (fun i =>
      toLe 1 (s.site i) ++ toLe 1 (s.rd SQ_STATE.CAUSE i) ++ toLe 1 (b2n (s.seq i).sfailRun + 2 * s.rd SQ_SRSTAT.UR i)
        ++ zeros 1 ++ toLe 4 (s.rd SQ_IA.IA i) ++ toLe 5 (s.vaAfter i t) ++ zeros 3 ++ toLe 4 (s.condReg i) ++ zeros 12)
    ++ (List.range 512).flatMap (fun n => toLe 6 (s.failsAt n t) ++ zeros 2)

/-- The pending snapshot: the earlier time is kept, on equal times the lower ORIGIN (R356). -/
def State.pendSnap (s : State) (t origin : Nat) : State :=
  let win : Bool := match s.ring.snap with
    | some (t', o') => decide (t < t' ∨ (t = t' ∧ origin < o'))
    | none => true
  if win then s.modRing (fun r => { r with snap := some (t, origin) }) else s

/-- At T_s the image is latched, and the waiting jobs write it (R355, R356). -/
def State.latchSnap (s : State) : State :=
  match s.ring.snap with
  | none => s
  | some (t, o) =>
    let s := s.reach t
    let img := s.snapImage o t
    let js := s.ring.snapJobs
    js.foldl (fun s j => s.completeJob j ok (toLe 4 6208) img)
      (s.modRing (fun r => { r with snap := none, snapJobs := [], image := some img }))

/-- A SNAPSHOT frame of another chip. -/
def State.snapIn (origin t : Nat) (s : State) : State :=
  let t := nearest 56 t s.tt
  s.firstCopy 6 origin [t] (fun s =>
    let s := s.pendSnap t origin
    if t < s.tt then s.latchSnap.ringLate else s)

/-- SNAPSHOT: R355, R356. -/
def snapshotCmd (c : Consumed) (id : Nat) (_p : Bytes) (s : State) : Act :=
  let t := par c.d 24 8
  if t ≠ 0 ∧ (t < s.tt + s.returnTime ∨ s.tt + 32000000000 < t) then refuse outOfRange s
  else if t ≠ 0 ∧ 1 < s.rd SY_CFG.N ∧ ¬ s.on SY_STAT.RINGUP then refuse ringDown s
  else if t = 0 ∧ s.ring.image.isNone then refuse notReady s
  else if c.d.length.toNat < 6208 then refuse outOfRange s
  else if t = 0 then .done ok (toLe 4 6208) (s.ring.image.getD []) s
  else .later (((s.launch 6 (ringTime t)).pendSnap t s.me).modRing (fun r => { r with snapJobs := r.snapJobs ++ [id] }))

/-! ## Ring reset (R357) -/

/-- The payload of a RESET in its first lap (no time) and in its second. -/
def resetPayload : Option Nat → Bytes
  | none => ringWord []
  | some t => ringWord [1] ++ ringTime t

/-- The ring reset takes effect at tick `t`. -/
def State.ringReset (s : State) (t : Nat) : State :=
  let s := (s.reach t).haltAll 0
  let s := s.setRf t 0
  let js := s.ring.snapJobs ++ s.ring.timed.map (·.job)
  js.foldl (fun s j => s.completeJob j aborted [] []) (s.modRing (fun r => { r with
    held := [], passed := [], part := [], release := [], started := [], snap := none, snapJobs := [], timed := [],
    reset := none, sent := r.sent.filter (fun f => f.type != 2 && f.type != 3) }))

/-- A RESET of another chip: its first lap gives way to no GATHER but to a RESET of lower ORIGIN; its second names the
release time. -/
def State.resetIn (origin : Nat) (time : Option Nat) (s : State) : State :=
  match time with
  | none => if origin < s.me then s.removeSent 7 (resetPayload none) else s
  | some t =>
    let t := nearest 56 t s.tt
    s.firstCopy 7 origin [t] (fun s =>
      if t < s.tt then (s.ringReset s.tt).ringLate else s.modRing (fun r => { r with reset := some t }))

/-- This chip's RESET is back: after its first lap the release time goes out. -/
def State.resetHome (time : Option Nat) (s : State) : State :=
  match time with
  | some t => s.removeSent 7 (resetPayload (some t))
  | none =>
    if ¬ s.outstanding 7 (resetPayload none) then s
    else
      let (at_, s) := s.departure
      let t := s.lapTime at_
      ((s.removeSent 7 (resetPayload none)).emit at_ 7 (resetPayload (some t))).modRing (fun r => { r with reset := some t })

/-- RING_CONFIG with OP 2. Without a ring the reset is this chip's alone. -/
def State.startReset (s : State) : State :=
  if s.ringUp then s.launch 7 (resetPayload none)
  else s.modRing (fun r => { r with reset := some (s.lapTime (s.tt * 4096)) })

/-! ## Timed frames and the inbox (R361, R362) -/

/-- TIMED_FRAME: R361. -/
def timedFrame (c : Consumed) (id : Nat) (p : Bytes) (s : State) : Act :=
  let t := par c.d 24 8
  if 49 < c.d.length.toNat then refuse badParam s
  else if t < s.tt + 6400 ∨ s.tt + 32000000000 < t then refuse outOfRange s
  else if 8 ≤ s.ring.timed.length then refuse busy s
  else if ¬ s.ringUp then refuse ringDown s
  else .later (s.modRing (fun r => { r with timed := r.timed ++ [⟨id, t, p⟩] }))

/-- The queued frame due first; of frames due together the one consumed first. -/
def firstTimed : List TimedWait → Option TimedWait
  | [] => none
  | w :: ws =>
    match firstTimed ws with
    | some x => if x.time < w.time then some x else some w
    | none => some w

/-- A queued TIMED frame leaves, and its job reports when. -/
def State.launchTimed (s : State) : State :=
  match firstTimed s.ring.timed with
  | none => s
  | some w =>
    if ¬ s.ringUp then s
    else
      let s := s.reach w.time
      let s := (s.modRing (fun r => { r with timed := r.timed.filter (fun x => x.job != w.job) })).launch 11 (padWords w.data)
      s.completeJob w.job ok (toLe 8 s.tt) []

/-- The inbox entry of a received TIMED frame. -/
def State.inboxEntry (s : State) (origin txts : Nat) (data : Bytes) : Bytes :=
  let d := (padWords data).take 49
  fit 128 (toLe 1 origin ++ toLe 1 d.length ++ zeros 6 ++ toLe 8 (nearest 20 txts s.tt) ++ toLe 8 s.tt ++ d)

/-- A TIMED frame enters the inbox; a full inbox loses its oldest entry (R238, R239, R362). -/
def State.timedIn (origin txts : Nat) (data : Bytes) (s : State) : State :=
  let e := s.inboxEntry origin txts data
  if s.ring.inbox.length < 8 then s.modRing (fun r => { r with inbox := r.inbox ++ [e] })
  else (s.inc SY_INBOXLOST.LOST).modRing (fun r => { r with
    inbox := r.inbox.tail ++ [e], inboxHead := (r.inboxHead + 1) % 8 })

/-! ## Tester time (R25, R347) -/

/-- A measurement unit is armed (R250). -/
def State.unitArmed (s : State) : Bool :=
  (List.range 528).any (fun u => 1 ≤ s.rd CH_TIASTAT.STATE u && s.rd CH_TIASTAT.STATE u ≤ 3)

/-- A site is RUNNING or HALTING, Loupe is ARMED or TRIGGERED, or a measurement unit is armed (R347, R349). -/
def State.chipBusy (s : State) : Bool := (List.range 64).any s.busySite || s.loupeActive || s.unitArmed

/-- SYNC_ARM: R347. -/
def syncArm (c : Consumed) (s : State) : Act :=
  let op := par c.d 24 1
  if 1 < op ∨ 1 < par c.d 25 1 ∨ par c.d 26 38 ≠ 0 then refuse badParam s
  else if op = 1 then success [] (s.wr SY_STAT.SYNCARM 0)
  else if s.chipBusy then refuse busy s
  else success [] ((s.wr SY_STAT.SYNCARM 1).modRing (fun r => { r with syncOut := par c.d 25 1 == 1, syncLow := 0 }))

/-- While the chip is armed a rising edge of CK_REF at tick `t` samples SYNC_IN: the first high edge after at least two low
ones accepts the pulse, and tester time will read 0 after 1 µs and SY_ADJ steps. What an edge samples within 1 ns of a change
is open (R347). -/
def State.syncEdge (s : State) (t : Nat) (level near : Bool) : State :=
  if ¬ (s.on SY_STAT.SYNCARM ∧ s.ready 1) then s
  else
    let s := s.reach t
    let (x, s) := s.draw
    let high := if near then x % 2 == 1 else level
    if ¬ high then s.modRing (fun r => { r with syncLow := min 2 (r.syncLow + 1) })
    else if s.ring.syncLow < 2 then s.modRing (fun r => { r with syncLow := 0 })
    else
      let due := ((t : Int) + 3200 + sgn 32 (s.rd SY_ADJ.ADJ) / 1250).toNat
      (s.wrs 0 [(SY_STAT.SYNCARM, 0), (SY_STAT.SYNCSEEN, 1)]).modRing (fun r => { r with zeroAt := some due, syncLow := 0 })

/-- Prism's times once tester time `t` reads 0. -/
def Prism.rebase (p : Prism) (t : Nat) : Prism :=
  { p with
    aligned := p.aligned - t, pulses := p.pulses.map (fun q => { q with from_ := q.from_ - t, till := q.till - t })
    ringTrig := [], lastIssue := p.lastIssue.map (· - t), stopAt := p.stopAt.map (· - t), xownLog := []
    ends := p.ends.map (fun e => (e.1, e.2 - t)), autoEnd := p.autoEnd.map (· - t) }

/-- Tester time reads 0, and SYNC_OUT goes high for 100 ns if it was asked for (R347). -/
def State.zeroTime (s : State) : State :=
  ({ s with
      tt := 0, epoch := s.age, prism := s.prism.rebase s.tt,
      ring := { s.ring with
        zeroAt := none, rfLog := [], outUntil := if s.ring.syncOut then 320 else 0, checks := {} } }).newSyncPhase

/-- The instant of R347 is reached. -/
def State.syncZero (s : State) : State :=
  match s.ring.zeroAt with
  | some _ => s.zeroTime
  | none => s

/-! ## The Collimator (R348–R350) -/

/-- The doubled offset of one exchange, in frac (R349). -/
def exchange (t1 t2 t3 t4 : Nat) : Int := ((t2 : Int) - t1) - ((t4 : Int) - t3)

/-- The mean of the last 256 exchanges has moved by more than 3 ps, or by more than 1 ns, since the last COLLIMATE (R350). One
frac is 312.5 ps / 4,096, and an exchange gives the doubled offset. -/
def State.checkDrift (s : State) : State :=
  match s.ring.base with
  | none => s
  | some b =>
    let m := (s.ring.exchanges.foldl (· + ·) 0 * 5120000 - 256 * b).natAbs
    if s.ring.exchanges.length < 256 then s
    else
      let s := if 256 * 402653184 < m ∧ ¬ s.on SY_STAT.DRIFT then (s.wr SY_STAT.DRIFT 1).takeFaults [collectorMsg 715 0x42 0] else s
      if 256 * 134217728000 < m ∧ s.on SY_STAT.ALIGNED then (s.wr SY_STAT.ALIGNED 0).takeFaults [collectorMsg 715 0x42 2] else s

/-- The payload of a TIMECHECK frame. -/
def timePayload : TimeCheck → Bytes
  | .request coll => ringWord [if coll then 2 else 0]
  | .reply t2 => ringWord [1] ++ ringTime (t2 / frac) ++ ringWord (toLe 2 (t2 % frac))

/-- A TIMECHECK request leaves on the east link. -/
def State.askTime (s : State) (coll : Bool) : State :=
  if s.ringUp then
    let (at_, s) := s.departure
    (s.emit at_ 9 (timePayload (.request coll))).modRing (fun r => { r with asked := at_ })
  else s

/-- This chip begins its 4,096 exchanges of a COLLIMATE (R349). -/
def State.startExchanges (s : State) : State :=
  (s.modRing (fun r => { r with collecting := true, collN := 0, collSum := 0, collDelay := 0 })).askTime true

/-- The payload of a COLLECT frame. -/
def collectPayload : Collect → Bytes
  | .check busy links => padWords (toLe 1 0 ++ toLe 1 (b2n busy) ++ links.flatMap (fun l =>
      toLe 8 (unsgn 64 l.sum) ++ toLe 4 l.delay.toNat ++ toLe 2 l.asym.toNat ++ toLe 4 l.adj.toNat))
  | .apply corrs => padWords (toLe 1 1 ++ corrs.flatMap (fun c => toLe 4 (unsgn 32 c)))
  | .cancel => ringWord [2]

/-- An exchange on the east link is complete, with its doubled offset and delay: one of the 4,096 of a COLLIMATE, or one of
R350. After its 4,096th chip 0 starts the COLLECT lap, and RUN waits. -/
def State.exchanged (s : State) (x delay : Int) : State :=
  if s.ring.collecting then
    let s := s.modRing (fun r => { r with
      collN := r.collN + 1, collSum := r.collSum + x, collDelay := r.collDelay + delay, collecting := decide (r.collN < 4095) })
    if s.ring.collN = 4096 ∧ s.ring.collate.isSome then
      ((s.launch 10 (collectPayload (.check false []))).wr SY_STAT.COLLBUSY 1).modRing (fun r => { r with collAt := s.tt })
    else s
  else if s.ring.base.isSome then
    (s.modRing (fun r => { r with
      exchanges := (x :: r.exchanges).take 256, checks := { r.checks with done := s.tt } })).checkDrift
  else s

/-- A TIMECHECK frame of another chip, stamped at the receive balls: a request of the west neighbour is answered with its
stamp, and one of a COLLIMATE makes this chip begin its own exchanges; a reply of the east neighbour ends an exchange
(R349). -/
def State.timecheckIn (h : RingHead) (f : TimeCheck) (stamp : Nat) (s : State) : State :=
  let n := max 1 (s.rd SY_CFG.N)
  match f with
  | .reply t2 =>
    let t1 := s.ring.asked
    let t3 := nearest 32 h.txts.toNat (s.tt * frac)
    if h.origin.toNat = (s.me + 1) % n then
      s.exchanged (exchange t1 t2 t3 stamp) (((t2 : Int) - t1) + ((stamp : Int) - t3))
    else s
  | .request coll =>
    if h.origin.toNat = (s.me + n - 1) % n then
      let s := s.launch 9 (timePayload (.reply stamp))
      if coll ∧ s.ring.collate.isNone ∧ ¬ s.ring.collecting ∧ s.ring.collN = 0 then s.startExchanges else s
    else s

/-- COLLIMATE is taken up, and chip 0 begins its exchanges: R349. -/
def collimate (c : Consumed) (id : Nat) (_p : Bytes) (s : State) : Act :=
  if s.me ≠ 0 then refuse 0x0903 s
  else if ¬ s.ringUp ∨ s.on SY_STAT.WRAP then refuse ringDown s
  else if s.ring.collate.isSome then refuse busy s
  else if c.d.length.toNat < 32 + 16 * s.rd SY_CFG.N then refuse outOfRange s
  else .later (s.modRing (fun r => { r with collate := some id })).startExchanges

/-- The COLLIMATE is over on this chip: RUN no longer waits, and the exchanges of R350 follow. `shift` is what the correction
has taken from the doubled offset of the east link, in steps. -/
def State.endCollimate (s : State) (shift : Int) : State :=
  ((s.wr SY_STAT.COLLBUSY 0).modRing (fun r => { r with
    base := some (r.collSum * 1250 + shift * 16777216), exchanges := [], collecting := false, collN := 0,
    checks := { t0 := s.tt, prev := s.tt, done := s.tt } })).wakeRuns

/-- The chip's correction: SY_ADJ grows by `corr` steps; whole ticks of it move the tester-time count (R348). -/
def State.correct (s : State) (corr : Int) : State :=
  let a := sgn 32 (s.rd SY_ADJ.ADJ)
  let shift := (a + corr) / 1250 - a / 1250
  let s := (s.wr SY_ADJ.ADJ (unsgn 32 (a + corr))).wr SY_STAT.ALIGNED 1
  { s with tt := ((s.tt : Int) - shift).toNat }

/-- This chip's part of a COLLECT that applies: its own correction, and what it and its east neighbour's take from the link's
doubled offset (R349, R350). -/
def State.applyCorrs (s : State) (corrs : List Int) : State :=
  let own := corrs.getD s.me 0
  let east := corrs.getD ((s.me + 1) % max 1 (s.rd SY_CFG.N)) 0
  (s.correct own).endCollimate (2 * (own - east))

/-- RUN no longer waits for a COLLIMATE. -/
def State.endCollbusy (s : State) : State := (s.wr SY_STAT.COLLBUSY 0).wakeRuns

/-- One tick of CK_TIM passes. Tester time counts it once it runs (R25, R416), and reads 0 at the instant of R347; a wait of
RUN for a COLLIMATE ends after 20 µs (R349). -/
def State.tick (s : State) : State :=
  let s := if s.ttRuns then { s with tt := s.tt + 1 } else s
  let s := if s.ring.zeroAt.any (· ≤ s.tt) then s.zeroTime else s
  if s.on SY_STAT.COLLBUSY ∧ s.ring.collAt + 64000 ≤ s.tt then s.endCollbusy else s

/-- A link's mean offset, corrected by ASYM / 2, in units of 1 frac / 5,120,000. -/
def linkTheta (l : LinkSample) : Int := l.sum * 625 - sgn 16 l.asym.toNat * 8388608

/-- What this chip has measured on its east link. -/
def State.ownSample (s : State) : LinkSample :=
  { sum := s.ring.collSum, delay := BitVec.ofInt 32 (divRound s.ring.collDelay 8192), asym := BitVec.ofNat 16 (s.rd SY_CFG.ASYM),
    adj := BitVec.ofNat 32 (s.rd SY_ADJ.ADJ) }

/-- Steps 2, 3, 5 and 6 of R349 at chip 0, once the lap of step 4 is back with the samples of chips 1, 2, …. -/
def State.collimated (s : State) (othersBusy : Bool) (others : List LinkSample) : State :=
  match s.ring.collate with
  | none => (s.launch 10 (collectPayload .cancel)).endCollbusy
  | some id =>
    let n := s.rd SY_CFG.N
    let links := s.ownSample :: others
    let link (k : Nat) : LinkSample := links.getD k {}
    let part (c : Nat) : Int := ((List.range c).map (fun k => linkTheta (link k))).foldl (· + ·) 0
    let e := part n
    let off (c : Nat) : Int := divRound ((n * part c - c * e) * 1250) (n * 5120000 * 4096)
    let corrs := (List.range n).map off
    let busy := othersBusy || s.chipBusy
    let apply := !busy && decide (e.natAbs ≤ 536870912)
    let reason := if busy then 1 else if apply then 0 else 2
    let report := toLe 1 1 ++ toLe 1 n ++ toLe 1 (b2n apply) ++ toLe 1 reason ++ toLe 4 (unsgn 32 (divRound e 5120000))
      ++ toLe 8 s.tt ++ zeros 16
      ++ (List.range n).flatMap (fun c =>
        toLe 4 (unsgn 32 (divRound (n * linkTheta (link c) - e) (n * 5120000))) ++ toLe 4 (link c).delay.toNat
          ++ toLe 4 (unsgn 32 (off c))
          ++ toLe 4 (unsgn 32 (sgn 32 (link c).adj.toNat + if apply then off c else 0)))
    let s := s.modRing (fun r => { r with collate := none })
    let s := if apply then (s.launch 10 (collectPayload (.apply corrs))).applyCorrs corrs
      else (s.launch 10 (collectPayload .cancel)).endCollimate 0
    s.completeJob id ok (toLe 4 report.length) report

/-- A COLLECT frame of chip 0 at another chip, which adds its busy bit and its sample to the lap of step 4, or takes its
correction (R349). -/
def State.collectIn (c : Collect) (s : State) : State :=
  match c with
  | .check busy links =>
    let next := Collect.check (busy || s.chipBusy) (links ++ [s.ownSample])
    (s.modRing (fun r => { r with fwdCollect := some next })).firstCopy 10 0 [0] (fun s =>
      (s.wr SY_STAT.COLLBUSY 1).modRing (fun r => { r with collAt := s.tt }))
  | .apply corrs =>
    (s.modRing (fun r => { r with fwdCollect := some c })).firstCopy 10 0 [1] (fun s => s.applyCorrs corrs)
  | .cancel => (s.modRing (fun r => { r with fwdCollect := some c })).firstCopy 10 0 [2] (fun s => s.endCollimate 0)

/-- A COLLECT frame back at chip 0; the one of step 4 comes back with what the others have added. -/
def State.collectHome (c : Collect) (s : State) : State :=
  match c with
  | .check b links =>
    let lap := collectPayload (.check false [])
    if s.outstanding 10 lap then (s.removeSent 10 lap).collimated b links else s
  | c => s.removeSent 10 (collectPayload c)

/-! ## Votes (R358, R360) -/

/-- The vote of this chip's own condition word: C, F, A, M in bits 0–3. -/
def voteOf (w : Nat) : Nat :=
  let c := bit w 0 || bit w 1
  b2n c + 2 * bits w 0 1 + 4 * bits w 2 1 + 8 * b2n (c && !bit w 3)

/-- Place of vector `v` in the history, if its own condition word is known and the site's is not. -/
def Seq.openVote (q : Seq) (v : Nat) : Option Nat :=
  let n := q.vk - b2n q.fresh.isSome
  if v < n ∧ n - 1 - v < q.own.length ∧ q.hist.getD (n - 1 - v) none = none then some (n - 1 - v) else none

/-- The result of vector `v` forms the site conditions (R358). -/
def State.formVote (s : State) (site v i vote : Nat) : State :=
  let q := s.seq site
  let (w, mark) := q.own.getD i (0, false)
  let c := bit vote 0
  let f := bit vote 1
  let sfm := f || (q.sfm && !mark)
  let red := b2n f + 2 * b2n (c && !f) + 4 * bits vote 2 1 + 8 * b2n (c && !bit vote 3) + 16 * b2n sfm
  let full := red + w / 32 * 32
  let s := (s.showCond site red).pm site 0x09 (b2n f)
  s.modSeq site (fun q => { q.noteCond v full with
    hist := q.hist.set i (some full), sfm := sfm, sfailRun := q.sfailRun || f,
    votes := q.votes.filter (fun x => v < x.v) })

/-- A vote word of vector `v` comes in at the east or west port: at the home chip it is joined with its own vote and, for a
home with members on both sides, with the other side's; coming from the home chip it is the result; going toward it, it
only passes (R358). A bad one ends the site (R360). -/
def State.voteWord (s : State) (site v vote : Nat) (east bad : Bool) : State :=
  let q := s.seq site
  let k := s.rd SQ_STATE.CHIPS site
  let pos := s.rd SQ_XSITE.POS site
  let home := s.rd SQ_XSITE.HOME site
  if ¬ s.busySite site ∨ ¬ q.started ∨ k ≤ 1 then s
  else if bad then s.voteError site
  else match q.openVote v with
    | none => s
    | some i =>
      if pos = home then
        let rest := q.votes.filter (fun x => x.v == v && x.east != east)
        if pos ≠ 0 ∧ pos + 1 < k ∧ rest = [] then
          s.modSeq site (fun q => { q with votes := ⟨v, vote, east⟩ :: q.votes.filter (fun x => !(x.v == v)) })
        else s.formVote site v i (rest.foldl (fun a x => a ||| x.word) (vote ||| voteOf (q.own.getD i (0, false)).1))
      else if east = decide (pos < home) then s.formVote site v i vote
      else s

/-! ## RING_CONFIG (R359, R363) -/

/-- Vote bits of a site per ring word (R359). -/
def voteBits (pmin : Nat) : Nat := 4 * (25600 / max 1 pmin + 1)

/-- Entry `i` of RING_CONFIG with OP 1 (Table 13-9), none where unused. -/
def siteEntry (d : Desc) (i : Nat) : Option (Nat × XSite) :=
  let o := 32 + 8 * i
  let b := par d (o + 1) 1
  if par d o 1 = 255 then none else some (par d o 1, ⟨bits b 0 3, bits b 3 2, bits b 5 2, par d (o + 4) 4⟩)

/-- Entry `i` keeps the table's ranges, its Reserved bits zero whether it is used or not (R12). -/
def entryOk (d : Desc) (i : Nat) : Bool :=
  decide (par d (32 + 8 * i + 1) 1 < 128 ∧ par d (32 + 8 * i + 2) 2 = 0) &&
  match siteEntry d i with
  | none => true
  | some (site, e) =>
    decide (site < 64 ∧ (e.k = 0 ∨ (2 ≤ e.k ∧ e.k ≤ 4 ∧ e.pos < e.k ∧ e.home < e.k ∧ 2500 ≤ e.pmin)))

/-- The site entries after OP 1. -/
def newEntries (t : Tab XSite) (d : Desc) : Tab XSite :=
  ((List.range 4).filterMap (siteEntry d)).foldl (fun t p => Tab.set {} t p.1 (if p.2.k = 0 then {} else p.2)) t

/-- Vote bits that the entries use on the east or the west link. -/
def linkVotes (t : Tab XSite) (east : Bool) : Nat :=
  ((t.map (·.2)).map (fun e => if (if east then e.pos + 1 < e.k else 0 < e.pos) then voteBits e.pmin else 0)).foldl (· + ·) 0

/-- OP 0: the ring re-forms, and CURV is chosen anew (R363, R480). -/
def ringSetup (d : Desc) (s : State) : Act :=
  let n := par d 25 1
  let asym := sgn 16 (par d 28 2)
  if n = 0 ∨ 64 < n ∨ 1 < par d 26 1 ∨ par d 27 1 ≠ 0 ∨ 2000 < asym.natAbs ∨ par d 30 34 ≠ 0 then refuse badParam s
  else if (List.range 64).any (fun i => 2 ≤ s.rd SQ_STATE.CHIPS i) ∨ s.ring.collate.isSome then refuse busy s
  else
    let new : Bool := decide (n ≠ s.rd SY_CFG.N)
    let s := s.wrs 0 [(SY_CFG.N, n), (SY_CFG.EN, par d 26 1), (SY_CFG.ASYM, par d 28 2)]
    let s := (s.wrs 0 [(SY_STAT.RINGUP, 0), (SY_VER.CURV, 0)]).modRing (fun r => { r with discover := none })
    if ¬ new then success [] s
    else
      let s := forAll (s.ring.entries.map (·.1)) (fun i s => s.wrs i [(SQ_XSITE.POS, 0), (SQ_XSITE.HOME, 0)]) s
      let s := (s.wrs 0 [(SY_STAT.ALIGNED, 0), (SY_STAT.WRAP, 0)]).modRing (fun r => { r with
        entries := [], held := [], passed := [], part := [], release := [] })
      success [] (forAll (List.range 16) (fun b s => if (s.ringMembers b).any (s.ringWaits b) then s.arriveBar b else s) s)

/-- OP 1. -/
def ringSites (d : Desc) (s : State) : Act :=
  let es := (List.range 4).filterMap (siteEntry d)
  let t := newEntries s.ring.entries d
  if par d 25 7 ≠ 0 ∨ ¬ (List.range 4).all (entryOk d) then refuse badParam s
  else if es.any (fun p => s.site p.1 ≠ stUnbound) then refuse refusedState s
  else if 64 < linkVotes t true ∨ 64 < linkVotes t false then refuse 0x0901 s
  else if 16 < t.length then refuse outOfRange s
  else success [] (es.foldl (fun s p => s.wrs p.1
    [(SQ_XSITE.POS, if p.2.k = 0 then 0 else p.2.pos), (SQ_XSITE.HOME, if p.2.k = 0 then 0 else p.2.home)])
    (s.modRing (fun r => { r with entries := t })))

/-- RING_CONFIG: R363. -/
def ringConfig (c : Consumed) (s : State) : Act :=
  let op := par c.d 24 1
  if op = 0 then ringSetup c.d s
  else if op = 1 then ringSites c.d s
  else if op = 2 ∧ par c.d 25 39 = 0 then success [] s.startReset
  else refuse badParam s

/-- BARRIER_TEST: R353. `longest` is the longest time measured, in ticks. -/
def barrierTest (longest : Nat) (c : Consumed) (_id : Nat) (_p : Bytes) (s : State) : Act :=
  if par c.d 24 4 = 0 ∨ 65536 < par c.d 24 4 then refuse badParam s
  else if ¬ s.ringUp then refuse ringDown s
  else success (toLe 8 longest) s

/-- The payload of a TRIGGER frame: the placed instant in frac. -/
def triggerPayload (at_ : Nat) : Bytes := ringTime (at_ / 4096) ++ ringWord (toLe 2 (at_ % 4096))

/-! ## Commands -/

/-- RING_CONFIG: R363. -/
def execRingConfig (d : Desc) (s : State) : Host.Outcome State Fault Refusal := .next (s.serve 0x0900 d ringConfig)

/-- SYNC_ARM: R347. -/
def execSyncArm (d : Desc) (s : State) : Host.Outcome State Fault Refusal := .next (s.serve 0x0901 d syncArm)

/-- COLLIMATE: R349. -/
def execCollimate (d : Desc) (s : State) : Host.Outcome State Fault Refusal := .next (s.serveJob 0x0902 d [] collimate)

/-- BARRIER_TEST: R353. -/
def execBarrierTest (d : Desc) (longest : Nat) (s : State) : Host.Outcome State Fault Refusal :=
  .next (s.serveJob 0x0903 d [] (barrierTest longest))

/-- TIMED_FRAME: R361. -/
def execTimedFrame (d : Desc) (p : Bytes) (s : State) : Host.Outcome State Fault Refusal :=
  .next (s.serveJob 0x0904 d p timedFrame)

/-- SNAPSHOT: R355. -/
def execSnapshot (d : Desc) (s : State) : Host.Outcome State Fault Refusal := .next (s.serveJob 0x0905 d [] snapshotCmd)

/-- RING_FLAGS_WRITE: R354. -/
def execRingFlagsWrite (set clr : BitVec 4) (s : State) : Host.Outcome State Fault Refusal :=
  .next (s.writeFlags set.toNat clr.toNat)

/-- INBOX_POP: R362. -/
def execInboxPop (s : State) : Host.Outcome State Fault Refusal :=
  if s.ring.inbox = [] then .next s
  else .next (s.modRing (fun r => { r with inbox := r.inbox.tail, inboxHead := (r.inboxHead + 1) % 8 }))

/-- TESTER_TIME_LATCH: R25. -/
def execTesterTimeLatch (s : State) : Host.Outcome State Fault Refusal :=
  .next { s.wr SY_TT.T s.syncCount with bus := { data := [s.syncCount % 2 ^ 32] } }

/-- RING_LINK_TRAIN: R340. -/
def execRingLinkTrain (port : Fin 2) (pass : BitVec 8) (s : State) : Host.Outcome State Fault Refusal :=
  .next (s.trainPort port pass.toNat)

/-- DISCOVER_SEND: R343. It leaves whether the ring is up or not. -/
def execDiscoverSend (s : State) : Host.Outcome State Fault Refusal :=
  if s.onRing ∧ s.me = 0 then
    let (at_, s) := s.departure
    .next (s.emit at_ 1 (discoverPayload s.newDiscover))
  else .next s

/-- DISCOVER: R343. -/
def execDiscover (h : RingHead) (n hops : BitVec 8) (ids : List (BitVec 8)) (lo hi : BitVec 4) (wrapped : Bool) (s : State) :
    Host.Outcome State Fault Refusal :=
  let f : Discover := ⟨n, hops, ids, lo, hi⟩
  .next (s.ringIn h 1 (discoverPayload f) (State.discoverHome f wrapped) (State.discoverIn h.origin.toNat f wrapped))

/-- RINGUP_TIMEOUT: R343. -/
def execRingupTimeout (s : State) : Host.Outcome State Fault Refusal :=
  match s.ring.discover with
  | some t => .next (((s.reach (t + 640000)).wrs 0 [(SY_STAT.RINGUP, 0), (SY_VER.CURV, 0)]).modRing (fun r => { r with discover := none }))
  | none => .next s

/-- RING_FRAME_RESEND: R346. -/
def execRingFrameResend (idx : Nat) (s : State) : Host.Outcome State Fault Refusal := .next (s.resendFrame idx)

/-- GATHER: R352. -/
def execGather (h : RingHead) (bar : Fin 129) (s : State) : Host.Outcome State Fault Refusal :=
  .next (s.ringIn h 2 (barPayload bar) (State.gatherHome bar) (State.gatherIn bar h.origin.toNat))

/-- RELEASE: R352. -/
def execRelease (h : RingHead) (bar : Fin 129) (time : BitVec 56) (s : State) : Host.Outcome State Fault Refusal :=
  .next (s.ringIn h 3 (releasePayload bar time.toNat) (fun s => s.removeSent 3 (releasePayload bar time.toNat)) (State.releaseIn bar h.origin.toNat time.toNat))

/-- RING_BARRIER_RELEASE: R352. -/
def execRingBarrierRelease (bar : Fin 129) (s : State) : Host.Outcome State Fault Refusal := .next (s.barDue bar)

/-- FLAGS: R354. -/
def execFlags (h : RingHead) (set clr : BitVec 4) (time : BitVec 56) (s : State) : Host.Outcome State Fault Refusal :=
  .next (s.ringIn h 4 (flagsPayload set.toNat clr.toNat time.toNat) (fun s => s.removeSent 4 (flagsPayload set.toNat clr.toNat time.toNat))
    (State.flagsIn h.origin.toNat set.toNat clr.toNat time.toNat))

/-- RING_FLAGS_APPLY: the changes due first take effect (R354). -/
def execRingFlagsApply (s : State) : Host.Outcome State Fault Refusal :=
  match (s.ring.flags.map (·.time)).min? with
  | some t => .next (s.applyFlags t)
  | none => .next s

/-- TRIGGER: R303. -/
def execTrigger (h : RingHead) (t : BitVec 56) (frac : BitVec 12) (s : State) : Host.Outcome State Fault Refusal :=
  .next (s.ringIn h 5 (triggerPayload (t.toNat * 4096 + frac.toNat))
    (fun s => s.removeSent 5 (triggerPayload (t.toNat * 4096 + frac.toNat)))
    (fun s => s.firstCopy 5 h.origin.toNat [t.toNat, frac.toNat] (fun s =>
      (s.pzPulse 0x04 s.tt (s.tt + 1)).modPrism (fun p => { p with
        ringTrig := noteAt p.aligned (s.tt, nearest 56 t.toNat s.tt * 4096 + frac.toNat) p.ringTrig }))))

/-- SNAPSHOT_FRAME: R356. -/
def execSnapshotFrame (h : RingHead) (time : BitVec 56) (s : State) : Host.Outcome State Fault Refusal :=
  .next (s.ringIn h 6 (ringTime time.toNat) (fun s => s.removeSent 6 (ringTime time.toNat)) (State.snapIn h.origin.toNat time.toNat))

/-- SNAPSHOT_LATCH: R356. -/
def execSnapshotLatch (s : State) : Host.Outcome State Fault Refusal := .next s.latchSnap

/-- RESET: R357. -/
def execReset (h : RingHead) (time : Option (BitVec 56)) (s : State) : Host.Outcome State Fault Refusal :=
  .next (s.ringIn h 7 (resetPayload (time.map BitVec.toNat)) (State.resetHome (time.map BitVec.toNat)) (State.resetIn h.origin.toNat (time.map BitVec.toNat)))

/-- RING_RESET_RELEASE: R357. -/
def execRingResetRelease (s : State) : Host.Outcome State Fault Refusal :=
  match s.ring.reset with
  | some t => .next (s.ringReset t)
  | none => .next s

/-- LEAVE: the other members halt the site with cause 4 (R82). -/
def execLeave (h : RingHead) (site : Fin 64) (s : State) : Host.Outcome State Fault Refusal :=
  .next (s.ringIn h 8 (ringWord (toLe 1 site)) (fun s => s.removeSent 8 (ringWord (toLe 1 site)))
    (fun s => s.firstCopy 8 h.origin.toNat [site.val] (fun s =>
      if 1 < s.rd SQ_STATE.CHIPS site then s.postHalt site 4 else s)))

/-- A TIMECHECK frame: a reply names the receive stamp of its request in ticks and frac, a request whether a COLLIMATE
makes it. -/
def timeCheck (reply coll : Bool) (ticks : BitVec 56) (frac : BitVec 12) : TimeCheck :=
  if reply then .reply (ticks.toNat * 4096 + frac.toNat) else .request coll

/-- TIMECHECK: R349. `stamp` is the receive stamp in frac. -/
def execTimecheck (h : RingHead) (reply coll : Bool) (ticks : BitVec 56) (frac : BitVec 12) (stamp : Nat) (s : State) :
    Host.Outcome State Fault Refusal :=
  let f := timeCheck reply coll ticks frac
  .next (s.ringIn h 9 (timePayload f) (fun s => s.removeSent 9 (timePayload f)) (State.timecheckIn h f stamp))

/-- TIME_CHECK_PERIODIC: the next request leaves on the east link, 2 µs after the last while a COLLIMATE measures, otherwise
every 1 ms by the rule for periodic work (R349, R350, R374). -/
def execTimeCheckPeriodic (s : State) : Host.Outcome State Fault Refusal :=
  if s.ring.collecting then .next ((s.reach (s.ring.asked / 4096 + 6400)).askTime true)
  else if s.ring.base.isSome then
    let s := s.reach (s.ring.checks.due 3200000)
    .next ((s.modRing (fun r => { r with checks := r.checks.take s.tt })).askTime false)
  else .next s

/-- COLLECT: R349. -/
def execCollect (h : RingHead) (c : Collect) (s : State) : Host.Outcome State Fault Refusal :=
  .next (s.ringIn h 10 (collectPayload c) (State.collectHome c) (fun s => if h.origin = 0 then s.collectIn c else s))

/-- TIMED: R362. The frame has one payload word or more. -/
def execTimed (h : RingHead) (first : BitVec 56) (rest : Bytes) (s : State) : Host.Outcome State Fault Refusal :=
  let data := toLe 7 first.toNat ++ rest
  .next (s.ringIn h 11 (padWords data) (fun s => s.removeSent 11 (padWords data))
    (State.timedIn h.origin.toNat (h.txts.toNat / 4096) data))

/-- TIMED_FRAME_LAUNCH: R361. -/
def execTimedFrameLaunch (s : State) : Host.Outcome State Fault Refusal := .next s.launchTimed

/-- SYNC_PULSE: R347. -/
def execSyncPulse (s : State) (e : SyncEvent := .zero) : Host.Outcome State Fault Refusal :=
  match e with
  | .edge t level near => .next (s.syncEdge t.toNat level near)
  | .zero => .next s.syncZero

/-- VOTE_WORD: R358, R360. `vote` holds C, F, A, M from bit 0. -/
def execVoteWord (site : Fin 64) (v : Nat) (vote : BitVec 4) (east bad : Bool) (s : State) :
    Host.Outcome State Fault Refusal := .next (s.voteWord site v vote.toNat east bad)

/-- START_BARRIER_ARRIVAL: 2 µs after the site has entered RUNNING its chip arrives at the start barrier (R360). -/
def execStartBarrierArrival (site : Fin 64) (s : State) : Host.Outcome State Fault Refusal :=
  let i := site.val
  if s.site i = stRunning ∧ (s.seq i).waitBarrier ∧ ¬ s.ring.started.contains i then
    let s := s.reach ((s.seq i).barTime + 6400)
    .next ((s.modRing (fun r => { r with started := r.started ++ [i] })).arriveBar (64 + i))
  else .next s

/-- PRISM_TICK: one aligned tick; a broadcast leaves on the ring with the placed instant (R295, R302). -/
def execPrismTick (ext : ExtLines) (high low : BitVec 512) (s : State) : Host.Outcome State Fault Refusal :=
  let (s, b) := s.prismTick ext high low
  match b with
  | some at_ => .next (s.launch 5 (triggerPayload at_))
  | none => .next s

end Sys2Proof.Machine
end

