-- ==== Sys2Proof/Machine/Bus.lean ====
section
/-!
DEFINITION. The control-side bus (01): what an address holds, what a read shows, what a write does, and which accesses end
with a bus error.
-/
namespace Sys2Proof.Machine

/-! ## What an address holds (R30, R32, Table 1-6, Table 2-1) -/

/-- What stands at an address: a register window with its instance and the offset in it, ring memory of the host window,
scratchpad, capture SRAM, a place of a block's window without a register (with a window on the same clock), or a reserved
range. -/
inductive Spot where
  | win (w : Win) (i off : Nat)
  | ring (off : Nat)
  | pad (off : Nat)
  | cap (off : Nat)
  | empty (w : Win)
  | reserved
  deriving DecidableEq, Repr

/-- The windows of one instance and 1 MiB, by the address's upper bits. -/
def wideWindow (mib : Nat) : Option Win :=
  match mib with
  | 0x011 => some .ck | 0x012 => some .fc | 0x014 => some .hl | 0x015 => some .sy | 0x016 => some .mc
  | 0x017 => some .sc | 0x040 => some .lp | 0x041 => some .pz | 0x050 => some .ca
  | _ => none

/-- Table 1-6. Mirrors and REF channels continue the channel windows (R33). -/
def spotAt (a : Nat) : Spot :=
  if a < 0x10000 then .win .hw 0 a
  else if a < 0x1C000 ∨ (0x20000 ≤ a ∧ a < 0x28000) then .ring a
  else if a < 0x100000 then .empty .hw
  else if 0x01000000 ≤ a ∧ a < 0x01100000 then .empty .hw
  else if 0x01300000 ≤ a ∧ a < 0x01304000 then .win .pm ((a - 0x01300000) / 0x100) (a % 0x100)
  else if 0x01304000 ≤ a ∧ a < 0x01400000 then .empty .pm
  else if 0x02000000 ≤ a ∧ a < 0x02400000 then .win .sq ((a - 0x02000000) / 0x10000) (a % 0x10000)
  else if 0x03000000 ≤ a ∧ a < 0x03214000 then .win .ch ((a - 0x03000000) / 0x1000) (a % 0x1000)
  else if 0x03220000 ≤ a ∧ a < 0x03230000 then .win .gr ((a - 0x03220000) / 0x1000) (a % 0x1000)
  else if 0x10000000 ≤ a ∧ a < 0x10400000 then .pad (a - 0x10000000)
  else if 0x20000000 ≤ a ∧ a < 0x22000000 then .cap (a - 0x20000000)
  else match wideWindow (a / 0x100000) with
    | some w => .win w 0 (a % 0x100000)
    | none => .reserved

/-- The block window of an address: the block's first address, for a block with several instances the instance's. -/
def blockOf (a : Nat) : Nat :=
  if 0x02000000 ≤ a ∧ a < 0x02400000 then a / 0x10000 * 0x10000
  else if 0x03000000 ≤ a ∧ a < 0x04000000 then a / 0x1000 * 0x1000
  else if 0x10000000 ≤ a ∧ a < 0x10400000 then 0x10000000
  else if 0x20000000 ≤ a ∧ a < 0x22000000 then 0x20000000
  else a / 0x100000 * 0x100000

/-- A field with the instance of its window: a Mirror's and a REF channel's window hold the channel's registers and their
own (R33). -/
def windowFields (w : Win) (i : Nat) : List (Field × Nat) :=
  (fieldsOf w).map (fun f => (f, i))
    ++ (if w = .ch ∧ 512 ≤ i ∧ i < 528 then (fieldsOf .mirror).map (fun f => (f, i - 512)) else [])
    ++ (if w = .ch ∧ 528 ≤ i then (fieldsOf .ref).map (fun f => (f, i - 528)) else [])

/-- The copy of a field that has bits in the word at offset `off`, and the byte offset of that word in the copy. -/
def Field.at? (f : Field) (off : Nat) : Option (Nat × Nat) :=
  if off < f.off then none
  else
    let k := if f.n ≤ 1 ∨ f.sub = 0 then 0 else (off - f.off) / f.sub
    let r := off - f.off - k * f.sub
    if k < f.n ∧ f.lo < 8 * r + 32 ∧ 8 * r < f.lo + f.w ∧ ¬ (f.win = .mc ∧ f.off = 0x40 ∧ k = 0) then some (k, r) else none

/-- The part of a field's value `v` that stands in its word `r`. -/
def Field.part (f : Field) (r v : Nat) : Nat :=
  if 8 * r ≤ f.lo then v % 2 ^ (8 * r + 32 - f.lo) * 2 ^ (f.lo - 8 * r) else v / 2 ^ (8 * r - f.lo) % 2 ^ 32

/-- The field's value `old` with its bits in word `r` taken from the word `v`. -/
def Field.merge (f : Field) (r old v : Nat) : Nat :=
  if 8 * r ≤ f.lo then
    let n := min f.w (8 * r + 32 - f.lo)
    setBits old 0 n (bits v (f.lo - 8 * r) n)
  else
    let n := min (f.w - (8 * r - f.lo)) 32
    setBits old (8 * r - f.lo) n (bits v 0 n)

/-! ## Clocks and reach (R28, R35, R408, Table 1-1, Table 1-5, Table 1-7) -/

/-- A register of the DRAM controllers that belongs to one pseudo-channel stands on its stack's clock; one that both
controllers share answers while either clock runs (DESIGN CHOICE, log entry 76). -/
def State.memStopped (s : State) (off : Nat) : Bool :=
  if (0x100 ≤ off ∧ off < 0x300) ∨ (0x900 ≤ off ∧ off < 0xA00) then !s.ready (20 + off / 4 % 64 / 32)
  else !(s.ready 20 || s.ready 21)

/-- The clock of what stands there is stopped, or its island is gated (R28, Table 1-1). CK_CTL falls back to CK_INT. -/
def State.stopped (s : State) (p : Spot) : Bool :=
  let ctl := !(s.ready 24 || s.ready 25)
  match p with
  | .win w i off =>
    match w with
    | .hw | .ca => ctl
    | .ck | .fc | .sc => !s.ready 25
    | .pm | .sq => !s.ready 19
    | .lp => !s.ready 19 || s.gated 16
    | .pz => !s.ready 2 || s.gated 17
    | .sy => !s.ready 23
    | .hl => !s.ready 22
    | .mc => s.memStopped off
    | .gr => !s.ready (3 + i) || s.gated i
    | .ch | .mirror | .ref =>
      if i < 512 then !s.ready (3 + groupOf i) || s.gated (groupOf i)
      else if i < 528 then !s.ready (3 + (i - 512)) || s.gated (i - 512)
      else !s.ready 2
  | .ring _ | .pad _ => ctl
  | .cap _ => !s.ready 19 || s.gated 16
  | .empty w => if w = .pm then !s.ready 19 else ctl
  | .reserved => false

/-- Master `m` reaches the place (Table 1-7). Of the host window the fault collector reaches the event ring alone. -/
def reaches (m : Nat) (p : Spot) (a : Nat) : Bool :=
  if m = 1 ∨ m = 2 then true
  else match p with
    | .win .hw _ _ => (0x10 ≤ m && m < 0x18) || m == 0x20
    | .ring off => (0x10 ≤ m && m < 0x18) || m == 0x20 || (m == 0x83 && decide (0x20000 ≤ off))
    | .empty _ => (a < 0x100000 && ((0x10 ≤ m && m < 0x18) || m == 0x20)) || (0x01000000 ≤ a && a < 0x01100000 && m == 3)
    | .win .sc _ _ | .win .ck _ _ => m == 3
    | .win .fc _ _ => m == 3 || m == 0x83
    | .win .sy _ _ => m == 0x30
    | .win .sq i off => m == 0x40 + i || (m == 0x30 && (decide (0x24 ≤ off ∧ off < 0x34) || off == 0xA0))
    | .win .ch _ _ | .win .gr _ _ | .win .ca _ _ => m == 0x82
    | .pad _ => 0x10 ≤ m && m < 0x18
    | .cap _ => (0x10 ≤ m && m < 0x18) || m == 0x80
    | _ => false

/-- An access of `n` bytes at this place has a size and alignment that the place takes: one aligned word, and in the
scratchpad, capture SRAM and ring memory one or two (R31, R40). -/
def sizeOk (p : Spot) (a n : Nat) : Bool :=
  match p with
  | .ring _ | .pad _ | .cap _ => (n == 4 || n == 8) && a % n == 0
  | _ => n == 4 && a % 4 == 0

/-- What becomes of an access of `n` bytes before it reaches anything: none where it goes on, otherwise the kind and severity
of its fault, or no fault for a wrong size or alignment (R28, R31, R32, R35). Where several of these hold, the specification
gives no order; the model takes size and alignment, then reserved, then reach, then the clock (DESIGN CHOICE, log
entry 73). -/
def State.busError (s : State) (m a n : Nat) : Option (Option (Nat × Nat)) :=
  let p := spotAt a
  if ¬ sizeOk p a n then some none
  else if p = .reserved then some (some (0x03, 0))
  else if ¬ reaches m p a then some (some (0x02, 2))
  else if s.stopped p then some (some (0x01, 0))
  else none

/-- A fault of an access. -/
def State.busFault (s : State) (kind sev m a : Nat) (write : Bool) : State :=
  let f : FaultMsg := { source := BitVec.ofNat 10 (masterUnit m), kind := BitVec.ofNat 8 kind, sev := BitVec.ofNat 3 sev,
                        access := if write then 2 else 1, master := BitVec.ofNat 8 m, address := BitVec.ofNat 40 a }
  s.takeFaults [f]

/-! ## Reads (R10, R11, R25, R368) -/

/-- What a field reads as. Counts of what the state holds elsewhere are taken from there. -/
def State.view (s : State) (f : Field) (i k : Nat) : Nat :=
  let v := s.rd f i k
  if f.acc = .wo then 0
  else match f.win with
    | .hw =>
      if f.off = 0x4 ∧ f.lo = 3 then b2n (decide (256 ≤ s.mbx.jobs.length))
      else if f.off = 0x4 ∧ f.lo = 8 then s.mbx.jobs.length
      else if f.off = 0x110 ∧ f.lo = 16 then s.ctxJobs k else v
    | .sq =>
      if f.off = 0x20 then s.depthNow i else if f.off = 0x14 then s.vaNow i else if f.off = 0x1A4 ∧ f.lo = 8 then s.ext.supmon.toNat else v
    | .ch =>
      if f.off = 0x10C ∧ f.lo = 0 then (s.chan i).fifo.length + (s.chan i).ringCodes.length
      else if f.off = 0x10C ∧ f.lo = 12 then b2n ((s.chan i).cand.any (fun c => c.1 == 1))
      else if f.off = 0x10C ∧ f.lo = 13 then b2n ((s.chan i).cand.any (fun c => c.1 == 2))
      else if f.off = 0x200 ∧ f.lo = 8 then (s.tia i).records.length
      else if f.off = 0x50 ∧ f.lo ≤ 1 then (if s.latch then 0 else if i < 512 then s.rd f (s.padEngine i) else v)
      else if f.off = 0x50 ∧ 512 ≤ i ∧ i < 528 ∧ s.rd CH_MSTAT.MODE (i - 512) ≠ 0 then s.rd f (s.lineOf i) else v
    | .gr => if f.off = 0 ∧ f.lo = 0 then ((s.group i).settle s.tt).records.length else v
    | .pz => if f.off = 0x20 ∧ f.lo = 12 then (s.wired s.ext s.tt).xtrig.toNat else v
    | .lp => if f.off = 0x20 then s.fifoBytes else if f.off = 0 ∧ f.lo = 11 then b2n (decide (s.fifoBytes ≠ 0)) else v
    | .ca => if f.off = 0x10 then ofBitList 16 ((List.range 16).filter (fun g => s.dueIn g != [])) else v
    | .sy =>
      if f.off = 0x24 then
        ofBitList 16 ((List.range 16).filter (fun b =>
          (List.range 64).any (s.ringWaits b) || Tab.get 0 s.ring.held b != 0))
      else if f.off = 0x2C then (if f.lo = 0 then s.ring.inbox.length else s.ring.inboxHead) else v
    | .hl => if f.off = 0 ∧ f.lo = 13 then b2n s.scanning.isSome else v
    | .mc => if f.off = 0 ∧ f.lo = 16 then (List.range 64).countP (fun k => s.on MC_PC.FENCED 0 k) else v
    | .fc =>
      if f.off = 0 ∧ f.lo = 16 then (List.range 736).countP s.fenced
      else if (f.off = 0x80 ∨ f.off = 0x84) ∧ s.rd SC_STAT.BOOT ≠ 2 then 0 else v
    | _ => v

/-- What a lane with a signal has received since it was looked at last is open: commas, code errors and the last symbol
(HL_LnCNT, HL_LnRAW). -/
def State.laneInput (s : State) (l : Nat) : State :=
  if s.on HL_LnSTAT.DET 0 l then
    let (c, s) := s.draw
    let (e, s) := s.draw
    let (x, s) := s.draw
    ((s.inc HL_LnCNT.COMMA 0 l c).inc HL_LnCNT.CODEERR 0 l e).wr HL_LnRAW.SYM (x % 1024) 0 l
  else s

/-- How reads have met pending writes in a pseudo-channel's queues is open: it may be in order or not, and has entered that
order an open number of times since it was looked at last (R419, R420). -/
def State.queueOrder (s : State) (k : Nat) : State :=
  let (x, s) := s.draw
  let (n, s) := s.draw
  (s.wr MC_PC.INORD (x % 2) 0 k).inc MC_PC.INORDCNT 0 k n

/-- A word of inbox entry e (SY_INBOXe); what stands in an entry that holds no frame is open. -/
def State.inboxWord (s : State) (off : Nat) : Nat × State :=
  match s.ring.inbox[((off - 0x400) / 0x80 + 8 - s.ring.inboxHead) % 8]? with
  | some e => (field e (off % 0x80) 4, s)
  | none => let (r, s) := s.draw; (r % 2 ^ 32, s)

/-- A dispatch entry of the mask ROM: every one is valid, with odd parity (R161). -/
def romEntry (e : Nat) : Nat :=
  let a := (Config.romDispatch e).toNat
  a + 2 ^ 12 + b2n ((ones 12 a + 1) % 2 == 0) * 2 ^ 13

/-- A register word as its fields show it. The mask ROM's dispatch entries are fixed (R147). -/
def State.regWord (s : State) (w : Win) (i off : Nat) : Nat :=
  if w = .sq ∧ 0x1000 ≤ off ∧ off < 0x1300 then romEntry ((off - 0x1000) / 4)
  else ((windowFields w i).map (fun p =>
    match p.1.at? off with
    | some (k, r) => p.1.part r (s.view p.1 p.2 k)
    | none => 0)).foldl (· + ·) 0

/-- The counter whose LO word stands at an offset of a PM_ window, or whose HI word (R368). -/
def pmCounter (off : Nat) : Option Nat :=
  if off = PM_SLOTS.COUNT.off then some 0
  else if PM_CNT.COUNT.off ≤ off ∧ off < PM_CNT.COUNT.off + 64 ∧ off % 8 = PM_CNT.COUNT.off % 8 then
    some (1 + (off - PM_CNT.COUNT.off) / 8)
  else none

/-- The value of a counter by its number. -/
def State.pmValue (s : State) (i k : Nat) : Nat := if k = 0 then s.rd PM_SLOTS.COUNT i else s.rd PM_CNT.COUNT i (k - 1)

/-- A read that has come through: the word, and what the read latches. -/
def State.readSpot (s : State) (p : Spot) : Nat × State :=
  match p with
  | .ring a => (le (s.win.readN a 4), s)
  | .pad a => (le (s.pad.readN a 4), s)
  | .cap a => (le (s.cap.readN a 4), s)
  | .win .sy _ off =>
    if off = 0x10 then (s.syncCount % 2 ^ 32, s.wr SY_TT.T s.syncCount)
    else if 0x400 ≤ off ∧ off < 0x800 then s.inboxWord off
    else (s.regWord .sy 0 off, s)
  | .win .pm i off =>
    let s := (s.pmTicks i).settleDumps i
    match pmCounter off with
    | some k =>
      (s.pmValue i k % 2 ^ 32, s.modSeq i (fun q => { q with hiLatch := Tab.set 0 q.hiLatch k (s.pmValue i k / 2 ^ 32) }))
    | none =>
      if 4 ≤ off then
        match pmCounter (off - 4) with
        | some k => (Tab.get 0 (s.seq i).hiLatch k, s)
        | none => (s.regWord .pm i off, s)
      else (s.regWord .pm i off, s)
  | .win .hl i off =>
    let s := if 0x100 ≤ off ∧ 8 ≤ off % 0x20 then s.laneInput ((off - 0x100) / 0x20) else s
    (s.regWord .hl i off, s)
  | .win .mc i off =>
    let s := if 0x100 ≤ off ∧ off < 0x200 then s.queueOrder ((off - 0x100) / 4) else s
    (s.regWord .mc i off, s)
  | .win w i off => (s.regWord w i off, s)
  | .empty _ | .reserved => (0, s)

/-- A read by master `m`: the word, whether it ended with a bus error, and the state after it. -/
def State.busRead (s : State) (m a : Nat) : Nat × Bool × State :=
  match s.busError m a 4 with
  | some (some (kind, sev)) => (0, true, s.busFault kind sev m a false)
  | some none => (0, true, s)
  | none => let (v, s) := s.readSpot (spotAt a); (v, false, s)

end Sys2Proof.Machine
end

