-- ==== Sys2Proof/Machine/Access.lean ====
section
/-!
DEFINITION. Register writes, the host window's indices and contexts, consumption and start of commands, and PEEK, POKE and
the host's own accesses (00, 01, 02).
-/
namespace Sys2Proof.Machine

/-- The state an effect goes on with. -/
def after (o : Host.Outcome State Fault Refusal) (s : State) : State :=
  match o with
  | .next t => t
  | _ => s

/-! ## Plain fields (R10, Table 0-3) -/

/-- The channel is bound to a site in RUNNING or HALTING. -/
def State.heldChan (s : State) (n : Nat) : Bool :=
  match s.siteOf n with
  | some t => s.busySite t
  | none => false

/-- The Mirror plays for such a channel. -/
def State.heldMirror (s : State) (m : Nat) : Bool := s.rd CH_MSTAT.MODE m != 0 && s.heldChan (s.rd CH_MSTAT.CHAN m)

/-- The lock of a window is open (03, 07, 20). -/
def State.lockOpen (s : State) (w : Win) (i : Nat) : Bool :=
  match w with
  | .sq => !s.busySite i
  | .ch => if i < 512 then !s.heldChan i else if i < 528 then !s.heldMirror (i - 512) else true
  | .gr => !((List.range 32).any (fun k => s.heldChan (32 * i + k)) || s.heldMirror i)
  | _ => true

/-- The field takes this value; a write of another leaves it unchanged. -/
def Field.takes (f : Field) (v : Nat) : Bool :=
  match f.win with
  | .ch => f.off != 0x4C || decide (v ≤ 312)
  | .gr => f.off != 0x100 || decide (v ≤ 12)
  | .ca =>
    if f.off = 0 then f.lo != 8 || decide (1 ≤ v ∧ v ≤ 64)
    else if f.off = 4 then (if f.lo = 0 then decide (1 ≤ v ∧ v ≤ 32) else decide (10 ≤ v ∧ v ≤ 1000))
    else true
  | .mc => f.off != 4 || decide (6 ≤ v ∧ v ≤ 16)
  | _ => true

/-- The part of a written word that falls on a field, by the field's access code. -/
def State.writeField (s : State) (f : Field) (i k r v : Nat) : State :=
  let old := s.rd f i k
  let new := f.merge r old v % 2 ^ f.w
  let ones := f.merge r 0 v
  match f.acc with
  | .ro | .wo => s
  | .rw | .rws => if f.takes new then s.wr f new i k else s
  | .lck => if s.lockOpen f.win i ∧ f.takes new then s.wr f new i k else s
  | .w1c => s.wr f (old - (old &&& ones)) i k
  | .w1s => s.wr f (old ||| ones) i k

/-- A written word by its fields' access codes; Reserved bits are ignored (R11). -/
def State.writeFields (s : State) (w : Win) (i off v : Nat) : State :=
  (windowFields w i).foldl (fun s p =>
    match p.1.at? off with
    | some (k, r) => s.writeField p.1 p.2 k r v
    | none => s) s

/-! ## The indices and contexts of the host window (R41, R42, R50) -/

/-- An index write by master `m` that is ignored (R50). -/
def State.indexIgnored (s : State) (m addr : Nat) (ctx : Option Nat) : State :=
  let s := match ctx with
    | some c => s.wr HW_CTX_STAT.DBERR 1 0 c
    | none => s
  s.takeFaults [infoMsg 709 0x04 2 m addr]

/-- How far index `a` is ahead of index `b`. -/
def ahead (a b : Nat) : Nat := (a + 65536 - b) % 65536

/-- HW_CMD_DB: the doorbell; its arrival is kept for TIME_GET (R50, R388). -/
def State.doorbell (s : State) (m c v : Nat) : State :=
  let cons := s.rd HW_CMD_CONS.CONS 0 c
  if ahead v cons ≤ 64 ∧ ahead (s.rd HW_CMD_DB.PROD 0 c) cons ≤ ahead v cons then
    let s := s.wr HW_CMD_DB.PROD v 0 c
    { s with mbx := { s.mbx with doorbells := s.mbx.doorbells ++ [(c, v, s.tt)] } }
  else s.indexIgnored m (0x100 + 0x20 * c) (some c)

/-- HW_RSP_CONS (R50). -/
def State.rspTaken (s : State) (m c v : Nat) : State :=
  let cons := s.rd HW_RSP_CONS.CONS 0 c
  if ahead v cons ≤ ahead (s.rd HW_RSP_PROD.PROD 0 c) cons then s.wr HW_RSP_CONS.CONS v 0 c
  else s.indexIgnored m (0x10C + 0x20 * c) (some c)

/-- HW_EVT_CONS; after overwrites one QUEUE_LOST record follows (R49, R50). -/
def State.evtTaken (s : State) (m v : Nat) : State :=
  let cons := s.rd HW_EVT_CONS.CONS
  if ahead v cons ≤ ahead (s.rd HW_EVT_PROD.PROD) cons then
    let wasOver := s.mbx.evtOver
    let s := s.wr HW_EVT_CONS.CONS v
    if wasOver then
      let s := { s with mbx := { s.mbx with evtOver := false } }
      s.event 13 0xFFFF s.tt (toLe 4 (s.rd HW_EVT_LOST.LOST))
    else s
  else s.indexIgnored m 0x14 none

/-- One second in ticks. -/
def secondTicks : Nat := 3200000000

/-- The EN part of a write of HW_CTX_CTRL (R42). -/
def State.contextEnable (s : State) (c : Nat) (en : Bool) : State :=
  let s := s.flag HW_CTX_CTRL.EN en 0 c
  if en then { s with mbx := { s.mbx with stopAt := Tab.erase s.mbx.stopAt c } }
  else if 0 < s.ctxJobs c ∧ (Tab.find s.mbx.stopAt c).isNone then
    { s with mbx := { s.mbx with stopAt := Tab.set 0 s.mbx.stopAt c (s.tt + secondTicks) } }
  else s

/-- A write of RST, its EN part being applied (R41). -/
def State.contextReset (s : State) (c : Nat) : State :=
  if s.on HW_CTX_CTRL.EN 0 c ∨ 0 < s.ctxJobs c ∨ s.mbx.imm.any (fun i => i.d.ctx.val == c) then s.wr HW_CTX_STAT.DBERR 1 0 c
  else
    let s := (s.wr HW_CMD_DB.PROD 0 0 c).wr HW_CMD_CONS.CONS 0 0 c
    let s := (s.wr HW_RSP_PROD.PROD 0 0 c).wr HW_RSP_CONS.CONS 0 0 c
    let s := s.wr HW_CTX_STAT.STALL 0 0 c
    { s with mbx := { s.mbx with doorbells := s.mbx.doorbells.filter (fun e => e.1 != c) } }

/-! ## Words with an effect of their own -/

/-- A word of the host window's registers. -/
def State.writeHw (s : State) (m off v : Nat) : State :=
  let c := (off - 0x100) / 0x20
  let r := off % 0x20
  if off = 0x14 then s.evtTaken m (v % 65536)
  else if 0x100 ≤ off ∧ c < 8 ∧ r = 0 then s.doorbell m c (v % 65536)
  else if 0x100 ≤ off ∧ c < 8 ∧ r = 0xC then s.rspTaken m c (v % 65536)
  else if 0x100 ≤ off ∧ c < 8 ∧ r = 0x14 then
    let s := s.contextEnable c (bit v 0)
    if bit v 1 then s.contextReset c else s
  else s.writeFields .hw 0 off v

/-- A word of a sequencer's window. The sync ring alone writes SQ_XSITE. -/
def State.writeSq (s : State) (m : Nat) (i : Fin 64) (off v : Nat) : State :=
  if off = 0xC then (if bit v 0 then after (execHaltreq i s) s else s)
  else if off = 0x18C then after (execFailLogEnable i (bit v 0) (bit v 1) s) s
  else if off = 0x194 then s.advanceRead SQ_FLRD.RD SQ_FLWR.WR i v
  else if off = 0xA0 ∧ m = 0x30 then
    s.wrs i [(SQ_XSITE.POS, bits v 0 2), (SQ_XSITE.HOME, bits v 2 2), (SQ_XSITE.RINGOK, bits v 4 1)]
  else s.writeFields .sq i off v

/-- A word of the clock and reset unit. -/
def State.writeCk (s : State) (off v : Nat) : State :=
  if off = 0x4 then
    let s := if bit v 8 then s.wr CK_SEL.REFUSED 0 else s
    after (execClockSelect (bit v 0) s) s
  else if off = 0x8 then after (execCtlDividerWrite (BitVec.ofNat 5 v) s) s
  else if off = 0x18 then
    let s := s.writeFields .ck 0 off v
    if bit v 16 then after (execFreqCountStart s) s else s
  else if off = 0x24 then
    let old := bitList 19 (s.rd CK_GATE.CLOSE)
    (s.gateOpen (ofBitList 19 (old.filter (fun i => !bit v i)))).gateClose (v % 2 ^ 19)
  else s.writeFields .ck 0 off v

/-- A word of a lane's registers of the host link. -/
def State.writeLane (s : State) (l : Fin 16) (v : Nat) : State :=
  let s := if bit v 0 then after (execLaneSlip l s) s else s
  let s := after (execLaneSymlock l (bit v 1) s) s
  if bit v 2 then after (execLaneCountClear l s) s else s

/-- A word of the fault collector: the injection registers act only in factory test boot (R456). -/
def State.writeFc (s : State) (off v : Nat) : State :=
  if 0x80 ≤ off ∧ off < 0x94 then
    if s.rd SC_STAT.BOOT ≠ 2 then s
    else
      let s := s.writeFields .fc 0 off v
      if off = 0x80 ∧ bit v 0 then after (execFaultInject (bit v 1) s) s else s
  else s.writeFields .fc 0 off v

/-- A word written to a register window. -/
def State.writeReg (s : State) (m : Nat) (w : Win) (i off v : Nat) : State :=
  match w with
  | .hw => s.writeHw m off v
  | .sq => s.writeSq m (Fin.ofNat 64 i) off v
  | .ck => s.writeCk off v
  | .fc => s.writeFc off v
  | .lp => if off = 0x4 then s.loupeJump (bits v 0 6) (bit v 31) false else s.writeFields .lp 0 off v
  | .pz =>
    if off = 0x4 then
      let s := if bit v 0 then after (execPrismGo s) s else s
      if bit v 1 then s.pzStopAt s.tt else s
    else s.writeFields .pz 0 off v
  | .sy =>
    if off = 0x20 then s.writeFlags (bits v 0 4) (bits v 4 4)
    else if off = 0x2C then (if bit v 16 then after (execInboxPop s) s else s)
    else s.writeFields .sy 0 off v
  | .pm => if off = PM_DRD.RD.off then (s.settleDumps i).advanceRead PM_DRD.RD PM_DWR.WR i v else s.writeFields .pm i off v
  | .hl =>
    if 0x100 ≤ off ∧ off < 0x300 ∧ off % 0x20 = 0 then s.writeLane (Fin.ofNat 16 ((off - 0x100) / 0x20)) v
    else s.writeFields .hl 0 off v
  | .mc =>
    if 0x40 ≤ off ∧ off < 0x5C ∧ off % 4 = 0 then
      after (execRegulatorWrite (Fin.ofNat 7 ((off - 0x40) / 4)) (BitVec.ofNat 32 v) s) s
    else s.writeFields .mc 0 off v
  | w => s.writeFields w i off v

/-- A write of `n` bytes by master `m`: whether it ended with a bus error, and the state after it (R10, R28, R31, R32, R35,
R435). -/
def State.busWrite (s : State) (m a n v : Nat) : Bool × State :=
  match s.busError m a n with
  | some (some (kind, sev)) => (true, s.busFault kind sev m a true)
  | some none => (true, s)
  | none =>
    match spotAt a with
    | .win w i off => (false, s.writeReg m w i off v)
    | .ring o => (false, { s with win := s.win.writeN o (toLe n v) })
    | .pad o => (false, { s with pad := s.pad.writeN o (toLe n v) })
    | .cap o => if s.loupeActive then (true, s) else (false, { s with cap := s.cap.writeN o (toLe n v) })
    | .empty _ | .reserved => (false, s)

/-! ## Consumption and start (R51–R56, R505) -/

/-- The tester time of the HW_CMD_DB write that first covered the descriptor at the context's consumer index. -/
def State.coverTime (s : State) (c cons : Nat) : Nat :=
  match s.mbx.doorbells.find? (fun e => e.1 == c && decide (1 ≤ ahead e.2.1 cons ∧ ahead e.2.1 cons ≤ 64)) with
  | some e => e.2.2
  | none => s.tt

/-- STALL names why the head descriptor waits. -/
def State.stall (s : State) (c why : Nat) : State := s.wr HW_CTX_STAT.STALL why 0 c

/-- The head descriptor leaves its ring. -/
def State.consumed (s : State) (c : Nat) : State :=
  let next := s.rd HW_CMD_CONS.CONS 0 c + 1
  let s := (s.wr HW_CMD_CONS.CONS next 0 c).stall c 0
  { s with mbx := { s.mbx with
    doorbells := s.mbx.doorbells.filter (fun e => e.1 != c || decide (1 ≤ ahead e.2.1 next ∧ ahead e.2.1 next ≤ 64)) } }

/-- One visit of a context by a core that serves the mailbox (R53, R54, R56). -/
def State.visitContext (s : State) (c : Fin 8) : State :=
  let cons := s.rd HW_CMD_CONS.CONS 0 c
  if cons = s.rd HW_CMD_DB.PROD 0 c ∨ ¬ s.on HW_CTX_CTRL.EN 0 c then s.stall c 0
  else if s.rspFree c < s.ctxJobs c + 2 then s.stall c busy
  else
    let (op, d) := descOf c (s.win.readN (0x10000 + c * 0x1000 + 64 * (cons % 64)) 64)
    let bad := s.checkConsumed op d
    let isJob := (cmdRow op).any CmdRow.job
    let cmd : Consumed := ⟨op, d, s.coverTime c cons, s.mbx.flowSeq⟩
    if isJob ∧ bad = none ∧ 256 ≤ s.mbx.jobs.length then s.stall c queueFull
    else if (cmdRow op).isSome ∧ ¬ isJob ∧ ordered d ∧ s.earlier cmd then s.stall c 0
    else
      let s := s.consumed c
      let s := { s with mbx := { s.mbx with flowSeq := s.mbx.flowSeq + 1 } }
      match bad with
      | some e => s.answer cmd e []
      | none => if isJob then s.enqueue cmd else { s with mbx := { s.mbx with imm := s.mbx.imm ++ [cmd] } }

/-- The oldest startable job (R55). -/
def State.oldestJob (s : State) : Option Job :=
  (s.mbx.jobs.filter s.startable).foldl (fun b j =>
    match b with
    | some x => if j.cmd.seqNo < x.cmd.seqNo then some j else b
    | none => some j) none

/-- Check 5 of R505 for a job (R66, R89). -/
def State.stateRule (s : State) (op : Nat) (d : Desc) : Bool :=
  let st := s.site d.site.toNat
  if op = 0x0200 then st == stUnbound
  else if op = 0x0202 then st == stIdle || (bit (par d 24 1) 0 && [stLoaded, stDone, stHalted, stInvalid].contains st)
  else if op = 0x0203 then !s.busySite d.site.toNat
  else if op = 0x0204 then [stLoaded, stDone, stHalted].contains st
  else if op = 0x0300 ∨ op = 0x0301 ∨ op = 0x0302 then par d 24 2 != 0xFFFF || st != stUnbound
  else true

/-- The oldest startable job starts: one that a HALT or a stop has ended is answered ABORTED, one that its site's state
refuses is refused, any other takes a worker and asks for its payload (R55, R59, R387, R505). -/
def State.startOldest (s : State) : State :=
  match s.oldestJob with
  | none => s
  | some j =>
    if j.abort then s.finishJob j aborted [] []
    else if ¬ s.stateRule j.cmd.op j.cmd.d then s.finishJob j refusedState [] []
    else
      let s := s.startJob j.id
      if (cmdRow j.cmd.op).any (fun r => r.payload == .toDevice) then s.requestData j.id 64 else s

/-! ## PEEK, POKE, HWWR, HWRD (R31, R32, R34, R147, R386) -/

/-- The active control core's master ID. -/
def State.coreMaster (s : State) : Nat := 1 + s.rd HW_STATUS.ACTIVE

/-- Consecutive words read by one master. -/
def State.readWords (s : State) (m a : Nat) : (n : Nat) → List Nat × State
  | 0 => ([], s)
  | n + 1 =>
    let (v, _, s) := s.busRead m a
    let (vs, s) := s.readWords m (a + 4) n
    (v :: vs, s)

/-- Consecutive words read by a control core of which those of the first 64-bit memory word have an uncorrectable error: it
ends with a bus error and a fault of its memory (R433, R435). -/
def State.readBadWords (s : State) (m a n : Nat) : List Nat × State :=
  let lost := if a % 8 = 0 then min n 2 else 1
  let mem := if a < 0x20000000 then 703 else 704
  let s := s.takeFaults [{ source := BitVec.ofNat 10 mem, kind := 0x21, sev := 2, access := 1, master := BitVec.ofNat 8 m,
                           address := BitVec.ofNat 40 a }]
  let (vs, s) := s.readWords m (a + 4 * lost) (n - lost)
  (List.replicate lost 0 ++ vs, s)

/-- The address lies in a memory with check bits on this map. -/
def sramAt (a : Nat) : Bool :=
  match spotAt a with
  | .pad _ | .cap _ => true
  | _ => false

/-- PEEK: R31, R32, R63. `bad` tells that the first memory word has an uncorrectable error. -/
def peek (bad : Bool) (c : Consumed) (s : State) : Act :=
  let a := par c.d 24 4
  let n := par c.d 28 1
  if a % 4 ≠ 0 ∨ n = 0 ∨ 4 < n then refuse badParam s
  else if (List.range n).any (fun k => spotAt (a + 4 * k) == .reserved || blockOf (a + 4 * k) != blockOf a) then
    refuse outOfRange s
  else
    let (ws, s) := if bad ∧ sramAt a ∧ ¬ s.stopped (spotAt a) then s.readBadWords s.coreMaster a n
      else s.readWords s.coreMaster a n
    success (toLe 4 a ++ ws.flatMap (toLe 4)) s

/-- POKE: R31, R32, R63, R147. -/
def poke (c : Consumed) (s : State) : Act :=
  let a := par c.d 24 4
  let inStore : Bool := match spotAt a with
    | .win .sq _ off => decide (0x1000 ≤ off)
    | _ => false
  if a % 4 ≠ 0 then refuse badParam s
  else if spotAt a = .reserved then refuse outOfRange s
  else if inStore then refuse refusedState s
  else
    let m := s.coreMaster
    let (_, s) := s.busWrite m a 4 (par c.d 28 4)
    let (v, _, s) := s.busRead m a
    success (toLe 4 a ++ toLe 4 v) s

/-- Consecutive words written by one master. -/
def State.writeWords (s : State) (m a : Nat) : List Nat → State
  | [] => s
  | v :: vs => (s.busWrite m a 4 v).2.writeWords m (a + 4) vs

/-- The words of a byte string. -/
def wordsOf (b : Bytes) : List Nat := (List.range (b.length / 4)).map (fun k => field b (4 * k) 4)

/-- A length that a host-window frame may name (Table 15-6). -/
def windowLen (n : Nat) : Bool := 4 ≤ n && n ≤ 256 && n % 4 == 0

/-- A host-window access that reaches beyond the window (R386). -/
def State.overreach (s : State) (access off : Nat) : State := s.takeFaults [infoMsg 709 0x03 access 0x20 off]

/-! ## Commands -/

/-- REGISTER_WRITE: a write by a master; an effect follows at once, so writes of one master keep their order
(R10, R11, R27, R31). -/
def execRegisterWrite (m : BitVec 8) (addr : BitVec 32) (v : BusData) (s : State) : Host.Outcome State Fault Refusal :=
  let (err, s) := s.busWrite m.toNat addr.toNat v.size.toNat v.value.toNat
  .next { s with bus := ⟨err, []⟩ }

/-- BUS_TIMEOUT: an access that nothing acknowledges (R28); with the clock running it does not happen. -/
def execBusTimeout (m : BitVec 8) (addr : BitVec 32) (write : Bool) (s : State) : Host.Outcome State Fault Refusal :=
  match s.busError m.toNat addr.toNat 4 with
  | some (some (0x01, sev)) =>
    .next { s.busFault 0x01 sev m.toNat addr.toNat write with bus := ⟨true, if write then [] else [0]⟩ }
  | _ => .next s

/-- HW_CMD_DB: R50. -/
def execHwCmdDb (c : Fin 8) (v : BitVec 16) (s : State) : Host.Outcome State Fault Refusal :=
  .next (s.doorbell 0x20 c v.toNat)

/-- HW_RSP_CONS: R50. -/
def execHwRspCons (c : Fin 8) (v : BitVec 16) (s : State) : Host.Outcome State Fault Refusal :=
  .next (s.rspTaken 0x20 c v.toNat)

/-- HW_EVT_CONS: R49, R50. -/
def execHwEvtCons (v : BitVec 16) (s : State) : Host.Outcome State Fault Refusal := .next (s.evtTaken 0x20 v.toNat)

/-- CONTEXT_ENABLE: R42. -/
def execContextEnable (c : Fin 8) (en : Bool) (s : State) : Host.Outcome State Fault Refusal :=
  .next (s.contextEnable c en)

/-- CONTEXT_RESET: a write with RST = 1 and this EN (R41). -/
def execContextReset (c : Fin 8) (en : Bool) (s : State) : Host.Outcome State Fault Refusal :=
  .next ((s.contextEnable c en).contextReset c)

/-- CONTEXT_STOP_TIMEOUT: R42. -/
def execContextStopTimeout (c : Fin 8) (s : State) : Host.Outcome State Fault Refusal :=
  match Tab.find s.mbx.stopAt c with
  | some t =>
    let s := (s.reach t).abortJobs (fun j => j.cmd.d.ctx == c)
    .next { s with mbx := { s.mbx with stopAt := Tab.erase s.mbx.stopAt c } }
  | none => .next s

/-- DESCRIPTOR_CONSUME: the visit of the next context; while no core serves the mailbox every waiting descriptor shows
NOT_READY (R53, R54). -/
def execDescriptorConsume (s : State) : Host.Outcome State Fault Refusal :=
  if ¬ s.on HW_STATUS.MBRDY ∨ s.on HW_STATUS.HANDOVER then
    .next (forAll (List.range 8) (fun c s =>
      if s.rd HW_CMD_CONS.CONS 0 c ≠ s.rd HW_CMD_DB.PROD 0 c ∧ s.on HW_CTX_CTRL.EN 0 c then s.stall c notReady else s) s)
  else
    let c := Fin.ofNat 8 s.mbx.visit
    let s := s.visitContext c
    .next { s with mbx := { s.mbx with visit := (c.val + 1) % 8 } }

/-- JOB_START: R55, R505. -/
def execJobStart (s : State) : Host.Outcome State Fault Refusal := .next s.startOldest

/-- PEEK: R63. -/
def execPeek (d : Desc) (bad : Bool) (s : State) : Host.Outcome State Fault Refusal := .next (s.serve 0x0103 d (peek bad))

/-- POKE: R34. -/
def execPoke (d : Desc) (s : State) : Host.Outcome State Fault Refusal := .next (s.serve 0x0104 d poke)

/-- HWWR: R386. -/
def execHwwr (h : RxHead) (off : BitVec 32) (data : Bytes) (s : State) : Host.Outcome State Fault Refusal :=
  .next (s.receive h 0x01 (toLe 4 off.toNat ++ data) (windowLen data.length) (fun s =>
    if 0x100000 < off.toNat + data.length then s.overreach 2 off.toNat
    else s.writeWords 0x20 off.toNat (wordsOf data)))

/-- HWRD: R386. -/
def execHwrd (h : RxHead) (off len : BitVec 32) (s : State) : Host.Outcome State Fault Refusal :=
  .next (s.receive h 0x02 (toLe 4 off.toNat ++ toLe 4 len.toNat) (windowLen len.toNat) (fun s =>
    if 0x100000 < off.toNat + len.toNat then s.overreach 1 off.toNat
    else
      let (ws, s) := s.readWords 0x20 off.toNat (len.toNat / 4)
      s.send 0x03 h.tag.toNat (ws.flatMap (toLe 4))))

end Sys2Proof.Machine
end

