-- ==== Sys2Proof/Machine/Dispatch.lean ====
section
/-!
DEFINITION. The commands of the block, one arm each.
-/
namespace Sys2Proof.Machine

/-- The effect of a command on everything but the queue. -/
def exec (i : Instr) (s : State) : Host.Outcome State Fault Refusal :=
  match i with
  | .registerWrite m addr v => Sys2Proof.Machine.execRegisterWrite m addr v s
  | .busTimeout m addr write => Sys2Proof.Machine.execBusTimeout m addr write s
  | .hwCmdDb c v => Sys2Proof.Machine.execHwCmdDb c v s
  | .hwRspCons c v => Sys2Proof.Machine.execHwRspCons c v s
  | .hwEvtCons v => Sys2Proof.Machine.execHwEvtCons v s
  | .contextEnable c en => Sys2Proof.Machine.execContextEnable c en s
  | .contextReset c en => Sys2Proof.Machine.execContextReset c en s
  | .contextStopTimeout c => Sys2Proof.Machine.execContextStopTimeout c s
  | .descriptorConsume => Sys2Proof.Machine.execDescriptorConsume s
  | .jobStart => Sys2Proof.Machine.execJobStart s
  | .ident d => Sys2Proof.Machine.execIdent d s
  | .status d => Sys2Proof.Machine.execStatus d s
  | .deviceReset d => Sys2Proof.Machine.execDeviceReset d s
  | .peek d bad => Sys2Proof.Machine.execPeek d bad s
  | .poke d => Sys2Proof.Machine.execPoke d s
  | .attest d => Sys2Proof.Machine.execAttest d s
  | .timeGet d => Sys2Proof.Machine.execTimeGet d s
  | .peSerial d miso => Sys2Proof.Machine.execPeSerial d miso s
  | .siteBind d p => Sys2Proof.Machine.execSiteBind d p s
  | .siteUnbind d => Sys2Proof.Machine.execSiteUnbind d s
  | .patternLoad d p => Sys2Proof.Machine.execPatternLoad d p s
  | .microcodeLoad d p sig => Sys2Proof.Machine.execMicrocodeLoad d p sig s
  | .run d => Sys2Proof.Machine.execRun d s
  | .halt d => Sys2Proof.Machine.execHalt d s
  | .siteStatus d => Sys2Proof.Machine.execSiteStatus d s
  | .streamOpen d => Sys2Proof.Machine.execStreamOpen d s
  | .streamPush d p => Sys2Proof.Machine.execStreamPush d p s
  | .streamClose d => Sys2Proof.Machine.execStreamClose d s
  | .failRead d => Sys2Proof.Machine.execFailRead d s
  | .failFlush d => Sys2Proof.Machine.execFailFlush d s
  | .facetWrite d p => Sys2Proof.Machine.execFacetWrite d p s
  | .facetRead d => Sys2Proof.Machine.execFacetRead d s
  | .wavetableWrite d p => Sys2Proof.Machine.execWavetableWrite d p s
  | .cmsWrite d p => Sys2Proof.Machine.execCmsWrite d p s
  | .tiaArm d => Sys2Proof.Machine.execTiaArm d s
  | .tiaRead d => Sys2Proof.Machine.execTiaRead d s
  | .loupeConfig d p => Sys2Proof.Machine.execLoupeConfig d p s
  | .loupeArm d => Sys2Proof.Machine.execLoupeArm d s
  | .loupeForce d => Sys2Proof.Machine.execLoupeForce d s
  | .loupeStop d => Sys2Proof.Machine.execLoupeStop d s
  | .loupeRead d bad => Sys2Proof.Machine.execLoupeRead d bad s
  | .prismLoad d p => Sys2Proof.Machine.execPrismLoad d p s
  | .calRun d => Sys2Proof.Machine.execCalRun d s
  | .calReadAll d => Sys2Proof.Machine.execCalReadAll d s
  | .calWriteAll d p => Sys2Proof.Machine.execCalWriteAll d p s
  | .calPolicy d => Sys2Proof.Machine.execCalPolicy d s
  | .calSealRead d => Sys2Proof.Machine.execCalSealRead d s
  | .calSealWrite d p sig => Sys2Proof.Machine.execCalSealWrite d p sig s
  | .fixtureOffsets d p => Sys2Proof.Machine.execFixtureOffsets d p s
  | .faultRead d => Sys2Proof.Machine.execFaultRead d s
  | .faultClear d => Sys2Proof.Machine.execFaultClear d s
  | .faultUnfence d => Sys2Proof.Machine.execFaultUnfence d s
  | .faultPolicy d => Sys2Proof.Machine.execFaultPolicy d s
  | .perfConfig d => Sys2Proof.Machine.execPerfConfig d s
  | .tempRead d => Sys2Proof.Machine.execTempRead d s
  | .selftest d => Sys2Proof.Machine.execSelftest d s
  | .updateOpen d p sig => Sys2Proof.Machine.execUpdateOpen d p sig s
  | .updateChunk d p => Sys2Proof.Machine.execUpdateChunk d p s
  | .updateStatus d => Sys2Proof.Machine.execUpdateStatus d s
  | .updateAbandon d => Sys2Proof.Machine.execUpdateAbandon d s
  | .updateActivate d sig => Sys2Proof.Machine.execUpdateActivate d sig s
  | .keyProvision d p sig => Sys2Proof.Machine.execKeyProvision d p sig s
  | .alarmPolicy d p sig => Sys2Proof.Machine.execAlarmPolicy d p sig s
  | .memWrite d p clash => Sys2Proof.Machine.execMemWrite d p clash s
  | .memRead d bad => Sys2Proof.Machine.execMemRead d bad s
  | .memAlloc d => Sys2Proof.Machine.execMemAlloc d s
  | .memFree d => Sys2Proof.Machine.execMemFree d s
  | .ringConfig d => Sys2Proof.Machine.execRingConfig d s
  | .syncArm d => Sys2Proof.Machine.execSyncArm d s
  | .collimate d => Sys2Proof.Machine.execCollimate d s
  | .barrierTest d longest => Sys2Proof.Machine.execBarrierTest d longest s
  | .timedFrame d p => Sys2Proof.Machine.execTimedFrame d p s
  | .snapshot d => Sys2Proof.Machine.execSnapshot d s
  | .linkStatus d => Sys2Proof.Machine.execLinkStatus d s
  | .eyeScan d => Sys2Proof.Machine.execEyeScan d s
  | .linkRate d => Sys2Proof.Machine.execLinkRate d s
  | .haltreq site => Sys2Proof.Machine.execHaltreq site s
  | .failLogEnable site en wrap => Sys2Proof.Machine.execFailLogEnable site en wrap s
  | .failLogReadAdvance site v => Sys2Proof.Machine.execFailLogReadAdvance site v s
  | .drainModeWrite g log => Sys2Proof.Machine.execDrainModeWrite g log s
  | .loupeJump seg go => Sys2Proof.Machine.execLoupeJump seg go s
  | .prismGo => Sys2Proof.Machine.execPrismGo s
  | .prismStop => Sys2Proof.Machine.execPrismStop s
  | .ringFlagsWrite set clr => Sys2Proof.Machine.execRingFlagsWrite set clr s
  | .inboxPop => Sys2Proof.Machine.execInboxPop s
  | .testerTimeLatch => Sys2Proof.Machine.execTesterTimeLatch s
  | .counterLatchRead site k => Sys2Proof.Machine.execCounterLatchRead site k s
  | .dumpReadAdvance site v => Sys2Proof.Machine.execDumpReadAdvance site v s
  | .laneSlip lane => Sys2Proof.Machine.execLaneSlip lane s
  | .laneSymlock lane v => Sys2Proof.Machine.execLaneSymlock lane v s
  | .laneCountClear lane => Sys2Proof.Machine.execLaneCountClear lane s
  | .clockSelect pll => Sys2Proof.Machine.execClockSelect pll s
  | .ctlDividerWrite v => Sys2Proof.Machine.execCtlDividerWrite v s
  | .freqCountStart => Sys2Proof.Machine.execFreqCountStart s
  | .freqCountDone count => Sys2Proof.Machine.execFreqCountDone count s
  | .gateClose mask => Sys2Proof.Machine.execGateClose mask s
  | .gateOpen mask => Sys2Proof.Machine.execGateOpen mask s
  | .gateHandshakeIdle island => Sys2Proof.Machine.execGateHandshakeIdle island s
  | .gateForceTimeout island masters => Sys2Proof.Machine.execGateForceTimeout island masters s
  | .regulatorWrite port v => Sys2Proof.Machine.execRegulatorWrite port v s
  | .faultInject logOnly => Sys2Proof.Machine.execFaultInject logOnly s
  | .powerOnReset straps => Sys2Proof.Machine.execPowerOnReset straps s
  | .powerFail => Sys2Proof.Machine.execPowerFail s
  | .resetPin straps ns => Sys2Proof.Machine.execResetPin straps ns s
  | .oscillatorReady imageOk => Sys2Proof.Machine.execOscillatorReady imageOk s
  | .pllLock pll => Sys2Proof.Machine.execPllLock pll s
  | .mailboxReady => Sys2Proof.Machine.execMailboxReady s
  | .refLoss byDetector edges => Sys2Proof.Machine.execRefLoss byDetector edges s
  | .clockHoldExit => Sys2Proof.Machine.execClockHoldExit s
  | .trimRunEnd count => Sys2Proof.Machine.execTrimRunEnd count s
  | .linkBringupStage pass => Sys2Proof.Machine.execLinkBringupStage pass s
  | .linkStageTimeout => Sys2Proof.Machine.execLinkStageTimeout s
  | .linkRecoveryRestart => Sys2Proof.Machine.execLinkRecoveryRestart s
  | .referenceLaneFail => Sys2Proof.Machine.execReferenceLaneFail s
  | .linkRetrain => Sys2Proof.Machine.execLinkRetrain s
  | .retrainTimeout => Sys2Proof.Machine.execRetrainTimeout s
  | .rateStepTimeout => Sys2Proof.Machine.execRateStepTimeout s
  | .hwwr h off data => Sys2Proof.Machine.execHwwr h off data s
  | .hwrd h off len => Sys2Proof.Machine.execHwrd h off len s
  | .dmacpl h data => Sys2Proof.Machine.execDmacpl h data s
  | .dmaTimeout tag => Sys2Proof.Machine.execDmaTimeout tag s
  | .caps h ver maxrate rate rest => Sys2Proof.Machine.execCaps h ver maxrate rate rest s
  | .rate h p => Sys2Proof.Machine.execRate h p s
  | .ack h fseq rest => Sys2Proof.Machine.execAck h fseq rest s
  | .resendTimeout => Sys2Proof.Machine.execResendTimeout s
  | .frameMark => Sys2Proof.Machine.execFrameMark s
  | .markGap => Sys2Proof.Machine.execMarkGap s
  | .ringLinkTrain port pass => Sys2Proof.Machine.execRingLinkTrain port pass s
  | .discoverSend => Sys2Proof.Machine.execDiscoverSend s
  | .discover h n hops ids lo hi wrapped => Sys2Proof.Machine.execDiscover h n hops ids lo hi wrapped s
  | .ringupTimeout => Sys2Proof.Machine.execRingupTimeout s
  | .ringFrameResend idx => Sys2Proof.Machine.execRingFrameResend idx s
  | .gather h bar => Sys2Proof.Machine.execGather h bar s
  | .release h bar time => Sys2Proof.Machine.execRelease h bar time s
  | .ringBarrierRelease bar => Sys2Proof.Machine.execRingBarrierRelease bar s
  | .flags h set clr time => Sys2Proof.Machine.execFlags h set clr time s
  | .ringFlagsApply => Sys2Proof.Machine.execRingFlagsApply s
  | .trigger h t frac => Sys2Proof.Machine.execTrigger h t frac s
  | .snapshotFrame h time => Sys2Proof.Machine.execSnapshotFrame h time s
  | .snapshotLatch => Sys2Proof.Machine.execSnapshotLatch s
  | .reset h time => Sys2Proof.Machine.execReset h time s
  | .ringResetRelease => Sys2Proof.Machine.execRingResetRelease s
  | .leave h site => Sys2Proof.Machine.execLeave h site s
  | .timecheck h reply coll ticks frac stamp => Sys2Proof.Machine.execTimecheck h reply coll ticks frac stamp s
  | .timeCheckPeriodic => Sys2Proof.Machine.execTimeCheckPeriodic s
  | .collect h c => Sys2Proof.Machine.execCollect h c s
  | .timed h first rest => Sys2Proof.Machine.execTimed h first rest s
  | .timedFrameLaunch => Sys2Proof.Machine.execTimedFrameLaunch s
  | .syncPulse e => Sys2Proof.Machine.execSyncPulse s e
  | .voteWord site v vote east bad => Sys2Proof.Machine.execVoteWord site v vote east bad s
  | .runStart site => Sys2Proof.Machine.execRunStart site s
  | .microword site ext uaddr flip => Sys2Proof.Machine.execMicroword site ext uaddr flip s
  | .waitBoundExpiry site ext => Sys2Proof.Machine.execWaitBoundExpiry site ext s
  | .issueStallEnd site => Sys2Proof.Machine.execIssueStallEnd site s
  | .csScrub site kind addr slices => Sys2Proof.Machine.execCsScrub site kind addr slices s
  | .vec site pi => Sys2Proof.Machine.execVec site pi s
  | .vecA site pi => Sys2Proof.Machine.execVecA site pi s
  | .rpt site pi => Sys2Proof.Machine.execRpt site pi s
  | .loop site pi => Sys2Proof.Machine.execLoop site pi s
  | .endl site pi => Sys2Proof.Machine.execEndl site pi s
  | .jmp site pi => Sys2Proof.Machine.execJmp site pi s
  | .call site pi => Sys2Proof.Machine.execCall site pi s
  | .ret site pi => Sys2Proof.Machine.execRet site pi s
  | .brc site pi => Sys2Proof.Machine.execBrc site pi s
  | .matchPi site pi => Sys2Proof.Machine.execMatch site pi s
  | .waitx site pi => Sys2Proof.Machine.execWaitx site pi s
  | .sync site pi => Sys2Proof.Machine.execSync site pi s
  | .tsw site pi => Sys2Proof.Machine.execTsw site pi s
  | .cap site pi => Sys2Proof.Machine.execCap site pi s
  | .flag site pi => Sys2Proof.Machine.execFlag site pi s
  | .strm site pi => Sys2Proof.Machine.execStrm site pi s
  | .haltPi site pi => Sys2Proof.Machine.execHaltPi site pi s
  | .xop site op pi => Sys2Proof.Machine.execXop site op pi s
  | .barrierRelease bar => Sys2Proof.Machine.execBarrierRelease bar s
  | .syncTimeout site => Sys2Proof.Machine.execSyncTimeout site s
  | .bundleDelivery site => Sys2Proof.Machine.execBundleDelivery site s
  | .granuleArrival unit uncorr => Sys2Proof.Machine.execGranuleArrival unit uncorr s
  | .streamSegmentRead unit => Sys2Proof.Machine.execStreamSegmentRead unit s
  | .vectorCycle site ext moves => Sys2Proof.Machine.execVectorCycle site ext moves s
  | .haltCause site cause => Sys2Proof.Machine.execHaltCause site cause s
  | .siteHalted site => Sys2Proof.Machine.execSiteHalted site s
  | .recordTake g => Sys2Proof.Machine.execRecordTake g s
  | .queuePointer queue => Sys2Proof.Machine.execQueuePointer queue s
  | .failLogDrain g => Sys2Proof.Machine.execFailLogDrain g s
  | .supmonRecord site line level time => Sys2Proof.Machine.execSupmonRecord site line level time s
  | .tiaEdge unit low rising ip t2 raw => Sys2Proof.Machine.execTiaEdge unit low rising ip t2 raw s
  | .tiaTimeStart unit => Sys2Proof.Machine.execTiaTimeStart unit s
  | .tiaTimeout unit => Sys2Proof.Machine.execTiaTimeout unit s
  | .tiaGateEnd unit => Sys2Proof.Machine.execTiaGateEnd unit s
  | .tiaRearm unit => Sys2Proof.Machine.execTiaRearm unit s
  | .tiaPreemptTimeout unit => Sys2Proof.Machine.execTiaPreemptTimeout unit s
  | .loupeUnit t frac ext high low => Sys2Proof.Machine.execLoupeUnit t frac ext high low s
  | .loupeTransitionEdge chan low rising ip t2 raw => Sys2Proof.Machine.execLoupeTransitionEdge chan low rising ip t2 raw s
  | .loupeTrigger => Sys2Proof.Machine.execLoupeTrigger s
  | .rearmWindowEnd => Sys2Proof.Machine.execRearmWindowEnd s
  | .spillDrain => Sys2Proof.Machine.execSpillDrain s
  | .prismTick ext high low => Sys2Proof.Machine.execPrismTick ext high low s
  | .edgeComparatorCrossing e low rising t frac => Sys2Proof.Machine.execEdgeComparatorCrossing e low rising t frac s
  | .outputPulseEnd out => Sys2Proof.Machine.execOutputPulseEnd out s
  | .autoTrigger => Sys2Proof.Machine.execAutoTrigger s
  | .tempReading sensor temp => Sys2Proof.Machine.execTempReading sensor temp s
  | .calibrationStart g => Sys2Proof.Machine.execCalibrationStart g s
  | .measurementEnd g errors gain => Sys2Proof.Machine.execMeasurementEnd g errors gain s
  | .shadowCopyDone g => Sys2Proof.Machine.execShadowCopyDone g s
  | .shadowStart g => Sys2Proof.Machine.execShadowStart g s
  | .matchDone g pairs offsets => Sys2Proof.Machine.execMatchDone g pairs offsets s
  | .takeOver g => Sys2Proof.Machine.execTakeOver g s
  | .takeOverAbandon g => Sys2Proof.Machine.execTakeOverAbandon g s
  | .handBack g => Sys2Proof.Machine.execHandBack g s
  | .slewInterval => Sys2Proof.Machine.execSlewInterval s
  | .tableStep => Sys2Proof.Machine.execTableStep s
  | .perfDump site finish => Sys2Proof.Machine.execPerfDump site finish s
  | .refresh pc => Sys2Proof.Machine.execRefresh pc s
  | .memScrub addr err => Sys2Proof.Machine.execMemScrub addr err s
  | .delaySweep pc works => Sys2Proof.Machine.execDelaySweep pc works s
  | .pcRejoin pc => Sys2Proof.Machine.execPcRejoin pc s
  | .faultMessage ms => Sys2Proof.Machine.execFaultMessage ms s
  | .quietExpiry unit => Sys2Proof.Machine.execQuietExpiry unit s
  | .selfcheckDone unit pass => Sys2Proof.Machine.execSelfcheckDone unit pass s
  | .coreFail core => Sys2Proof.Machine.execCoreFail core s
  | .alarmTrip cls again => Sys2Proof.Machine.execAlarmTrip cls again s
  | .poweredTimeStore => Sys2Proof.Machine.execPoweredTimeStore s
  | .sessionExpiry => Sys2Proof.Machine.execSessionExpiry s
  | .activateStandbyReady => Sys2Proof.Machine.execActivateStandbyReady s
  | .activateCommit => Sys2Proof.Machine.execActivateCommit s
  | .activateFailed => Sys2Proof.Machine.execActivateFailed s
  | .piFetchArrival site uncorr => Sys2Proof.Machine.execPiFetchArrival site uncorr s
  | .startBarrierArrival site => Sys2Proof.Machine.execStartBarrierArrival site s
  | .vpeEntersRange => Sys2Proof.Machine.execVpeEntersRange s
  | .vpeBelowRange => Sys2Proof.Machine.execVpeBelowRange s
  | .recoveryCountAgeOut unit => Sys2Proof.Machine.execRecoveryCountAgeOut unit s
  | .standbyRestartDone => Sys2Proof.Machine.execStandbyRestartDone s

end Sys2Proof.Machine
end

