-- ==== Sys2Proof/Safety.lean ====
section
/-!
DEFINITION. The terms that claims use: the invariant of every state a step can reach from one that has it, when a step
carries out the mailbox command that it names, what its response says, and what a step leaves alone.
-/
namespace Sys2Proof.Machine

/-! ## The invariant -/

/-- Every memory is in canonical form. -/
abbrev State.memoriesWf (s : State) : Prop :=
  s.win.Wf ∧ s.vmem.Wf ∧ s.pad.Wf ∧ s.cap.Wf ∧ s.sec.slot.Wf ∧ s.sec.staging.Wf

/-- No two jobs hold one JOBID (R46). -/
abbrev State.jobIdsDistinct (s : State) : Prop := (s.mbx.jobs.map Job.id).Nodup

/-- Memories and the register file are in canonical form, and no two jobs hold one JOBID. -/
def State.Inv (s : State) : Prop := s.memoriesWf ∧ Tab.Sorted s.regs ∧ s.jobIdsDistinct

/-! ## Commands of the mailbox -/

/-- The step that names an immediate command carries it out, as `c`, from the state `u`: either it was in flight and its turn
has come, or this step consumes its descriptor, which passes checks 1–4 (R47, R53–R56, R505). -/
abbrev State.serves (s : State) (op : Nat) (d : Desc) (c : Consumed) (u : State) : Prop := s.due op d = .go c [] u

/-- The step that names a job carries it out, as `j` with the payload `q`, from the state `u`, and no HALT has ended it:
either it has started and has its payload, or this step consumes, accepts and starts it (R47, R53–R56, R59, R505). -/
abbrev State.carriesOut (s : State) (op : Nat) (d : Desc) (p : Bytes) (j : Job) (q : Bytes) (u : State) : Prop :=
  s.dueJob op d p = .go j q u ∧ j.abort = false

/-- The 32 bytes last written into a context's response ring (R39, R46). -/
def State.lastResponse (s : State) (c : Nat) : Bytes :=
  s.win.readN (0x18000 + c * 0x800 + 32 * ((s.rd HW_RSP_PROD.PROD 0 c + 65535) % 65536 % 64)) 32

/-- A response (R46, R47). -/
def response (op : Nat) (d : Desc) (status rflags id : Nat) (result : Bytes) : Bytes :=
  toLe 2 op ++ toLe 2 status ++ toLe 4 d.seq.toNat ++ toLe 2 rflags ++ toLe 2 id ++ fit 20 result

/-- The last response of the command's context is its single response, with this status and result; REPLAY where it was
served again after a failover (R46, R47, R61). -/
def State.answered (t s : State) (c : Consumed) (status : Nat) (result : Bytes) : Prop :=
  t.lastResponse c.d.ctx = response c.op c.d status (1 + 4 * b2n (s.mbx.replay.contains c.seqNo)) 0 result

/-- The last response of the job's context is its final response, with this status and result (R46, R47). -/
def State.concluded (t : State) (j : Job) (status : Nat) (result : Bytes) : Prop :=
  t.lastResponse j.cmd.d.ctx = response j.cmd.op j.cmd.d status 3 j.id result

/-- The job has its final response OK with this result, and the job queue holds every other job as before. -/
def State.completed (t s : State) (j : Job) (result : Bytes) : Prop :=
  t.concluded j ok result ∧ t.mbx.jobs = s.mbx.jobs.filter (fun x => x.id != j.id)

/-- TYPE and payload of the sequenced frames that wait for an acknowledgement or to leave, oldest first (R390). -/
def State.frames (s : State) : List (Nat × Bytes) := (s.link.unacked ++ s.link.waiting).map (fun f => (f.type, f.payload))

/-- The DMAWR frames that carry data to host memory from HADDR upward: 4,096 bytes each but the last (Table 15-6). -/
def dmaFrames (haddr : Nat) (data : Bytes) : List (Nat × Bytes) :=
  (List.range (ceilDiv data.length 4096)).map (fun k => (0x10, toLe 8 (haddr + 4096 * k) ++ (data.drop (4096 * k)).take 4096))

/-- The job's data leave for host memory, then its final response OK with this result is written and announced; nothing else
is sent, and the job queue holds every other job as before (R47, R48, R387). -/
def State.delivered (t u : State) (j : Job) (data result : Bytes) : Prop :=
  t.completed u j result ∧ t.frames = u.frames ++ dmaFrames j.cmd.d.haddr.toNat data
    ++ [(0x20, toLe 1 0 ++ toLe 1 j.cmd.d.ctx ++ toLe 2 (t.rd HW_RSP_PROD.PROD 0 j.cmd.d.ctx) ++ zeros 4)]

/-! ## What a step leaves alone -/

/-- The memories that MEM_WRITE and MEM_READ number: 0 vector memory, 1 scratchpad, 2 capture SRAM (R70). -/
def State.space (s : State) (k : Nat) : Mem := if k = 0 then s.vmem else if k = 1 then s.pad else s.cap

/-- Every byte of vector memory, scratchpad and capture SRAM reads as before. -/
def State.sameMemory (t s : State) : Prop :=
  (∀ a, t.vmem.read a = s.vmem.read a) ∧ (∀ a, t.pad.read a = s.pad.read a) ∧ (∀ a, t.cap.read a = s.cap.read a)

/-- Every register reads as before but those whose keys (Field.key) are listed. -/
def State.sameRegs (t s : State) (changed : List Nat) : Prop :=
  ∀ key, key ∉ changed → Tab.find t.regs key = Tab.find s.regs key

/-- The units' inner state is as before: channel engines, groups, measurement units, Loupe and Prism. -/
def State.sameUnits (t s : State) : Prop :=
  t.chans = s.chans ∧ t.groups = s.groups ∧ t.tias = s.tias ∧ t.loupe = s.loupe ∧ t.prism = s.prism

/-- A command that only reports: nothing but its response, the frames that carry it and the mailbox's own bookkeeping has
changed. -/
def State.onlyAnswered (t s : State) (d : Desc) : Prop :=
  t.sameMemory s ∧ t.sameUnits s ∧ t.seqs = s.seqs ∧ t.sameRegs s [HW_RSP_PROD.PROD.key 0 d.ctx] ∧ t.tt = s.tt

/-! ## Dispatch -/

/-- The next PI of the site is dispatched and passes the dispatch checks: the site is RUNNING and has not ended, is in no
customer routine and not stalled, the IA is below the PI count, the opcode may stand there, and no Reserved or
required-zero field is set. -/
abbrev State.canDispatch (s : State) (site w : Nat) : Prop :=
  s.site site = stRunning ∧ (s.seq site).ended = false ∧ (s.seq site).inRoutine = false ∧ (s.seq site).stall = none
    ∧ (s.seq site).ureg 13 < (s.seq site).pat.npi ∧ s.gateOf site w = .go ∧ piReservedOk w = true

/-- Keys of the registers that a dispatch may write whatever the PI is: the IA, the nesting register, and the counters that
select a dispatch event. -/
def dispatchKeys (site : Nat) : List Nat :=
  [SQ_IA.IA.key site 0, SQ_NEST.LDEPTH.key site 0, SQ_NEST.SDEPTH.key site 0, SQ_NEST.STRM.key site 0, PM_SAT.CNT.key site 0]
    ++ (List.range 8).map (PM_CNT.COUNT.key site)

/-- What every dispatched PI does and leaves alone: U12 is its operand and U15 its other fields; outside a head that may yet
be discarded, SQ_IA is the next PI's IA, or still this PI's where it ended the site, stalls or runs a customer routine;
memory, the units, every other site, every register but those of a dispatch and the ones listed, the mailbox and tester
time stay. -/
def State.dispatched (t s : State) (site w : Nat) (extra : List Nat) : Prop :=
  (s.speculative site = false → t.rd SQ_IA.IA site =
      (if (t.seq site).ended ∨ (t.seq site).stall.isSome ∨ (t.seq site).inRoutine then (s.seq site).ureg 13
       else (t.seq site).ureg 13) % 2 ^ 32)
    ∧ (t.seq site).ureg 12 = piOpd w ∧ (t.seq site).ureg 15 = bits w 40 24
    ∧ t.sameMemory s ∧ t.sameUnits s ∧ (∀ j, j ≠ site → t.seq j = s.seq j)
    ∧ t.sameRegs s (dispatchKeys site ++ extra) ∧ t.mbx = s.mbx ∧ t.tt = s.tt

/-- The command ran on: its outcome is a next state. -/
def Goes (o : Host.Outcome State Fault Refusal) : Prop := ∃ t, o = .next t

end Sys2Proof.Machine
end

