-- ==== Sys2Proof/Certificates/Slice0/Obligations.lean ====
section
/-!
DEFINITION. The statements about the model, for the provers.
-/

open Sys2Proof Sys2Proof.Machine

/-! ## The step -/

/-- A step takes the command at the front of the queue and is that command's effect on the state with the queue's rest. -/
def Obligations.StepRunsFrontCommand : Prop :=
  ∀ (c : Instr) (rest : List Instr) (s : State), step { s with pending := c :: rest } = exec c { s with pending := rest }

/-- On an empty queue the step is one tick of CK_TIM (the model's choice, log entry 1): nothing is queued and no byte of memory
changes; tester time counts the tick if it runs, unless the instant has come at which a sync pulse makes it 0 (R25, R347);
and while no COLLIMATE is busy, neither a site's state nor a unit changes. -/
def Obligations.IdleStepIsOneTick : Prop :=
  ∀ s : State, s.pending = [] →
    let now := if s.ttRuns then s.tt + 1 else s.tt
    ∃ t, step s = .next t ∧ t.pending = [] ∧ t.sameMemory s
      ∧ ((∀ z, s.ring.zeroAt = some z → now < z) → t.tt = now)
      ∧ (∀ z, s.ring.zeroAt = some z → z ≤ now → t.tt = 0)
      ∧ (s.on SY_STAT.COLLBUSY = false → (∀ i, t.site i = s.site i)
        ∧ t.chans = s.chans ∧ t.groups = s.groups ∧ t.tias = s.tias ∧ t.loupe = s.loupe
        ∧ ((∀ z, s.ring.zeroAt = some z → now < z) → t.prism = s.prism))

/-- Power-on reset leaves the values the register tables give: the window's identity, no mailbox service, every context
enabled, every site UNBOUND, no fault recorded, the fault policy, no lane fenced, all islands open, burst positions and
record limits of every channel, the swing of every group, tester time 0; and no command waits. -/
def Obligations.ResetLeavesTableValues : Prop :=
  State.reset.pending = [] ∧ State.reset.rd HW_ID.IFVER = 3 ∧ State.reset.rd HW_ID.LAYOUT = 1
    ∧ State.reset.rd HW_STATUS.MBRDY = 0 ∧ (∀ c < 8, State.reset.rd HW_CTX_CTRL.EN 0 c = 1)
    ∧ (∀ i < 64, State.reset.site i = stUnbound) ∧ State.reset.rd FC_STAT.FEVALID = 0
    ∧ State.reset.rd FC_POLICY.QUIET = 5000 ∧ State.reset.rd FC_LIMIT.LIMIT = 8
    ∧ State.reset.rd HL_FENCE.FENCED = 0 ∧ State.reset.rd CK_GATE.CLOSE = 0 ∧ State.reset.rd CK_GATESTAT.OPEN = 0x7FFFF
    ∧ (∀ n < 512, State.reset.rd CH_BURSTCFG.BSTRB n = 156 ∧ State.reset.rd CH_FRCFG.LIMIT n = 0xFFFF)
    ∧ (∀ g < 16, State.reset.rd GR_PECFG.SWING g = 8) ∧ State.reset.tt = 0

/-- The invariant holds after reset: memories and registers in canonical form, no two jobs with one JOBID. -/
def Obligations.InvariantHoldsAtReset : Prop := State.reset.Inv

/-- Every step keeps the invariant: from a state whose memories and register file are in canonical form and in which no two
jobs hold one JOBID (R46), every next state is such a state, whatever command ran. -/
def Obligations.InvariantKeptByEveryStep : Prop :=
  ∀ s t : State, s.Inv → step s = .next t → t.Inv

/-- No command adds to the queue or takes from it: after exec the queue is what it was. -/
def Obligations.CommandsLeaveTheQueue : Prop :=
  ∀ (c : Instr) (s t : State), exec c s = .next t → t.pending = s.pending

/-- No command is refused, and the only commands that can stop are the three that execute microwords: on a function that the
specification reserves to the vendor, or at a micro-address that does not exist. -/
def Obligations.OnlyMicrowordsStop : Prop :=
  ∀ (c : Instr) (s : State), Goes (exec c s) ∨
    ((exec c s = .fault .vendorFunction ∨ exec c s = .fault .noMicroword) ∧
      ((∃ i e u f, c = .microword i e u f) ∨ (∃ i e, c = .waitBoundExpiry i e) ∨ (∃ i, c = .issueStallEnd i)))

/-! ## The mailbox: indices, contexts, consumption (02) -/

/-- R50. An index write of the host takes effect exactly if the new index lies where the rule says; any other is ignored,
sets the context's DBERR (none for the event ring) and logs an INFO fault of kind INDEX_IGNORED. (A write of HW_EVT_CONS that
takes effect after overwrites but leaves the ring full moves on once more, for the QUEUE_LOST record it brings.) -/
def Obligations.IndexWritesFollowR50 : Prop :=
  ∀ (c : Fin 8) (v : BitVec 16) (s : State),
    (let cons := s.rd HW_CMD_CONS.CONS 0 c
     if ahead v.toNat cons ≤ 64 ∧ ahead (s.rd HW_CMD_DB.PROD 0 c) cons ≤ ahead v.toNat cons then
       ∃ t, exec (.hwCmdDb c v) s = .next t ∧ t.rd HW_CMD_DB.PROD 0 c = v.toNat ∧ t.sameRegs s [HW_CMD_DB.PROD.key 0 c]
         ∧ t.mbx.doorbells = s.mbx.doorbells ++ [(c.val, v.toNat, s.tt)] ∧ t.sameMemory s ∧ t.sameUnits s
     else exec (.hwCmdDb c v) s
       = .next ((s.wr HW_CTX_STAT.DBERR 1 0 c).takeFaults [infoMsg 709 0x04 2 0x20 (0x100 + 0x20 * c)]))
    ∧ (let cons := s.rd HW_RSP_CONS.CONS 0 c
       if ahead v.toNat cons ≤ ahead (s.rd HW_RSP_PROD.PROD 0 c) cons then
         ∃ t, exec (.hwRspCons c v) s = .next t ∧ t.rd HW_RSP_CONS.CONS 0 c = v.toNat
           ∧ t.sameRegs s [HW_RSP_CONS.CONS.key 0 c] ∧ t.sameMemory s ∧ t.sameUnits s
       else exec (.hwRspCons c v) s
         = .next ((s.wr HW_CTX_STAT.DBERR 1 0 c).takeFaults [infoMsg 709 0x04 2 0x20 (0x10C + 0x20 * c)]))
    ∧ (let cons := s.rd HW_EVT_CONS.CONS
       if ahead v.toNat cons ≤ ahead (s.rd HW_EVT_PROD.PROD) cons then
         ∃ t, exec (.hwEvtCons v) s = .next t ∧ t.sameMemory s ∧ t.sameUnits s
           ∧ (s.mbx.evtOver = false ∨ ahead (s.rd HW_EVT_PROD.PROD) v.toNat < 1024 → t.rd HW_EVT_CONS.CONS = v.toNat)
       else exec (.hwEvtCons v) s = .next (s.takeFaults [infoMsg 709 0x04 2 0x20 0x14]))

/-- R49. A write of HW_EVT_CONS that takes effect after overwrites writes one QUEUE_LOST record that carries HW_EVT_LOST;
without an overwrite since the last one it writes none. -/
def Obligations.EventPopsReportLosses : Prop :=
  ∀ (v : BitVec 16) (s : State), ahead v.toNat (s.rd HW_EVT_CONS.CONS) ≤ ahead (s.rd HW_EVT_PROD.PROD) (s.rd HW_EVT_CONS.CONS) →
    ∃ t, exec (.hwEvtCons v) s = .next t
      ∧ (s.mbx.evtOver = false → t.mbx.evtOver = false ∧ t.rd HW_EVT_PROD.PROD = s.rd HW_EVT_PROD.PROD ∧ t.win = s.win)
      ∧ (s.mbx.evtOver = true → ahead (s.rd HW_EVT_PROD.PROD) v.toNat < 1024 →
          t.mbx.evtOver = false ∧ t.rd HW_EVT_LOST.LOST = s.rd HW_EVT_LOST.LOST
          ∧ t.rd HW_EVT_PROD.PROD = (s.rd HW_EVT_PROD.PROD + 1) % 65536
          ∧ t.win.readN (0x20000 + 32 * (s.rd HW_EVT_PROD.PROD % 1024)) 20
            = toLe 1 13 ++ zeros 1 ++ toLe 2 0xFFFF ++ toLe 4 s.mbx.evtSeq ++ toLe 8 s.tt ++ toLe 4 (s.rd HW_EVT_LOST.LOST))

/-- R41. A write of HW_CTX_CTRL with RST = 1: EN takes the written value; the four indices are zeroed exactly if EN is then
0, no job of the context is outstanding and no immediate command of it awaits its response, and otherwise DBERR is set. -/
def Obligations.ContextResetFollowsR41 : Prop :=
  ∀ (c : Fin 8) (en : Bool) (s : State),
    ∃ t, exec (.contextReset c en) s = .next t ∧ t.rd HW_CTX_CTRL.EN 0 c = b2n en ∧
      (if en = false ∧ s.ctxJobs c = 0 ∧ s.mbx.imm.all (fun i => i.d.ctx != c) = true then
        t.rd HW_CMD_DB.PROD 0 c = 0 ∧ t.rd HW_CMD_CONS.CONS 0 c = 0 ∧ t.rd HW_RSP_PROD.PROD 0 c = 0
          ∧ t.rd HW_RSP_CONS.CONS 0 c = 0 ∧ t.rd HW_CTX_STAT.DBERR 0 c = s.rd HW_CTX_STAT.DBERR 0 c
       else
        t.rd HW_CMD_DB.PROD 0 c = s.rd HW_CMD_DB.PROD 0 c ∧ t.rd HW_CMD_CONS.CONS 0 c = s.rd HW_CMD_CONS.CONS 0 c
          ∧ t.rd HW_RSP_PROD.PROD 0 c = s.rd HW_RSP_PROD.PROD 0 c ∧ t.rd HW_RSP_CONS.CONS 0 c = s.rd HW_RSP_CONS.CONS 0 c
          ∧ t.rd HW_CTX_STAT.DBERR 0 c = 1)

/-- R42. EN = 0 with jobs of the context in flight sets their stop one second later, unless one is set already; without jobs
it sets none; EN = 1 cancels it. At the stop every job of the context has ended, the only one with the final response ABORTED,
and every other job is as before; a stop that is not set does nothing. -/
def Obligations.DisabledContextStopsItsJobs : Prop :=
  ∀ (c : Fin 8) (s : State),
    (∃ t, exec (.contextEnable c false) s = .next t ∧ t.rd HW_CTX_CTRL.EN 0 c = 0 ∧ t.mbx.jobs = s.mbx.jobs
      ∧ Tab.find t.mbx.stopAt c
        = (if 0 < s.ctxJobs c ∧ Tab.find s.mbx.stopAt c = none then some (s.tt + 3200000000) else Tab.find s.mbx.stopAt c)
      ∧ t.sameRegs s [HW_CTX_CTRL.EN.key 0 c] ∧ t.sameMemory s ∧ t.sameUnits s)
    ∧ (∃ t, exec (.contextEnable c true) s = .next t ∧ t.rd HW_CTX_CTRL.EN 0 c = 1 ∧ Tab.find t.mbx.stopAt c = none
        ∧ t.mbx.jobs = s.mbx.jobs ∧ t.sameRegs s [HW_CTX_CTRL.EN.key 0 c] ∧ t.sameMemory s ∧ t.sameUnits s)
    ∧ (∀ T, Tab.find s.mbx.stopAt c = some T → s.jobIdsDistinct →
      ∃ t, exec (.contextStopTimeout c) s = .next t ∧ t.mbx.jobs = s.mbx.jobs.filter (fun j => j.cmd.d.ctx != c)
        ∧ (∀ j, s.mbx.jobs.filter (fun j => j.cmd.d.ctx == c) = [j] → t.concluded j aborted [])
        ∧ t.tt = max s.tt T ∧ Tab.find t.mbx.stopAt c = none ∧ t.sameMemory s ∧ t.sameUnits s)
    ∧ (Tab.find s.mbx.stopAt c = none → exec (.contextStopTimeout c) s = .next s)

/-- R53, R47, R505. DESCRIPTOR_CONSUME visits the next context. While no core serves the mailbox, STALL of every enabled
context with a waiting descriptor reads NOT_READY. On a visit STALL names the first unmet condition: BUSY for response room,
QUEUE_FULL for a job; 0 where nothing waits or an ORDER command waits for earlier ones. A descriptor whose conditions hold is
consumed: one that fails checks 1–4 is answered with that status, an immediate command is taken into service, and a job enters
the job queue under the lowest free JOBID, with its ACCEPTED response unless NOACK. -/
def Obligations.VisitsConsumeOrShowStall : Prop :=
  ∀ (s : State) (c : Fin 8) (op : Nat) (d : Desc),
    let cons := s.rd HW_CMD_CONS.CONS 0 c
    let cmd : Consumed := ⟨op, d, 0, s.mbx.flowSeq⟩
    let job := (cmdRow op).any CmdRow.job
    let waits (t : State) (why : Nat) : Prop := exec .descriptorConsume s = .next t ∧ t.rd HW_CTX_STAT.STALL 0 c = why
      ∧ t.rd HW_CMD_CONS.CONS 0 c = cons ∧ t.mbx.jobs = s.mbx.jobs ∧ t.mbx.imm = s.mbx.imm ∧ t.sameMemory s ∧ t.sameUnits s
    let takes (t : State) : Prop := exec .descriptorConsume s = .next t ∧ t.rd HW_CMD_CONS.CONS 0 c = (cons + 1) % 65536
      ∧ t.rd HW_CTX_STAT.STALL 0 c = 0 ∧ t.mbx.visit = (c.val + 1) % 8 ∧ t.sameMemory s ∧ t.sameUnits s
    ((s.on HW_STATUS.MBRDY = false ∨ s.on HW_STATUS.HANDOVER = true) → cons ≠ s.rd HW_CMD_DB.PROD 0 c →
      s.on HW_CTX_CTRL.EN 0 c = true → ∃ t, waits t notReady ∧ t.mbx.visit = s.mbx.visit)
    ∧ (s.on HW_STATUS.MBRDY = true → s.on HW_STATUS.HANDOVER = false → s.mbx.visit = c.val →
      ((cons = s.rd HW_CMD_DB.PROD 0 c ∨ s.on HW_CTX_CTRL.EN 0 c = false) → ∃ t, waits t 0 ∧ t.mbx.visit = (c.val + 1) % 8)
      ∧ (cons ≠ s.rd HW_CMD_DB.PROD 0 c → s.on HW_CTX_CTRL.EN 0 c = true →
        (s.rspFree c < s.ctxJobs c + 2 → ∃ t, waits t busy ∧ t.mbx.visit = (c.val + 1) % 8)
        ∧ (s.ctxJobs c + 2 ≤ s.rspFree c →
          descOf c (s.win.readN (0x10000 + c * 0x1000 + 64 * (cons % 64)) 64) = (op, d) →
          (job = true → s.checkConsumed op d = none → 256 ≤ s.mbx.jobs.length →
            ∃ t, waits t queueFull ∧ t.mbx.visit = (c.val + 1) % 8)
          ∧ ((cmdRow op).isSome = true → job = false → ordered d = true → s.earlier cmd = true →
            ∃ t, waits t 0 ∧ t.mbx.visit = (c.val + 1) % 8)
          ∧ (∀ e, s.checkConsumed op d = some e →
            ((cmdRow op).isSome = false ∨ job = true ∨ ordered d = false ∨ s.earlier cmd = false) →
            ∃ t, takes t ∧ t.answered s cmd e [] ∧ t.mbx.jobs = s.mbx.jobs ∧ t.mbx.imm = s.mbx.imm)
          ∧ (s.checkConsumed op d = none → (cmdRow op).isSome = true → job = false →
            (ordered d = false ∨ s.earlier cmd = false) →
            ∃ t x, takes t ∧ t.mbx.imm = s.mbx.imm ++ [x] ∧ x.op = op ∧ x.d = d ∧ x.seqNo = s.mbx.flowSeq
              ∧ t.mbx.jobs = s.mbx.jobs ∧ t.win = s.win)
          ∧ (s.checkConsumed op d = none → job = true → s.mbx.jobs.length < 256 →
            ∃ t j, takes t ∧ t.mbx.jobs = s.mbx.jobs ++ [j] ∧ j.cmd.op = op ∧ j.cmd.d = d ∧ j.id = s.freeJobId
              ∧ j.started = false ∧ t.mbx.imm = s.mbx.imm
              ∧ (noack d = false → t.lastResponse c = response op d accepted 2 s.freeJobId [])
              ∧ (noack d = true → t.win = s.win)))))

/-- R55, R59, R387, R505. JOB_START takes the startable job that was consumed first: one that a HALT or a stop has
ended is answered ABORTED, one that its site's state refuses REFUSED_STATE, and any other starts on the lowest free
worker and, where its payload comes from the host, asks for the first part of it. With no startable job nothing
happens. R13, R44, R45, R412, R505. Checks 1–4 of a descriptor report the first that fails: an unknown opcode
BAD_OPCODE; a Reserved byte, bit or unused parameter byte BAD_PARAM; HADDR and LENGTH without a payload, or an
unaligned HADDR or a LENGTH outside 1 to 16,777,216 with one, OUT_OF_RANGE; the SITE byte BAD_PARAM. In recovery boot
a command outside the recovery set is NOT_READY instead. -/
def Obligations.DescriptorChecksAndJobStart : Prop :=
  (∀ s : State,
      (s.oldestJob = none → exec .jobStart s = .next s)
      ∧ (∀ j, s.oldestJob = some j →
        (j ∈ s.mbx.jobs ∧ s.startable j = true ∧ ∀ x ∈ s.mbx.jobs, s.startable x = true → j.cmd.seqNo ≤ x.cmd.seqNo)
        ∧ (j.abort = true → ∃ t, exec .jobStart s = .next t ∧ t.concluded j aborted []
            ∧ t.mbx.jobs = s.mbx.jobs.filter (fun x => x.id != j.id) ∧ t.sameMemory s ∧ t.sameUnits s)
        ∧ (j.abort = false → s.stateRule j.cmd.op j.cmd.d = false → ∃ t, exec .jobStart s = .next t
            ∧ t.concluded j refusedState [] ∧ t.mbx.jobs = s.mbx.jobs.filter (fun x => x.id != j.id) ∧ t.sameMemory s
            ∧ t.sameUnits s)
        ∧ (j.abort = false → s.stateRule j.cmd.op j.cmd.d = true →
            ∃ t k, exec .jobStart s = .next t ∧ t.mbx.jobs.map Job.id = s.mbx.jobs.map Job.id ∧ k ∈ t.mbx.jobs ∧ k.id = j.id
              ∧ k.started = true ∧ k.worker = s.freeWorkers.head? ∧ t.sameMemory s ∧ t.sameUnits s ∧ t.sameRegs s []
              ∧ ((cmdRow j.cmd.op).any (fun r => r.payload == .toDevice) = false → t.mbx.reqs = s.mbx.reqs ∧ t.link = s.link)
              ∧ ((cmdRow j.cmd.op).any (fun r => r.payload == .toDevice) = true → s.mbx.reqs = [] → s.jobIdsDistinct → j.want = 0 →
                  0 < j.cmd.d.length.toNat →
                  t.mbx.reqs.head? = some ⟨0, j.id, 0, min 4096 j.cmd.d.length.toNat⟩))))
  ∧ (∀ (op : Nat) (d : Desc) (s : State),
      (cmdRow op = none → checkDesc op d = some badOpcode)
      ∧ (∀ r, cmdRow op = some r →
        let unused := d.rsv ≠ 0 ∨ 4 ≤ d.flags.toNat
          ∨ ∃ i < 40, (∀ p ∈ r.params, 24 + i < p.1 ∨ p.2 ≤ 24 + i) ∧ bits d.params.toNat (8 * i) 8 ≠ 0
        let range := (r.payload = .none ∧ (d.haddr ≠ 0 ∨ d.length ≠ 0))
          ∨ (r.payload ≠ .none ∧ (d.haddr.toNat % 8 ≠ 0 ∨ d.length = 0 ∨ 16777216 < d.length.toNat))
        let named := (r.site = .site ∨ (r.site = .timing ∧ par d 24 2 = 0xFFFF)) ∧ d.site.toNat < 64
          ∨ (r.site = .none ∨ (r.site = .timing ∧ par d 24 2 ≠ 0xFFFF)) ∧ d.site = 255
        (unused → checkDesc op d = some badParam)
        ∧ (¬ unused → range → checkDesc op d = some outOfRange)
        ∧ (¬ unused → ¬ range → ¬ named → checkDesc op d = some badParam)
        ∧ (¬ unused → ¬ range → named → checkDesc op d = none))
      ∧ s.checkConsumed op d
        = (if s.on CK_RSTCAUSE.RECOV ∧ (cmdRow op).isSome ∧ op ∉ recoveryOps then some notReady else checkDesc op d))

/-! ## The bus, PEEK and POKE (00, 01) -/

/-- R10, R11, R31. Writes of a word by a control core to four places of the host window: a read-only register keeps its value,
HW_EVT_MASK takes its ten bits of the word and its Reserved bits are ignored, DBERR of a context clears where the word has a 1,
ring memory takes the word; none is a bus error. -/
def Obligations.HostWindowWritesFollowAccessCodes : Prop :=
  ∀ (s : State) (m : Fin 2) (v : BitVec 64), (s.ready 24 || s.ready 25) = true →
    (∀ a ∈ ([0x0, 0x4, 0x10, 0x18, 0x20] : List Nat),
      ∃ t, exec (.registerWrite (BitVec.ofNat 8 (1 + m)) (BitVec.ofNat 32 a) ⟨4, v⟩) s = .next t ∧ t.bus.err = false ∧ t.sameRegs s []
        ∧ t.sameMemory s ∧ t.sameUnits s ∧ t.win = s.win)
    ∧ (∃ t, exec (.registerWrite (BitVec.ofNat 8 (1 + m)) 0x1C ⟨4, v⟩) s = .next t ∧ t.bus.err = false
        ∧ t.rd HW_EVT_MASK.MASK = v.toNat / 2 % 1024 ∧ t.sameRegs s [HW_EVT_MASK.MASK.key 0 0] ∧ t.sameMemory s ∧ t.sameUnits s)
    ∧ (∀ c : Fin 8, ∃ t, exec (.registerWrite (BitVec.ofNat 8 (1 + m)) (BitVec.ofNat 32 (0x110 + 0x20 * c)) ⟨4, v⟩) s = .next t
        ∧ t.bus.err = false ∧ t.rd HW_CTX_STAT.DBERR 0 c = (if bit v.toNat 24 then 0 else s.rd HW_CTX_STAT.DBERR 0 c % 2)
        ∧ t.sameRegs s [HW_CTX_STAT.DBERR.key 0 c] ∧ t.sameMemory s ∧ t.sameUnits s)
    ∧ (∀ o < 0x3000, ∃ t, exec (.registerWrite (BitVec.ofNat 8 (1 + m)) (BitVec.ofNat 32 (0x10000 + 4 * o)) ⟨4, v⟩) s = .next t
        ∧ t.bus.err = false ∧ t.win.readN (0x10000 + 4 * o) 4 = toLe 4 v.toNat
        ∧ (∀ x, (x < 0x10000 + 4 * o ∨ 0x10004 + 4 * o ≤ x) → t.win.read x = s.win.read x) ∧ t.sameRegs s [] ∧ t.sameMemory s
        ∧ t.sameUnits s)

/-- R10, R223. The lock of a channel's window: CH_BURSTCFG and CH_FRCFG take a write only while the channel is bound to no
site in RUNNING or HALTING, and BOFF and BSTRB only values up to 312. -/
def Obligations.LockedFieldsKeepTheirValue : Prop :=
  ∀ (s : State) (n : Fin 512) (v : BitVec 64), s.ready (3 + groupOf n) = true → s.gated (groupOf n) = false →
    ∃ t u, exec (.registerWrite 2 (BitVec.ofNat 32 (0x03000000 + 0x1000 * n + 0x64)) ⟨4, v⟩) s = .next t
      ∧ t.rd CH_FRCFG.LIMIT n = (if s.heldChan n then s.rd CH_FRCFG.LIMIT n else v.toNat % 65536)
      ∧ exec (.registerWrite 2 (BitVec.ofNat 32 (0x03000000 + 0x1000 * n + 0x4C)) ⟨4, v⟩) s = .next u
      ∧ u.rd CH_BURSTCFG.BOFF n
        = (if s.heldChan n = false ∧ v.toNat % 512 ≤ 312 then v.toNat % 512 else s.rd CH_BURSTCFG.BOFF n)
      ∧ u.rd CH_BURSTCFG.BSTRB n
        = (if s.heldChan n = false ∧ v.toNat / 65536 % 512 ≤ 312 then v.toNat / 65536 % 512 else s.rd CH_BURSTCFG.BSTRB n)

/-- R28, R31, R32, R35. Accesses that end with a bus error: one of a wrong size or alignment changes nothing but the reply,
one outside the master's reach is a DEGRADED fault, one to a reserved range or to a stopped clock an INFO fault. Where
several hold, the order in which the statement takes them is the model's choice (log entry 73). -/
def Obligations.BusErrorsByCause : Prop :=
  ∀ (s : State) (m size : BitVec 8) (a : BitVec 32) (v : BitVec 64) (w : Bool),
    let p := spotAt a.toNat
    let fails (kind sev : Nat) : Prop := exec (.registerWrite m a ⟨size, v⟩) s
      = .next { s.busFault kind sev m.toNat a.toNat true with bus := ⟨true, []⟩ }
    (sizeOk p a.toNat size.toNat = false → exec (.registerWrite m a ⟨size, v⟩) s = .next { s with bus := ⟨true, []⟩ })
    ∧ (sizeOk p a.toNat size.toNat = true →
      (p = .reserved → fails 0x03 0)
      ∧ (p ≠ .reserved → reaches m.toNat p a.toNat = false → fails 0x02 2)
      ∧ (p ≠ .reserved → reaches m.toNat p a.toNat = true → s.stopped p = true → fails 0x01 0))
    ∧ (sizeOk p a.toNat 4 = true → p ≠ .reserved → reaches m.toNat p a.toNat = true → s.stopped p = true →
      exec (.busTimeout m a w) s
        = .next { s.busFault 0x01 0 m.toNat a.toNat w with bus := ⟨true, if w then [] else [0]⟩ })

/-- R63, R31, R32, R147. PEEK of up to four words of one block answers with the address and the words that the active core
reads; of HW_ID nothing changes but the answer. POKE of HW_EVT_MASK writes and returns the word read back; POKE of the control
store is refused. -/
def Obligations.PeekAndPokeAnswer : Prop :=
  ∀ (d : Desc) (c : Consumed) (s u : State),
    (s.serves 0x0103 d c u → par c.d 24 4 % 4 = 0 → 1 ≤ par c.d 28 1 → par c.d 28 1 ≤ 4 →
      (∀ k < par c.d 28 1, spotAt (par c.d 24 4 + 4 * k) ≠ .reserved ∧ blockOf (par c.d 24 4 + 4 * k) = blockOf (par c.d 24 4)) →
      ∃ t, exec (.peek d false) s = .next t
        ∧ t.answered s c ok (toLe 4 (par c.d 24 4) ++ (u.readWords u.coreMaster (par c.d 24 4) (par c.d 28 1)).1.flatMap (toLe 4))
        ∧ (par c.d 24 4 = 0 → par c.d 28 1 = 1 → s.rd HW_STATUS.ACTIVE < 2 → (s.ready 24 || s.ready 25) = true →
          t.answered s c ok (toLe 4 0 ++ toLe 4 (s.regWord .hw 0 0)) ∧ t.onlyAnswered s d))
    ∧ (s.serves 0x0104 d c u → s.rd HW_STATUS.ACTIVE < 2 → (s.ready 24 || s.ready 25) = true → par c.d 24 4 = 0x1C →
      ∃ t, exec (.poke d) s = .next t ∧ t.rd HW_EVT_MASK.MASK = par c.d 28 4 / 2 % 1024
        ∧ t.answered s c ok (toLe 4 0x1C ++ toLe 4 (par c.d 28 4 / 2 % 1024 * 2))
        ∧ t.sameRegs s [HW_EVT_MASK.MASK.key 0 0, HW_RSP_PROD.PROD.key 0 d.ctx] ∧ t.sameMemory s ∧ t.sameUnits s)
    ∧ (s.serves 0x0104 d c u → par c.d 24 4 % 4 = 0 → 0x02001000 ≤ par c.d 24 4 → par c.d 24 4 < 0x02010000 →
      ∃ t, exec (.poke d) s = .next t ∧ t.answered s c refusedState [] ∧ t.onlyAnswered s d)

/-- R386, R390. A HWWR frame of one word that arrives in order, without error and well formed writes the word to the ring
memory it names, and a HWRD frame of one word is answered by a HWCPL frame with the word; both advance the receive sequence.
The layout of the offset and length in the payload over which the CRC is taken is that of Table 15-6. -/
def Obligations.HostWindowFramesAct : Prop :=
  ∀ (s : State) (h : RxHead) (w : BitVec 32) (o : Fin 0x2000), s.linkUp = true → h.fseq.toNat = s.link.rxSeq →
    (s.ready 24 || s.ready 25) = true →
    let off : BitVec 32 := BitVec.ofNat 32 (0x10000 + 4 * o)
    (headClean h 0x01 (toLe 4 off.toNat ++ toLe 4 w.toNat) = true → headFormed h (toLe 4 off.toNat ++ toLe 4 w.toNat) = true →
      ∃ t, exec (.hwwr h off (toLe 4 w.toNat)) s = .next t
        ∧ t.win.readN (0x10000 + 4 * o) 4 = toLe 4 w.toNat ∧ t.link.rxSeq = (s.link.rxSeq + 1) % 65536
        ∧ (∀ a, (a < 0x10000 + 4 * o.val ∨ 0x10004 + 4 * o.val ≤ a) → t.win.read a = s.win.read a) ∧ t.sameRegs s []
        ∧ t.sameMemory s ∧ t.sameUnits s)
    ∧ (headClean h 0x02 (toLe 4 off.toNat ++ toLe 4 4) = true → headFormed h (toLe 4 off.toNat ++ toLe 4 4) = true →
        s.link.waiting = [] → s.link.unacked = [] →
        ∃ t f, exec (.hwrd h off 4) s = .next t ∧ t.link.unacked = [f] ∧ f.type = 3 ∧ f.tag = h.tag.toNat
          ∧ f.payload = toLe 4 (le (s.win.readN (0x10000 + 4 * o) 4)) ∧ t.link.rxSeq = (s.link.rxSeq + 1) % 65536 ∧ t.win = s.win
          ∧ t.sameRegs s [] ∧ t.sameMemory s ∧ t.sameUnits s)

/-! ## The device commands (02) -/

/-- R63, R88, R394. IDENT, STATUS, TIME_GET, TEMP_READ of a sensor below 24, SITE_STATUS and LINK_STATUS, when carried
out, answer with what the state holds, and change nothing else. R63, R408, R492, Table 2-9. PE_SERIAL with parameters
in range, on a group whose PE control bus is not fenced and whose island runs, sends its bits under its chip select
and answers with the bits that come back. SELFTEST with no site RUNNING delivers a report and answers with its length;
the specification gives neither content nor length (free values). -/
def Obligations.DeviceCommandsAnswer : Prop :=
  (∀ (d : Desc) (c : Consumed) (s u : State),
      (s.serves 0x0100 d c u → ∃ t, exec (.ident d) s = .next t ∧ t.onlyAnswered s d
          ∧ t.answered s c ok ([0xB1] ++ toLe 1 (s.rd HW_ID.IFVER) ++ toLe 2 (s.rd SC_FWVER.ACTIVE)
            ++ toLe 1 (s.rd CK_STRAP.CHIPID) ++ toLe 1 (s.rd HW_STATUS.ACTIVE) ++ zeros 2 ++ toLe 12 Config.dieId.toNat))
      ∧ (s.serves 0x0101 d c u → ∃ t, exec (.status d) s = .next t ∧ t.onlyAnswered s d
          ∧ t.answered s c ok (toLe 2 ((List.range 64).countP (fun i => s.site i == stRunning))
            ++ toLe 2 ((List.range 736).countP s.fenced) ++ toLe 1 (s.rd FC_STAT.FEVALID) ++ toLe 1 (s.rd SC_STAT.POLICY)
            ++ toLe 2 (unsgn 16 s.hottest)))
      ∧ (s.serves 0x0106 d c u → ∃ t, exec (.timeGet d) s = .next t ∧ t.onlyAnswered s d
          ∧ t.answered s c ok (toLe 8 s.tt ++ toLe 8 c.dbTime))
      ∧ (s.serves 0x0605 d c u → par c.d 24 1 < 24 → ∃ t, exec (.tempRead d) s = .next t ∧ t.onlyAnswered s d
          ∧ t.answered s c ok (toLe 2 (Tab.get 0 s.cal.sensors (par c.d 24 1))))
      ∧ (s.serves 0x0206 d c u → ∃ t, exec (.siteStatus d) s = .next t ∧ t.onlyAnswered s d
          ∧ t.answered s c ok (toLe 1 (s.site (siteByte c.d)) ++ toLe 1 (s.siteBits (siteByte c.d)) ++ zeros 2
            ++ toLe 4 (s.rd SQ_IA.IA (siteByte c.d)) ++ toLe 5 (s.vaNow (siteByte c.d))))
      ∧ (s.serves 0x0A00 d c u → ∃ t, exec (.linkStatus d) s = .next t ∧ t.onlyAnswered s d
          ∧ t.answered s c ok (toLe 1 (s.rd HW_LINK.WIDTH) ++ toLe 1 (s.rd HW_LINK.RATE) ++ toLe 1 (s.rd HW_LINK.REFLANE)
            ++ zeros 1 ++ toLe 2 (s.rd HL_FENCE.FENCED))))
  ∧ (∀ (d : Desc) (miso : BitVec 128) (j : Job) (q : Bytes) (s u : State),
      (s.carriesOut 0x0107 d [] j q u → let p := j.cmd.d
        par p 24 1 < 16 → par p 25 1 < 4 → 20 ≤ par p 26 2 → par p 26 2 ≤ 1000 → 8 ≤ par p 28 1 →
        par p 28 1 ≤ 128 → s.fenced (716 + par p 24 1) = false → s.gated 18 = false →
        ∃ t, exec (.peSerial d miso) s = .next t ∧ t.completed u j (firstBits (par p 28 1) (toLe 16 miso.toNat))
          ∧ (t.group (par p 24 1)).pe
            = some ⟨par p 25 1, par p 26 2, par p 28 1, firstBits (par p 28 1) (toLe 16 (par p 32 16))⟩
          ∧ (∀ g, g ≠ par p 24 1 → t.group g = s.group g) ∧ t.sameMemory s ∧ t.chans = s.chans)
      ∧ (s.carriesOut 0x0606 d [] j q u → (∀ i < 64, s.site i ≠ stRunning) →
        ∃ t report, exec (.selftest d) s = .next t ∧ report.length ≤ j.cmd.d.length.toNat
          ∧ t.delivered u j report (toLe 4 report.length) ∧ t.sameMemory s ∧ t.sameUnits s))

/-- R409, R410, R411. DEVICE_RESET with FORCE, or while no site is RUNNING or HALTING. Warm: every site is UNBOUND, tester
time and vector memory stay, allocations are gone, no job is left, and the cause register names a warm reset by command.
Cold: the same but for tester time and vector memory, and the cause register names a cold reset by command. -/
def Obligations.DeviceResetClears : Prop :=
  ∀ (d : Desc) (c : Consumed) (s u : State), s.serves 0x0102 d c u →
    (par c.d 25 1 = 1 ∨ (par c.d 25 1 = 0 ∧ ∀ i < 64, s.busySite i = false)) →
    (par c.d 24 1 = 1 → ∃ t, exec (.deviceReset d) s = .next t ∧ (∀ i < 64, t.site i = stUnbound) ∧ t.tt = s.tt
      ∧ t.vmem = s.vmem ∧ t.mem.allocs = [] ∧ t.mbx.jobs = [] ∧ t.rd CK_RSTCAUSE.KIND = 2 ∧ t.rd CK_RSTCAUSE.PIN = 0
      ∧ t.rd CK_RSTCAUSE.CMD = 1)
    ∧ (par c.d 24 1 = 2 → ∃ t, exec (.deviceReset d) s = .next t ∧ (∀ i < 64, t.site i = stUnbound)
      ∧ t.mem.allocs = [] ∧ t.mbx.jobs = [] ∧ t.rd CK_RSTCAUSE.KIND = 1 ∧ t.rd CK_RSTCAUSE.PIN = 0
      ∧ t.rd CK_RSTCAUSE.CMD = 1)

/-- R70, R432, R434, Table 2-4. MEM_WRITE into a range of its space stores its payload at the address in bytes 28–35
and nowhere else. A write that meets one of a control core in a word of the scratchpad or capture SRAM ends with
COLLISION, and only the bytes before that word are stored. MEM_READ delivers the bytes and their number and changes no
memory. (Dumps whose write has ended are in vector memory before either takes place.) R70, R62. MEM_ALLOC in a named
group places the region where it fits, inside the group's region and clear of every other allocation, and answers with
its handle (numbered by the model, log entry 74) and base; MEM_FREE of an allocation that nothing uses removes it. -/
def Obligations.MemoryCommandsAct : Prop :=
  (∀ (d : Desc) (p : Bytes) (j : Job) (q : Bytes) (s u : State),
      let k := par j.cmd.d 24 1
      let a := par j.cmd.d 28 8
      let n := j.cmd.d.length.toNat
      k ≤ 2 → s.spaceOk k a n = true →
      (s.carriesOut 0x0800 d p j q u → (k = 2 → s.loupeActive = false) →
        ∃ t, exec (.memWrite d p none) s = .next t ∧ t.completed u j [] ∧ (t.space k).readN a n = q
          ∧ (∀ x, (x < a ∨ a + n ≤ x) → (t.space k).read x = (s.dumpsWritten.space k).read x)
          ∧ (∀ m ≤ 2, m ≠ k → t.space m = s.space m))
      ∧ (∀ o < n, s.carriesOut 0x0800 d p j q u → k ≠ 0 → (k = 2 → s.loupeActive = false) →
        let m := (a + o) / (if k = 1 then 32 else 8) * (if k = 1 then 32 else 8) - a
        ∃ t, exec (.memWrite d p (some o)) s = .next t ∧ t.concluded j collided []
          ∧ t.mbx.jobs = u.mbx.jobs.filter (fun x => x.id != j.id) ∧ (t.space k).readN a m = q.take m
          ∧ (∀ x, (x < a ∨ a + m ≤ x) → (t.space k).read x = (s.space k).read x)
          ∧ (∀ m ≤ 2, m ≠ k → t.space m = s.space m))
      ∧ (s.carriesOut 0x0801 d [] j q u →
        ∃ t, exec (.memRead d none) s = .next t ∧ t.delivered u j ((s.dumpsWritten.space k).readN a n) (toLe 4 n)
          ∧ t.vmem = s.dumpsWritten.vmem ∧ t.pad = s.pad ∧ t.cap = s.cap ∧ t.sameUnits s)
      ∧ (∀ o < n, s.carriesOut 0x0801 d [] j q u →
        ∃ t, exec (.memRead d (some o)) s = .next t ∧ t.concluded j memUncorr (toLe 4 ((a + o) / 8 * 8 - a))
          ∧ t.mbx.jobs = u.mbx.jobs.filter (fun x => x.id != j.id) ∧ t.pad = s.pad ∧ t.cap = s.cap))
  ∧ (∀ (d : Desc) (c : Consumed) (s u : State),
      (∀ a, s.serves 0x0802 d c u → 0 < par c.d 24 8 → par c.d 24 8 ≤ 0xC0000000 → par c.d 32 1 < 16 → 8 ≤ par c.d 33 1 →
        par c.d 33 1 ≤ 30 → s.place70 (par c.d 32 1) (par c.d 24 8) (par c.d 33 1) = some a →
        ∃ t, exec (.memAlloc d) s = .next t ∧ t.answered s c ok (toLe 4 s.mem.nextHandle ++ toLe 8 a)
          ∧ t.mem.allocs = s.mem.allocs ++ [⟨s.mem.nextHandle, a, par c.d 24 8⟩] ∧ t.onlyAnswered s d)
      ∧ (∀ x, s.serves 0x0803 d c u → s.mem.allocs.find? (fun a => a.handle == par c.d 24 4) = some x → s.inUse x = false →
        ∃ t, exec (.memFree d) s = .next t ∧ t.answered s c ok []
          ∧ t.mem.allocs = s.mem.allocs.filter (fun a => a.handle != par c.d 24 4) ∧ t.onlyAnswered s d)
      ∧ (∀ g size log2 a, s.place70 g size log2 = some a →
          g * regionSize ≤ a ∧ a + size ≤ g * regionSize + s.regionLen g ∧ a % 2 ^ log2 = 0
            ∧ ∀ x ∈ s.allocsIn g, a + size ≤ x.base ∨ x.base + x.size ≤ a))

/-! ## Sites (03, 04, 05) -/

/-- R72, R73, R77, R78. SITE_BIND of an UNBOUND site with free, unfenced channels in groups whose clocks run: exactly
the channels of the bitmap are bound, each a member of compare mask set 0 unless it is away from its pad for a
measurement, the site is IDLE, the response and SQ_DLAT give the decision latency, and every other site keeps its
state and channels. A site over several chips needs its ring entry. R74, R89. SITE_UNBIND of a site that is neither
RUNNING nor HALTING and that no job names: the site is UNBOUND and has no channel, its channels leave every compare
mask set unless one is away from its pad for a measurement, and every other site keeps its state and channels. -/
def Obligations.SiteBindAndUnbindAct : Prop :=
  (∀ (d : Desc) (p : Bytes) (j : Job) (q : Bytes) (s u : State), s.carriesOut 0x0200 d p j q u →
      let i := siteByte j.cmd.d
      let ns := mapChannels (le q)
      let pmin := par j.cmd.d 24 4
      let k := par j.cmd.d 28 1
      let lat := decisionLatency (ns.any (fun n => n / 128 != i / 16)) k pmin
      i < 64 → s.site i = stUnbound → j.cmd.d.length = 64 → ns ≠ [] → 2500 ≤ pmin → 1 ≤ k → k ≤ 4 →
      (k = 1 ∨ ((Tab.get {} s.ring.entries i).k = k ∧ (Tab.get {} s.ring.entries i).pmin = pmin)) →
      s.fenced (532 + i) = false →
      (∀ n ∈ ns, s.fenced n = false ∧ s.siteOf n = none ∧ s.gated (groupOf n) = false) →
      ∃ t, exec (.siteBind d p) s = .next t ∧ t.site i = stIdle ∧ t.rd SQ_DLAT.D i = lat ∧ t.rd SQ_STATE.CHIPS i = k
        ∧ t.rd SQ_PMIN.PMIN i = pmin % 2 ^ SQ_PMIN.PMIN.w ∧ (∀ n < 512, n ∈ t.channels i ↔ bit (le q) n = true)
        ∧ (∀ n ∈ ns, s.directly n = false → t.rd CH_CMSMASK.MEMBER n = 1)
        ∧ (∀ m, m ≠ i → m < 64 → t.site m = s.site m ∧ t.channels m = s.channels m)
        ∧ t.completed u j (toLe 2 lat) ∧ t.sameMemory s ∧ t.groups = s.groups ∧ t.tias = s.tias)
  ∧ (∀ (d : Desc) (c : Consumed) (s u : State), s.serves 0x0201 d c u → siteByte c.d < 64 → s.busySite (siteByte c.d) = false →
      s.siteJob (siteByte c.d) [] = false →
      ∃ t, exec (.siteUnbind d) s = .next t ∧ t.site (siteByte c.d) = stUnbound
        ∧ (s.site (siteByte c.d) ≠ stUnbound → t.channels (siteByte c.d) = []
          ∧ ∀ n ∈ s.channels (siteByte c.d), s.directly n = false → t.rd CH_CMSMASK.MEMBER n = 0)
        ∧ (∀ m, m ≠ siteByte c.d → m < 64 → t.site m = s.site m ∧ t.channels m = s.channels m)
        ∧ t.answered s c ok [] ∧ t.sameMemory s)

/-- R89, R143, R144. PATTERN_LOAD of a sound object whose regions are allocated and whose streams are the site's
channels: the site is LOADED, D, margin, PI count and instruction base are the object's, the streams are valid, an
object that carries its instructions has them copied to the base and memory is otherwise unchanged, and the response
gives D, margin and PI count. R166–R170. MICROCODE_LOAD on a site that is neither RUNNING nor HALTING. A customer
image that passes every check: CUSTOK is set, its words stand in customer RAM, the dispatch entries of its routines
are valid and no others, and the response gives the number of words. A signed patch set for this ROM and of a version
not below the image's: PATCHOK is set, its version and its words stand in the registers, and the response gives 64
words (the size of the set, log entry 21). -/
def Obligations.LoadsPutProgramsInPlace : Prop :=
  (∀ (d : Desc) (p : Bytes) (j : Job) (q : Bytes) (s u : State), s.carriesOut 0x0202 d p j q u →
      let i := siteByte j.cmd.d
      let es := streamEntries q (field q 24 4)
      let base := field q 16 8
      let npi := field q 8 4
      i < 64 → par j.cmd.d 24 1 ≤ 1 →
      (s.site i = stIdle ∨ (par j.cmd.d 24 1 = 1 ∧ [stLoaded, stDone, stHalted, stInvalid].contains (s.site i) = true)) →
      objectOk q = true → s.allocated base (8 * npi) = true → es.length = (s.channels i).length →
      (∀ n ∈ s.channels i, ∃ x ∈ es, x.chan = n) → (∀ x ∈ es, s.streamPlaced x (field q (field q 24 4) 5) = true) →
      (s.on SQ_SRSTAT.OPEN i = false ∨ ∀ x ∈ es, s.rd CH_STRMCFG.WIDTH x.chan = x.mode) →
      ∃ t, exec (.patternLoad d p) s = .next t ∧ t.site i = stLoaded
        ∧ t.rd SQ_INSTBASE.BASE i = base % 2 ^ SQ_INSTBASE.BASE.w
        ∧ (t.seq i).pat.d = field q 2 2 ∧ (t.seq i).pat.fmargin = sgn 16 (field q 4 2) ∧ (t.seq i).pat.npi = npi
        ∧ (∀ n ∈ s.channels i, t.rd CH_STRMCFG.VALID n = 1)
        ∧ (bit (field q 1 1) 0 = false → t.vmem.readN base (8 * npi) = (q.drop (field q 12 4)).take (8 * npi))
        ∧ (bit (field q 1 1) 0 = true → t.vmem = s.vmem)
        ∧ (∀ a, (a < base ∨ base + 8 * npi ≤ a) → t.vmem.read a = s.vmem.read a) ∧ t.pad = s.pad ∧ t.cap = s.cap
        ∧ (∀ m < 64, m ≠ i → t.site m = s.site m ∧ (t.seq m).pat = (s.seq m).pat)
        ∧ t.completed u j (toLe 2 (field q 2 2) ++ toLe 2 (field q 4 2) ++ toLe 4 npi))
  ∧ (∀ (d : Desc) (p : Bytes) (v : Verdict) (j : Job) (q : Bytes) (s u : State), s.carriesOut 0x0203 d p j q u →
      let i := siteByte j.cmd.d
      i < 64 → s.busySite i = false →
      (par j.cmd.d 24 1 = 1 → headerOk q = true → loaderVerdict q = none →
        ∃ t, exec (.microcodeLoad d p v) s = .next t ∧ t.rd SQ_UCTL.CUSTOK i = 1
          ∧ (∀ k < field q 2 2, t.rd SQ_CUST.WORD i k = field q (288 + 24 * k) 18)
          ∧ (∀ k < 64, t.rd SQ_DISP.VALID i k = b2n (imageEntry q k).isSome)
          ∧ t.concluded j ok (toLe 2 (field q 2 2) ++ toLe 2 0xFFFF) ∧ ∀ x ∈ t.mbx.jobs, x.id ≠ j.id)
      ∧ (par j.cmd.d 24 1 = 2 → s.verify q 1800 2 1 v = none → field q 4 2 = s.rd SQ_UROMID.ROMID i →
        s.sec.active.patchver ≤ field q 0 4 → field q 0 4 ≠ 0 → zeroAt q 6 2 = true →
        ∃ t, exec (.microcodeLoad d p v) s = .next t ∧ t.rd SQ_UCTL.PATCHOK i = 1
          ∧ t.rd SQ_UPATCHVER.VERSION i = field q 0 4 ∧ (∀ k < 64, t.rd SQ_PATCH.WORD i k = field q (264 + 24 * k) 18)
          ∧ t.concluded j ok (toLe 2 64 ++ toLe 2 0xFFFF) ∧ ∀ x ∈ t.mbx.jobs, x.id ≠ j.id))

/-- R65, R82, R89, R181, R317. RUN of a site in LOADED, DONE or HALTED that no check refuses. Where a measurement or a COLLIMATE
holds it up, the job waits and the site keeps its state. Otherwise the site is RUNNING at its start IA: on one chip the first
vector comes 2 µs (6,400 ticks) later, which the response gives; over several chips the job goes on until the start barrier
releases. -/
def Obligations.RunStartsTheSite : Prop :=
  ∀ (d : Desc) (j : Job) (q : Bytes) (s u : State), s.carriesOut 0x0204 d [] j q u →
    let i := siteByte j.cmd.d
    i < 64 → [stLoaded, stDone, stHalted].contains (s.site i) = true → s.runRefusal i (par j.cmd.d 28 1) = none →
    (s.runWaits i = true → ∃ t, exec (.run d) s = .next t ∧ t.site i = s.site i
      ∧ t.cal.waiters = s.cal.waiters ++ [⟨j.id, i, s.facetsDefined i⟩] ∧ t.mbx.jobs.map Job.id = u.mbx.jobs.map Job.id
      ∧ t.sameMemory s)
    ∧ (s.runWaits i = false → ∃ t, exec (.run d) s = .next t ∧ t.site i = stRunning ∧ t.rd SQ_IA.IA i = par j.cmd.d 24 4
      ∧ t.sameMemory s ∧ (∀ m < 64, m ≠ i → t.site m = s.site m)
      ∧ (s.rd SQ_STATE.CHIPS i ≤ 1 → t.rd SQ_RUNT.T i = (s.tt + 6400) % 2 ^ 64
        ∧ t.completed u j (toLe 8 ((s.tt + 6400) % 2 ^ 64)))
      ∧ (1 < s.rd SQ_STATE.CHIPS i → (t.seq i).waitBarrier = true ∧ t.mbx.jobs.map Job.id = u.mbx.jobs.map Job.id))

/-- R59, R65, R89, R94. HALT of a RUNNING site posts cause 0 and answers HALTING. Of a site in another state it
answers that state, which stays, and no RUN job of the site is left that has not put it in RUNNING. HALTREQ posts
cause 0 to a RUNNING site, and is ignored in another state. R90, R92, R93, R172, R429. HALT_CAUSE posts its cause to a
RUNNING site; a machine check puts a site in RUNNING or HALTING in MACHINE_CHECK. SITE_HALTED of a HALTING site whose
vector side has stopped and whose sequencer is in no routine and not stalled: it is HALTED, or INVALID if its region
of vector memory was lost; before the vector side has stopped nothing happens. -/
def Obligations.HaltsPostAndArrive : Prop :=
  (∀ (d : Desc) (c : Consumed) (site : Fin 64) (s u : State),
      (s.serves 0x0205 d c u → siteByte c.d < 64 → s.site (siteByte c.d) = stRunning →
        ∃ t, exec (.halt d) s = .next t ∧ t.site (siteByte c.d) = stHalting ∧ t.rd SQ_STATE.CAUSE (siteByte c.d) = 0
          ∧ t.answered s c ok [BitVec.ofNat 8 stHalting] ∧ t.sameMemory s)
      ∧ (s.serves 0x0205 d c u → siteByte c.d < 64 → s.site (siteByte c.d) ≠ stRunning →
        ∃ t, exec (.halt d) s = .next t ∧ t.answered s c ok (toLe 1 (s.site (siteByte c.d)))
          ∧ t.site (siteByte c.d) = s.site (siteByte c.d) ∧ t.sameMemory s ∧ t.sameUnits s
          ∧ ∀ x ∈ t.mbx.jobs, x ∈ s.mbx.jobs ∧ (x.runsSite (siteByte c.d) = true → s.startWaits x = true))
      ∧ (s.site site = stRunning →
        ∃ t, exec (.haltreq site) s = .next t ∧ t.site site = stHalting ∧ t.rd SQ_STATE.CAUSE site = 0
          ∧ t.rd SQ_CTRL.HALTREQ site = 1 ∧ (∀ m < 64, m ≠ site.val → t.site m = s.site m) ∧ t.sameMemory s)
      ∧ (s.site site ≠ stRunning → exec (.haltreq site) s = .next s))
  ∧ (∀ (site : Fin 64) (s : State),
      (∀ cause : Fin 5, s.site site = stRunning → cause.val ≠ 3 →
        ∃ t, exec (.haltCause site cause) s = .next t ∧ t.site site = stHalting ∧ t.rd SQ_STATE.CAUSE site = cause.val
          ∧ t.sameMemory s)
      ∧ (s.busySite site = true →
        ∃ t, exec (.haltCause site 3) s = .next t ∧ t.site site = stMachineCheck ∧ t.rd SQ_STATE.CAUSE site = 3)
      ∧ (s.site site = stHalting → (s.seq site).vecEnd = true → (s.seq site).inRoutine = false → (s.seq site).stall = none →
        ∃ t, exec (.siteHalted site) s = .next t ∧ t.site site = (if (s.seq site).lost then stInvalid else stHalted))
      ∧ (s.site site = stHalting → (s.seq site).vecEnd = false → (s.seq site).draining = false → (s.seq site).stall = none →
        exec (.siteHalted site) s = .next s))

/-- R189–R193. STREAM_OPEN of an allocated ring sets its geometry and zero indices; STREAM_PUSH of sound frames that fit
advances the write index by their number, writes nothing outside the ring and answers with the bytes free; STREAM_CLOSE,
with no push pending and outside a section, closes the ring. -/
def Obligations.StreamRingLifeCycle : Prop :=
  ∀ (d : Desc) (p : Bytes) (c : Consumed) (j : Job) (q : Bytes) (s u : State),
    (s.serves 0x0207 d c u →
      let i := siteByte c.d
      let fb := s.frameBytes i
      i < 64 → [stLoaded, stRunning, stDone, stHalted].contains (s.site i) = true → s.on SQ_SRSTAT.OPEN i = false →
      par c.d 24 8 % 256 = 0 → par c.d 32 4 % fb = 0 → 2 ≤ par c.d 32 4 / fb → par c.d 32 4 / fb ≤ 65536 →
      par c.d 32 4 ≤ 2 ^ 30 → par c.d 36 1 ≤ 1 → s.allocated (par c.d 24 8) (par c.d 32 4) = true →
      ∃ t, exec (.streamOpen d) s = .next t ∧ t.rd SQ_SRSTAT.OPEN i = 1 ∧ t.rd SQ_SRWR.WR i = 0 ∧ t.rd SQ_SRRD.RD i = 0
        ∧ t.rd SQ_SRSTAT.POLICY i = par c.d 36 1 ∧ t.answered s c ok [] ∧ t.sameMemory s)
    ∧ (s.carriesOut 0x0208 d p j q u →
      let i := siteByte j.cmd.d
      let fb := s.rd SQ_SRFLEN.FLEN i
      let base := s.rd SQ_SRBASE.BASE i * 256
      i < 64 → s.on SQ_SRSTAT.OPEN i = true → s.on SQ_SRSTAT.STALE i = false → 0 < fb → q.length % fb = 0 →
      (∀ k < q.length / fb, s.frameOk i (s.rd SQ_SRWR.WR i + k) ((q.drop (k * fb)).take fb) = true) →
      q.length ≤ s.ringFree i →
      ∃ t, exec (.streamPush d p) s = .next t ∧ t.rd SQ_SRWR.WR i = (s.rd SQ_SRWR.WR i + q.length / fb) % 2 ^ 32
        ∧ t.completed u j (toLe 4 (t.ringFree i)) ∧ t.pad = s.pad ∧ t.cap = s.cap ∧ t.sameUnits s
        ∧ (q.length = fb →
          t.vmem.readN (base + s.rd SQ_SRWR.WR i % s.rd SQ_SRSIZE.FRAMES i * fb) fb = q)
        ∧ (∀ a, (a < base ∨ base + s.rd SQ_SRSIZE.FRAMES i * fb ≤ a) → t.vmem.read a = s.vmem.read a))
    ∧ (s.serves 0x0209 d c u → siteByte c.d < 64 → s.on SQ_SRSTAT.OPEN (siteByte c.d) = true → s.on SQ_NEST.STRM (siteByte c.d) = false →
      s.siteJob (siteByte c.d) [0x0208] = false →
      ∃ t, exec (.streamClose d) s = .next t ∧ t.rd SQ_SRSTAT.OPEN (siteByte c.d) = 0 ∧ t.answered s c ok []
        ∧ t.sameMemory s)

/-! ## Facets, compare mask sets and fail records (07, 08, 14) -/

/-- R66, R203–R209, R318. FACET_WRITE and WAVETABLE_WRITE for one channel, or with 0xFFFF for every channel of a bound
site: of each named channel the Facet takes the image's parameters and keeps its table, or takes the table and keeps
its parameters, or the write waits where the channel is away from its pad for a measurement; every other channel keeps
its Facets. FACET_READ of a channel delivers the image and the table. R231, R232, R317, R318. CMS_WRITE on a bound
site that is not RUNNING takes effect at once: of the site's channels on their pads exactly those of the bitmap are
members of the set. On a RUNNING site it is staged: no membership changes, and the job goes on until the site's next
vector takes the set. -/
def Obligations.FacetAndCmsCommandsAct : Prop :=
  (∀ (d : Desc) (p : Bytes) (j : Job) (q : Bytes) (s u : State),
      let n := par j.cmd.d 24 2
      let k := par j.cmd.d 26 1
      let ns := s.timingChannels j.cmd.d
      k < 32 → (n < 512 ∨ (n = 0xFFFF ∧ siteByte j.cmd.d < 64 ∧ s.site (siteByte j.cmd.d) ≠ stUnbound)) →
      (∀ f, s.carriesOut 0x0300 d p j q u → facetOf80 q = some f → (∀ m ∈ ns, s.copying m = false) →
        (f.burst = true ∨ ∀ m ∈ ns, s.edgesOk m f = true) → s.breaksR76 ns k f.period = false →
        (∀ m ∈ ns, s.running m = false ∨
          ((s.facet m k).period = f.period ∧ (s.facet m k).burst = f.burst ∧ (s.facet m k).bdir = f.bdir)) →
        ∃ t, exec (.facetWrite d p) s = .next t ∧ t.completed u j [] ∧ t.sameMemory s
          ∧ (∀ m ∈ ns, s.directly m = false → t.facet m k = { f with table := (s.facet m k).table })
          ∧ (∀ m ∈ ns, s.directly m = true → (t.chan m).held = (s.chan m).held ++ [.timing k f] ∧ t.facet m k = s.facet m k)
          ∧ (∀ m < 512, m ∉ ns → ∀ x, t.facet m x = s.facet m x))
      ∧ (s.carriesOut 0x0302 d p j q u → j.cmd.d.length = 64 →
        (∀ i < 16, field q (4 * i) 4 < 2 ^ 20 ∧ ∀ m < 4, bits (field q (4 * i) 4) (8 + 3 * m) 3 ≠ 7) →
        let ws := (List.range 16).map (fun i => field q (4 * i) 4)
        ∃ t, exec (.wavetableWrite d p) s = .next t ∧ t.completed u j [] ∧ t.sameMemory s
          ∧ (∀ m ∈ ns, s.directly m = false → t.facet m k = { s.facet m k with table := ws })
          ∧ (∀ m ∈ ns, s.directly m = true → (t.chan m).held = (s.chan m).held ++ [.table k ws] ∧ t.facet m k = s.facet m k)
          ∧ (∀ m < 512, m ∉ ns → ∀ x, t.facet m x = s.facet m x))
      ∧ (s.carriesOut 0x0301 d [] j q u → n < 512 → 144 ≤ j.cmd.d.length.toNat →
        ∃ t, exec (.facetRead d) s = .next t
          ∧ t.delivered u j (facetImage (s.facet n k) ++ (s.facet n k).table.flatMap (toLe 4)) (toLe 4 144)
          ∧ t.sameMemory s ∧ t.sameUnits s))
  ∧ (∀ (d : Desc) (p : Bytes) (j : Job) (q : Bytes) (s u : State), s.carriesOut 0x0303 d p j q u →
      let i := siteByte j.cmd.d
      let k := par j.cmd.d 24 1
      i < 64 → j.cmd.d.length = 64 → k ≤ 15 → (∀ n ∈ mapChannels (le q), n ∈ s.channels i) →
      (∀ n ∈ s.channels i, s.copying n = false) →
      (s.site i ≠ stUnbound → s.site i ≠ stRunning →
        ∃ t, exec (.cmsWrite d p) s = .next t ∧ t.completed u j [] ∧ t.sameMemory s
          ∧ ∀ n ∈ s.channels i, s.directly n = false → bit (t.rd CH_CMSMASK.MEMBER n) k = bit (le q) n)
      ∧ (s.site i = stRunning →
        ∃ t, exec (.cmsWrite d p) s = .next t ∧ (t.seq i).cmsStage = (s.seq i).cmsStage ++ [⟨j.id, k, le q⟩]
          ∧ (∀ n, t.rd CH_CMSMASK.MEMBER n = s.rd CH_CMSMASK.MEMBER n) ∧ t.mbx.jobs.map Job.id = u.mbx.jobs.map Job.id
          ∧ t.sameMemory s))

/-- R237, R241–R244. FAIL_READ of a group in READ mode pops the oldest complete records, at most what LENGTH and the
command allow, delivers them and answers with their number and the two loss counts. FAIL_FLUSH empties the queues of
its mask but for a record whose header is written in the same tick, zeroes their loss counts, and leaves the other
groups as they are. DRAIN_MODE_WRITE sets the mode. R235, R238, R248, R260, R362. RECORD_TAKE at a group with no
record under way and room for four takes a waiting SUPMON record first, and with none waiting the oldest record of the
buffer whose turn it is; a record is taken no earlier than the CK_SEQ cycle after its entry. QUEUE_POINTER empties the
queue whose pointers differ, counts its records as lost, and reports a DEGRADED fault: a fail record queue (with
PTRERR), the result buffer of a measurement unit, the inbox, the event ring. -/
def Obligations.FailQueuesAct : Prop :=
  (∀ (d : Desc) (c : Consumed) (j : Job) (q : Bytes) (s u : State),
      (s.carriesOut 0x020A d [] j q u →
        let g := par j.cmd.d 24 1
        let rs := ((s.group g).settle s.tt).records
        let n := min (min (par j.cmd.d 28 4) (j.cmd.d.length.toNat / 32)) rs.length
        g < 16 → s.on GR_FQCTL.DRAIN g = false → 32 ≤ j.cmd.d.length.toNat →
        ∃ t, exec (.failRead d) s = .next t ∧ (t.group g).records = rs.drop n ∧ t.sameMemory s
          ∧ t.delivered u j (rs.take n).flatten
              (toLe 4 n ++ toLe 4 (s.rd GR_FQLOST.LOST g) ++ toLe 4 (s.rd GR_FQTRUNC.WORDS g))
          ∧ ∀ h, h ≠ g → t.group h = s.group h)
      ∧ (s.serves 0x020B d c u →
        ∃ t, exec (.failFlush d) s = .next t ∧ t.answered s c ok [] ∧ t.sameMemory s
          ∧ (∀ g < 16, bit (par c.d 24 2) g = true → (t.group g).records = [] ∧ t.rd GR_FQLOST.LOST g = 0
            ∧ ((s.group g).movedAt < s.tt → (t.group g).moving = []))
          ∧ (∀ g < 16, bit (par c.d 24 2) g = false → t.group g = s.group g))
      ∧ (∀ (g : Fin 16) (log : Bool), ∃ t, exec (.drainModeWrite g log) s = .next t ∧ t.rd GR_FQCTL.DRAIN g = b2n log
          ∧ t.sameRegs s [GR_FQCTL.DRAIN.key g 0] ∧ t.sameMemory s ∧ t.sameUnits s))
  ∧ (∀ (g : Fin 16) (x : Fin 546) (s : State),
      (∀ r rest, (s.group g).supPending = r :: rest → r.1 < s.tt / 4 → (s.group g).moving = [] →
        (s.group g).records.length ≤ 1020 →
        ∃ t y, exec (.recordTake g) s = .next t ∧ (t.group g).moving = r.2 :: y ∧ (t.group g).records = (s.group g).records
          ∧ t.sameMemory s)
      ∧ (∀ r rest, (s.group g).supPending = [] → (s.chan (pendingUnit g (s.group g).turn)).pending = r :: rest →
        r.1 < s.tt / 4 → (s.group g).moving = [] → (s.group g).records.length ≤ 1020 →
        ∃ t y, exec (.recordTake g) s = .next t ∧ (t.group g).moving = r.2 :: y ∧ (t.group g).records = (s.group g).records
          ∧ t.sameMemory s)
      ∧ (x.val < 16 → ∃ v : State, exec (.queuePointer x) s = .next (v.takeFaults [collectorMsg (716 + x.val) 0x12 2])
          ∧ (v.group x).records = [] ∧ v.rd GR_FQSTAT.PTRERR x = 1 ∧ v.sameMemory s
          ∧ v.rd GR_FQLOST.LOST x = satAdd 32 (s.rd GR_FQLOST.LOST x) ((s.group x).settle s.tt).records.length % 2 ^ 32)
      ∧ (17 ≤ x.val → x.val < 545 → ∃ v : State, exec (.queuePointer x) s = .next (v.takeFaults [collectorMsg (x.val - 17) 0x12 2])
          ∧ (v.tia (x.val - 17)).records = [] ∧ v.sameMemory s
          ∧ v.rd CH_TIALOST.LOST (x.val - 17) = satAdd 32 (s.rd CH_TIALOST.LOST (x.val - 17)) (s.tia (x.val - 17)).records.length % 2 ^ 32)
      ∧ (x.val = 545 → ∃ v : State, exec (.queuePointer x) s = .next (v.takeFaults [collectorMsg 715 0x12 2])
          ∧ v.ring.inbox = [] ∧ v.sameMemory s ∧ v.sameUnits s)
      ∧ (x.val = 16 → ∃ v : State, exec (.queuePointer x) s = .next (v.takeFaults [collectorMsg 709 0x12 2])
          ∧ v.rd HW_EVT_CONS.CONS = s.rd HW_EVT_PROD.PROD % 65536 ∧ v.sameMemory s ∧ v.sameUnits s))

/-- R244–R246. FAIL_LOG_ENABLE outside RUNNING and HALTING enables a log of a sound, allocated geometry, zeroes the
indices of one that was not enabled, and disables; in RUNNING and HALTING it is ignored. FAIL_LOG_READ_ADVANCE moves
the read index within what has been written and otherwise leaves it. FAIL_LOG_DRAIN appends the oldest record of a
queue in LOG mode to its site's log when that has room, and nothing else changes. R247, R248. A watched SUPMON line
that has kept a level for the filter time while the site is RUNNING or HALTING: one record waits at the group of the
site's lowest channel, and for the active level LATCH has the line's bit. A line that is not watched, or of a site in
another state, leaves no record. -/
def Obligations.FailLogAndSupmonRecord : Prop :=
  (∀ (s : State) (site : Fin 64) (g : Fin 16),
      (∀ wrap, s.busySite site = false → s.logOk site = true →
        ∃ t, exec (.failLogEnable site true wrap) s = .next t ∧ t.rd SQ_FLCTL.EN site = 1 ∧ t.rd SQ_FLCTL.WRAP site = b2n wrap
          ∧ (s.on SQ_FLCTL.EN site = false → t.rd SQ_FLWR.WR site = 0 ∧ t.rd SQ_FLRD.RD site = 0) ∧ t.sameMemory s
          ∧ t.sameUnits s)
      ∧ (∀ wrap, s.busySite site = false →
        ∃ t, exec (.failLogEnable site false wrap) s = .next t ∧ t.rd SQ_FLCTL.EN site = 0
          ∧ t.sameRegs s [SQ_FLCTL.EN.key site 0, SQ_FLCTL.WRAP.key site 0] ∧ t.sameMemory s ∧ t.sameUnits s)
      ∧ (∀ en wrap, s.busySite site = true → exec (.failLogEnable site en wrap) s = .next s)
      ∧ (∀ v : BitVec 32, ∃ t, exec (.failLogReadAdvance site v) s = .next t
          ∧ t.rd SQ_FLRD.RD site = (if (v.toNat + 2 ^ 32 - s.rd SQ_FLRD.RD site) % 2 ^ 32
              ≤ (s.rd SQ_FLWR.WR site + 2 ^ 32 - s.rd SQ_FLRD.RD site) % 2 ^ 32 then v.toNat else s.rd SQ_FLRD.RD site)
          ∧ t.sameRegs s [SQ_FLRD.RD.key site 0] ∧ t.sameMemory s ∧ t.sameUnits s)
      ∧ (∀ r rest, ((s.group g).settle s.tt).records = r :: rest → r.length = 32 → field r 4 1 = site.val →
        s.on GR_FQCTL.DRAIN g = true → s.on SQ_FLCTL.EN site = true →
        (s.rd SQ_FLWR.WR site + 2 ^ 32 - s.rd SQ_FLRD.RD site) % 2 ^ 32 < s.rd SQ_FLSIZE.SIZE site →
        let a := s.rd SQ_FLBASE.BASE site * 32 + 32 * (s.rd SQ_FLWR.WR site % s.rd SQ_FLSIZE.SIZE site)
        ∃ t, exec (.failLogDrain g) s = .next t ∧ (t.group g).records = rest ∧ t.vmem.readN a 32 = r
          ∧ (∀ x, (x < a ∨ a + 32 ≤ x) → t.vmem.read x = s.vmem.read x) ∧ t.pad = s.pad ∧ t.cap = s.cap
          ∧ t.rd SQ_FLWR.WR site = (s.rd SQ_FLWR.WR site + 1) % 2 ^ 32 ∧ t.sameRegs s [SQ_FLWR.WR.key site 0]))
  ∧ (∀ (s : State) (site : Fin 64) (line : Fin 8) (level : Bool) (time : Nat),
      (∀ n rest, s.busySite site = true → bit (s.rd SQ_SUPCFG.ENA site) line = true → s.channels site = n :: rest →
        ∃ t r, exec (.supmonRecord site line level time) s = .next t
          ∧ (level = bit (s.rd SQ_SUPCFG.POL site) line → bit (t.rd SQ_SUPSTAT.LATCH site) line = true)
          ∧ (t.group (groupOf n)).supPending = (s.group (groupOf n)).supPending ++ [(t.tt / 4, r)] ∧ r.length = 32
          ∧ time + 32 * s.rd SQ_SUPCFG.FILT site ≤ t.tt
          ∧ (∀ g < 16, g ≠ groupOf n → t.group g = s.group g) ∧ t.sameMemory s)
      ∧ (s.busySite site = false ∨ bit (s.rd SQ_SUPCFG.ENA site) line = false →
        ∃ t, exec (.supmonRecord site line level time) s = .next t ∧ t.groups = s.groups ∧ t.sameRegs s [] ∧ t.sameMemory s))

/-- R368, R370–R375. PERF_CONFIG outside RUNNING and HALTING with sound parameters sets the selection, the clearing at RUN and the
dumps. PERF_DUMP of a started run with dumps enabled takes place at its instant of the schedule, counts itself and moves the
schedule on. COUNTER_LATCH_READ returns the lower word of the counter as of now and latches the upper. DUMP_READ_ADVANCE moves
the read index within what has been written and otherwise leaves it. -/
def Obligations.SlotAccountingCommands : Prop :=
  ∀ (d : Desc) (c : Consumed) (s u : State) (site : Fin 64),
    (s.serves 0x0604 d c u →
      let i := siteByte c.d
      let flags := par c.d 32 1
      let en := bit flags 1
      i < 64 → s.busySite i = false → (∀ k < 8, par c.d (24 + k) 1 ≤ 0x14) → flags < 16 → par c.d 33 3 = 0 →
      par c.d 52 12 = 0 →
      (if en then 10 ≤ par c.d 36 4 ∧ par c.d 36 4 ≤ 10000000 ∧ par c.d 40 8 % 128 = 0 ∧ 16 ≤ par c.d 48 4
          ∧ par c.d 48 4 ≤ 1048576 ∧ s.allocated (par c.d 40 8) (128 * par c.d 48 4) = true
        else par c.d 36 4 = 0 ∧ par c.d 40 8 = 0 ∧ par c.d 48 4 = 0) →
      ∃ t, exec (.perfConfig d) s = .next t ∧ t.rd PM_SEL.SEL i = par c.d 24 8 ∧ t.rd PM_CTL.CLRRUN i = bits flags 0 1
        ∧ t.rd PM_CTL.DUMPEN i = b2n en ∧ t.rd PM_CTL.WRAP i = bits flags 2 1 ∧ t.rd PM_CTL.INTERVAL i = par c.d 36 4
        ∧ t.rd PM_DSIZE.SIZE i = par c.d 48 4 ∧ t.answered s c ok [] ∧ t.vmem = (s.settleDumps i).vmem ∧ t.pad = s.pad
        ∧ t.cap = s.cap ∧ t.sameUnits s)
    ∧ (∀ finish, s.busySite site = true → (s.seq site).started = true → s.on PM_CTL.DUMPEN site = true →
      let due := ({ (s.seq site).dump with t0 := s.rd SQ_RUNT.T site } : Periodic).due (s.rd PM_CTL.INTERVAL site * 3200)
      ∃ t, exec (.perfDump site finish) s = .next t ∧ t.tt = max s.tt due ∧ (t.seq site).dump.k = (s.seq site).dump.k + 1
        ∧ (t.seq site).dump.prev = t.tt ∧ (t.seq site).dump.done = max (max t.tt finish) (s.seq site).dump.done
        ∧ t.rd PM_DSEQ.K site = (max 1 (s.rd PM_DSEQ.K site) + 1) % 2 ^ PM_DSEQ.K.w ∧ t.pad = s.pad ∧ t.cap = s.cap
        ∧ t.sameUnits s)
    ∧ (∀ k : Fin 9,
      let now := s.pmTicks site
      let v := if k = 0 then now.rd PM_SLOTS.COUNT site else now.rd PM_CNT.COUNT site (k.val - 1)
      ∃ t, exec (.counterLatchRead site k) s = .next t ∧ t.bus.data = [v % 2 ^ 32]
        ∧ Tab.get 0 (t.seq site).hiLatch k = v / 2 ^ 32 ∧ t.sameRegs now [] ∧ t.tt = s.tt ∧ t.sameMemory s ∧ t.sameUnits s)
    ∧ (∀ v : BitVec 32, let w := (s.settleDumps site).rd PM_DWR.WR site
      ∃ t, exec (.dumpReadAdvance site v) s = .next t
        ∧ t.rd PM_DRD.RD site = (if (v.toNat + 2 ^ 32 - s.rd PM_DRD.RD site) % 2 ^ 32
            ≤ (w + 2 ^ 32 - s.rd PM_DRD.RD site) % 2 ^ 32 then v.toNat else s.rd PM_DRD.RD site)
        ∧ t.vmem = (s.settleDumps site).vmem ∧ t.pad = s.pad ∧ t.cap = s.cap ∧ t.sameUnits s)

/-! ## Reset, clocks and gates (16) -/

/-- R409, R411, R412. A power-on reset latches the straps and leaves every site UNBOUND, nothing allocated, no job and the
cause register at power-on; while power fails the device stays in it. RESET_L low for 1 µs or more is a cold reset by pin, low
for less than 100 ns or before start-up nothing, and in between either of the two. -/
def Obligations.ResetsFromOutside : Prop :=
  ∀ (p : Straps) (ns : Nat) (s : State),
    (∃ t, exec (.powerOnReset p) s = .next t ∧ t.clk.boot = 1 ∧ (∀ i < 64, t.site i = stUnbound) ∧ t.mem.allocs = []
      ∧ t.mbx.jobs = [] ∧ t.rd CK_RSTCAUSE.KIND = 0 ∧ t.rd CK_STRAP.OSCDLY = p.oscDly.toNat ∧ t.rd CK_STRAP.BOOT = p.bootMode.toNat
      ∧ t.rd CK_STRAP.TEST = b2n p.testMode ∧ t.rd CK_STRAP.CHIPID = p.chipId.toNat)
    ∧ (∃ t, exec .powerFail s = .next t ∧ t.clk.boot = 0 ∧ (∀ i < 64, t.site i = stUnbound) ∧ t.rd HW_STATUS.MBRDY = 0
      ∧ t.rd CK_READY.READY = 0)
    ∧ (s.clk.boot ≠ 0 → 1000 ≤ ns →
      ∃ t, exec (.resetPin p ns) s = .next t ∧ (∀ i < 64, t.site i = stUnbound) ∧ t.mem.allocs = [] ∧ t.mbx.jobs = []
        ∧ t.rd CK_RSTCAUSE.KIND = 1 ∧ t.rd CK_RSTCAUSE.PIN = 1 ∧ t.rd CK_RSTCAUSE.CMD = 0
        ∧ t.clk.boot = (if s.ready 25 then 6 else 1))
    ∧ (s.clk.boot ≠ 0 → 100 ≤ ns → ns < 1000 →
      ∃ t, exec (.resetPin p ns) s = .next t
        ∧ (t = { s with free := s.free + 1 } ∨ exec (.resetPin p 1000) { s with free := s.free + 1 } = .next t))
    ∧ (s.clk.boot = 0 ∨ ns < 100 → exec (.resetPin p ns) s = .next s)

/-- R401, R403, R413. CK_INT becomes ready. At start-up the security core runs steps 2–6: the link is in DETECT and
the latch on the PE outputs is released. In CLOCK_HOLD the hold ends and the link starts from DETECT, as at
CLOCK_HOLD_EXIT. Before power-on nothing happens, and otherwise CK_INT is ready and no other register changes. R413,
R425. Steps 11 and 12: with CK_REF and every PLL ready and the link ACTIVE the mailbox is served, from context 0, and
each pseudo-channel has the delay code of the sealed table at its stack's temperature; before that nothing happens. -/
def Obligations.BootBringsMailboxService : Prop :=
  (∀ (ok : Bool) (s : State),
      (s.on CK_MON.HOLD = false → s.clk.boot = 1 →
        ∃ t, exec (.oscillatorReady ok) s = .next t ∧ t.clk.boot = 6 ∧ t.rd HL_STAT.STAGE = 0 ∧ t.latch = false
          ∧ t.link.fresh = true)
      ∧ (s.on CK_MON.HOLD = true →
        ∃ t, exec (.oscillatorReady ok) s = .next t ∧ exec .clockHoldExit s = .next t ∧ t.rd CK_MON.HOLD = 0
          ∧ t.rd HL_STAT.STAGE = 0 ∧ t.clk.latched = false ∧ t.rd CK_RSTCAUSE.HOLD = 1)
      ∧ (s.on CK_MON.HOLD = false → s.clk.boot = 0 → exec (.oscillatorReady ok) s = .next s)
      ∧ (s.on CK_MON.HOLD = false → 2 ≤ s.clk.boot →
        ∃ t, exec (.oscillatorReady ok) s = .next t ∧ t.ready 25 = true ∧ t.sameRegs s [CK_READY.READY.key 0 0])
      ∧ (s.on CK_MON.HOLD = false → exec .clockHoldExit s = .next s))
  ∧ (∀ s : State,
      (s.bootable = true →
        ∃ t, exec .mailboxReady s = .next t ∧ t.rd HW_STATUS.MBRDY = 1 ∧ t.clk.boot = 12 ∧ t.mbx.visit = 0
          ∧ (∀ k < 64, t.rd MC_PC.CODE 0 k
              = (Config.delayCode k (sgn 8 (s.rd (if k < 32 then MC_STAT.TEMP0 else MC_STAT.TEMP1)))).toNat)
          ∧ t.sameMemory s ∧ t.sameUnits s)
      ∧ (s.bootable = false → exec .mailboxReady s = .next s))

/-- R395–R397. A PLL other than the link's locks once CK_REF is ready, and before that not: its domains are ready and
its LOCK bit is set; at the main PLL's first lock tester time starts at 0, and firmware selects the control PLL. The
link PLL locks to the reference lane once that has locked, which makes CK_REF ready, and until then to CK_INT, in
holdover. R393, R399–R401. A new loss of the reference, reported by the detector or by a window with a count outside
98–102, restarts bring-up in DETECT while CK_INT is ready. While CK_INT is not ready the detector's report takes the
device into CLOCK_HOLD: HOLD is set, no PLL is locked, CK_REF and the control PLL are not ready, every site is UNBOUND
and the event is latched. A report that is no new loss, one inside a rate step, a count in 98–102, and a count while
CK_INT is not ready change at most the count register. -/
def Obligations.ClocksComeAndGo : Prop :=
  (∀ s : State,
      (∀ k : Fin 6, k ≠ 0 → s.ready 1 = true →
        ∃ t, exec (.pllLock k) s = .next t
          ∧ (∀ d < (pllDomains k).2, t.ready ((pllDomains k).1 + d) = true) ∧ bit (t.rd CK_PLLSTAT.LOCK) k = true
          ∧ (k = 1 → s.ttRuns = false → t.tt = 0 ∧ t.ttRuns = true) ∧ (k = 5 → t.rd CK_SEL.CTLSRC = 1)
          ∧ t.sameMemory s ∧ t.sameUnits s)
      ∧ (∀ k : Fin 6, k ≠ 0 → s.ready 1 = false → exec (.pllLock k) s = .next s)
      ∧ (s.laneLocked = true →
        ∃ t, exec (.pllLock 0) s = .next t ∧ t.ready 22 = true ∧ t.ready 1 = true ∧ bit (t.rd CK_PLLSTAT.LOCK) 0 = true
          ∧ t.rd CK_MON.LOST = 0 ∧ t.sameMemory s ∧ t.sameUnits s)
      ∧ (s.laneLocked = false → s.ready 25 = true →
        ∃ t, exec (.pllLock 0) s = .next t ∧ t.ready 22 = true ∧ bit (t.rd CK_PLLSTAT.LOCK) 0 = true ∧ t.held 0 = true
          ∧ t.sameMemory s ∧ t.sameUnits s))
  ∧ (∀ (det : Bool) (edges : BitVec 8) (s : State),
      (s.rd HL_STAT.STAGE ≠ 6 → s.newLoss = true → s.ready 25 = true →
        (det = true ∨ edges.toNat < 98 ∨ 102 < edges.toNat) →
        ∃ t, exec (.refLoss det edges) s = .next t ∧ t.rd HL_STAT.STAGE = 0 ∧ t.link.fresh = true)
      ∧ (s.rd HL_STAT.STAGE ≠ 6 → s.newLoss = true → s.ready 25 = false → det = true →
        ∃ t, exec (.refLoss det edges) s = .next t ∧ t.rd CK_MON.HOLD = 1 ∧ t.rd CK_PLLSTAT.LOCK = 0 ∧ t.ready 1 = false
          ∧ t.ready 24 = false ∧ (∀ i < 64, t.site i = stUnbound) ∧ t.clk.latched = true)
      ∧ (s.rd HL_STAT.STAGE = 6 ∨ s.newLoss = false ∨
          (det = false ∧ (s.ready 25 = false ∨ (98 ≤ edges.toNat ∧ edges.toNat ≤ 102))) →
        ∃ t, exec (.refLoss det edges) s = .next t ∧ t.sameRegs s [CK_MON.COUNT.key 0 0] ∧ t.sameMemory s ∧ t.sameUnits s))

/-- R389, R404. A trim run that ends more than 64 counts off moves TRIM by one towards the nominal frequency and goes
on (which direction of TRIM speeds the oscillator up is the model's reading, log entry 26); one within 64 counts ends
the run; TRIMOK tells a count within 128. A frame mark on an ACTIVE link starts a run that was discarded or is due,
and otherwise nothing. A missing mark is counted, discards the run and leaves an INFO fault. R398, R405. The clock
selection takes effect if the selected source is ready and is otherwise refused with REFUSED and an INFO fault; the
divider takes 4–16 and keeps its value for any other, and during a trim run is refused; a frequency count of two ready
domains runs until its gate ends and then shows its count with DONE, and of others it ends at once with NREADY. -/
def Obligations.TrimAndClockControls : Prop :=
  (∀ (count : Nat) (s : State),
      (s.on CK_OSC.TBUSY = true → s.rd CK_OSC.TRIM < 256 →
        ∃ t, exec (.trimRunEnd count) s = .next t
          ∧ t.rd CK_OSC.TRIMOK = b2n (decide (127872 ≤ count ∧ count ≤ 128128)) ∧ t.sameMemory s ∧ t.sameUnits s
          ∧ (128064 < count → t.rd CK_OSC.TRIM = s.rd CK_OSC.TRIM - 1 ∧ t.on CK_OSC.TBUSY = true)
          ∧ (count < 127936 → t.rd CK_OSC.TRIM = min 255 (s.rd CK_OSC.TRIM + 1) ∧ t.on CK_OSC.TBUSY = true)
          ∧ (127936 ≤ count → count ≤ 128064 → t.rd CK_OSC.TRIM = s.rd CK_OSC.TRIM ∧ t.rd CK_OSC.TBUSY = 0
            ∧ ∃ p, t.clk.trim = some p ∧ p.done = s.age))
      ∧ (s.on CK_OSC.TBUSY = false → exec (.trimRunEnd count) s = .next s)
      ∧ (let due := s.clk.trimWait = true ∨ ∃ p, s.clk.trim = some p ∧ p.due 320000000 ≤ s.age
        (s.linkUp = true → s.on CK_OSC.TBUSY = false → due →
          ∃ t, exec .frameMark s = .next t ∧ t.rd CK_OSC.TBUSY = 1 ∧ t.clk.trimWait = false
            ∧ t.sameRegs s [CK_OSC.TBUSY.key 0 0] ∧ t.sameMemory s ∧ t.sameUnits s)
        ∧ (s.linkUp = false ∨ s.on CK_OSC.TBUSY = true ∨ ¬ due → exec .frameMark s = .next s))
      ∧ (s.linkUp = true →
        ∃ u : State, exec .markGap s = .next (u.takeFaults [collectorMsg 709 0x31 0]) ∧ u.rd CK_OSC.TBUSY = 0
          ∧ u.rd HL_MARKS.GAPS = satAdd HL_MARKS.GAPS.w (s.rd HL_MARKS.GAPS) 1 % 2 ^ HL_MARKS.GAPS.w
          ∧ (s.on CK_OSC.TBUSY = true → u.clk.trimWait = true)
          ∧ u.sameRegs s [HL_MARKS.GAPS.key 0 0, CK_OSC.TBUSY.key 0 0])
      ∧ (s.linkUp = false → exec .markGap s = .next s))
  ∧ (∀ (s : State) (pll : Bool) (v : BitVec 5) (n : BitVec 32),
      (s.ready (if pll then 24 else 25) = true →
        ∃ t, exec (.clockSelect pll) s = .next t ∧ t.rd CK_SEL.CTLSRC = b2n pll ∧ t.sameRegs s [CK_SEL.CTLSRC.key 0 0]
          ∧ t.sameMemory s ∧ t.sameUnits s)
      ∧ (s.ready (if pll then 24 else 25) = false →
        exec (.clockSelect pll) s = .next ((s.wr CK_SEL.REFUSED 1).takeFaults [clockFault 0x05 0]))
      ∧ (s.on CK_OSC.TBUSY = false →
        ∃ t, exec (.ctlDividerWrite v) s = .next t
          ∧ t.rd CK_CTLDIV.DIV = (if 4 ≤ v.toNat ∧ v.toNat ≤ 16 then v.toNat else s.rd CK_CTLDIV.DIV)
          ∧ t.sameRegs s [CK_CTLDIV.DIV.key 0 0] ∧ t.sameMemory s ∧ t.sameUnits s)
      ∧ (s.on CK_OSC.TBUSY = true →
        exec (.ctlDividerWrite v) s = .next ((s.wr CK_SEL.REFUSED 1).takeFaults [clockFault 0x05 0]))
      ∧ (s.countable = true →
        ∃ t u, exec .freqCountStart s = .next t ∧ t.clk.counting = true ∧ t.rd CK_FCCTL.DONE = 0 ∧ t.sameUnits s
          ∧ exec (.freqCountDone n) t = .next u ∧ u.rd CK_FCCTL.DONE = 1 ∧ u.rd CK_FCRES.COUNT = n.toNat
          ∧ u.rd CK_FCCTL.NREADY = 0 ∧ u.clk.counting = false ∧ u.sameMemory s ∧ u.sameUnits s)
      ∧ (s.countable = false →
        ∃ t, exec .freqCountStart s = .next t ∧ t.rd CK_FCCTL.NREADY = 1 ∧ t.rd CK_FCRES.COUNT = 0 ∧ t.clk.counting = false
          ∧ t.sameMemory s ∧ t.sameUnits s)
      ∧ (s.clk.counting = false → exec (.freqCountDone n) s = .next s))

/-- R406. A write that sets a gate bit whose close is refused leaves that bit at 0, sets REFUSED and logs an INFO fault; the
other bits take effect: of the bits not closed before, exactly those whose close is served are set. -/
def Obligations.GateCloseFollowsR406 : Prop :=
  ∀ (mask : BitVec 19) (s : State),
    ∃ u : State, (∀ i < 19, bit (u.rd CK_GATE.CLOSE) i
        = (bit (s.rd CK_GATE.CLOSE) i || (bit mask.toNat i && !s.closeRefused i)))
      ∧ ((∃ i < 19, bit mask.toNat i = true ∧ bit (s.rd CK_GATE.CLOSE) i = false ∧ s.closeRefused i = true) →
          u.rd CK_GATESTAT.REFUSED = 1 ∧ exec (.gateClose mask) s = .next (u.takeFaults [clockFault 0x05 0]))
      ∧ ((∀ i < 19, bit mask.toNat i = true → bit (s.rd CK_GATE.CLOSE) i = false → s.closeRefused i = false) →
          u.rd CK_GATESTAT.REFUSED = s.rd CK_GATESTAT.REFUSED ∧ exec (.gateClose mask) s = .next u)

/-- R407. A close that waits stops its island's clock once the handshakes are idle; or by force, which sets FORCED and
brings one INFO fault for each master with an access in flight (which access that was is a free value); without a
close that waits neither does anything. Clearing a bit opens the island again. R383, R418, R490. A regulator takes the
parts of the written word that are not 0, and port 0 has none; VPE entering its range drives every PE pair to 0 until
a reset releases the latch, and below its range every pair is at high impedance; LANE_SLIP, LANE_SYMLOCK and
LANE_COUNT_CLEAR act on the registers of their lane alone (the symbol after a slip is a free value). -/
def Obligations.IslandsAndRegulators : Prop :=
  (∀ (i : Fin 19) (mask : BitVec 19) (masters : List (BitVec 8)) (s : State),
      (bit s.clk.closing i = true →
        ∃ t, exec (.gateHandshakeIdle i) s = .next t ∧ t.gated i = true ∧ bit t.clk.closing i = false
          ∧ (∀ j < 19, j ≠ i.val → t.gated j = s.gated j) ∧ t.sameMemory s ∧ t.sameUnits s)
      ∧ (bit s.clk.closing i = true →
        ∃ (v : State) (access addr : Nat), exec (.gateForceTimeout i masters) s
            = .next (v.takeFaults (masters.map (fun m => infoMsg (masterUnit m.toNat) 0x01 access m.toNat addr)))
          ∧ v.gated i = true ∧ v.rd CK_GATESTAT.FORCED = 1 ∧ v.sameMemory s ∧ v.sameUnits s)
      ∧ (bit s.clk.closing i = false →
        exec (.gateHandshakeIdle i) s = .next s ∧ exec (.gateForceTimeout i masters) s = .next s)
      ∧ (∃ t, exec (.gateOpen mask) s = .next t
          ∧ (∀ j < 19, t.gated j = (s.gated j && !bit mask.toNat j)
            ∧ bit (t.rd CK_GATE.CLOSE) j = (bit (s.rd CK_GATE.CLOSE) j && !bit mask.toNat j))
          ∧ t.sameMemory s ∧ t.sameUnits s))
  ∧ (∀ (s : State) (p : Fin 7) (v : BitVec 32) (l : Fin 16) (b : Bool),
      let part (f : Field) (x : Nat) : Nat := if x = 0 then s.rd f 0 p else x
      (p ≠ 0 → ∃ t, exec (.regulatorWrite p v) s = .next t ∧ t.rd MC_PORT.RATE 0 p = part MC_PORT.RATE (v.toNat % 1024)
          ∧ t.rd MC_PORT.GCAP 0 p = part MC_PORT.GCAP (v.toNat / 2 ^ 10 % 1024)
          ∧ t.rd MC_PORT.BURST 0 p = part MC_PORT.BURST (v.toNat / 2 ^ 20 % 256)
          ∧ t.sameRegs s [MC_PORT.RATE.key 0 p, MC_PORT.GCAP.key 0 p, MC_PORT.BURST.key 0 p] ∧ t.sameMemory s ∧ t.sameUnits s)
      ∧ (p = 0 → exec (.regulatorWrite p v) s = .next s)
      ∧ (∃ t, exec .vpeEntersRange s = .next t ∧ (∀ f u, t.pePair f u = some false) ∧ t.sameRegs s [] ∧ t.sameUnits s)
      ∧ (∃ t, exec .vpeBelowRange s = .next t ∧ (∀ f u, t.pePair f u = none) ∧ t.sameRegs s [] ∧ t.sameUnits s)
      ∧ (∃ t, exec (.laneSlip l) s = .next t ∧ t.rd HL_LnCTL.SLIP 0 l = 0 ∧ t.rd HL_LnRAW.SYM 0 l < 1024
          ∧ t.sameRegs s [HL_LnCTL.SLIP.key 0 l, HL_LnRAW.SYM.key 0 l] ∧ t.sameMemory s ∧ t.sameUnits s)
      ∧ (∃ t, exec (.laneSymlock l b) s = .next t ∧ t.rd HL_LnCTL.SYMLOCK 0 l = b2n b ∧ t.sameRegs s [HL_LnCTL.SYMLOCK.key 0 l]
          ∧ t.sameMemory s ∧ t.sameUnits s)
      ∧ (∃ t, exec (.laneCountClear l) s = .next t ∧ t.rd HL_LnCNT.COMMA 0 l = 0 ∧ t.rd HL_LnCNT.CODEERR 0 l = 0
          ∧ t.sameRegs s [HL_LnCNT.COMMA.key 0 l, HL_LnCNT.CODEERR.key 0 l] ∧ t.sameMemory s ∧ t.sameUnits s))

/-! ## The host link (15) -/

/-- R379–R384, R391, R393. Bring-up, once step 6 of start-up is done and outside CLOCK_HOLD, with every lane that is in meeting
a stage's condition: DETECT leads to TRAIN, TRAIN to LOCK, LOCK to CAPS where a reference lane has locked and to RECOVERY where
none has; with none meeting it, to RECOVERY; CAPS after a valid CAPS frame at rate 0 to ACTIVE, at a higher one to a rate step;
a rate step or retrain first to its LOCK part, then to ACTIVE at its rate. A timeout of a stage ends in RECOVERY, from which
bring-up starts again in DETECT. -/
def Obligations.LinkBringUpStages : Prop :=
  ∀ (pass : BitVec 16) (s : State), 6 ≤ s.clk.boot → s.on CK_MON.HOLD = false → s.link.lanesIn < 65536 →
    let stage := s.rd HL_STAT.STAGE
    let all := ∀ l < 16, bit s.link.lanesIn l = true → bit pass.toNat l = true
    let goes (n : Nat) : Prop := ∃ t, exec (.linkBringupStage pass) s = .next t ∧ t.rd HL_STAT.STAGE = n
    (s.link.lanesIn ≠ 0 → all →
      (stage = 0 → ∃ t, exec (.linkBringupStage pass) s = .next t ∧ t.rd HL_STAT.STAGE = 1
          ∧ (∀ l < 16, t.rd HL_LnSTAT.DET 0 l = b2n (bit s.link.lanesIn l)))
      ∧ (stage = 1 → goes 2)
      ∧ (∀ l, stage = 2 → s.chooseReference = some l →
          ∃ t, exec (.linkBringupStage pass) s = .next t ∧ t.rd HL_STAT.STAGE = 3 ∧ t.rd HL_STAT.REFLANE = l % 4)
      ∧ (stage = 2 → s.chooseReference = none → goes 5))
    ∧ ((∀ l < 16, bit s.link.lanesIn l = true → bit pass.toNat l = false) → stage < 3 → goes 5)
    ∧ (stage = 3 → s.link.capsIn = true → s.link.chosen = 0 →
        ∃ t, exec (.linkBringupStage pass) s = .next t ∧ t.linkUp = true ∧ t.rd HL_STAT.RATE = 0
          ∧ t.rd HL_STAT.WIDTH = ones 16 s.link.lanesIn)
    ∧ (stage = 3 → s.link.capsIn = true → s.link.chosen ≠ 0 →
        ∃ t, exec (.linkBringupStage pass) s = .next t ∧ t.rd HL_STAT.STAGE = 6 ∧ t.link.newRate = s.link.chosen)
    ∧ (stage = 3 → s.link.capsIn = false → exec (.linkBringupStage pass) s = .next s)
    ∧ (stage = 6 ∨ stage = 7 → bit pass.toNat (s.rd HL_STAT.REFLANE) = true → all →
        (s.link.locking = false → ∃ t, exec (.linkBringupStage pass) s = .next t ∧ t.link.locking = true
          ∧ t.rd HL_STAT.STAGE = stage)
        ∧ (s.link.locking = true → ∃ t, exec (.linkBringupStage pass) s = .next t ∧ t.linkUp = true
          ∧ t.rd HL_STAT.RATE = s.link.newRate % 2 ^ HL_STAT.RATE.w))
    ∧ (stage ≤ 3 → ∃ t, exec .linkStageTimeout s = .next t ∧ t.rd HL_STAT.STAGE = 5)
    ∧ (stage = 5 → ∃ t, exec .linkRecoveryRestart s = .next t ∧ t.rd HL_STAT.STAGE = 0)
    ∧ (stage ≠ 5 → exec .linkRecoveryRestart s = .next s)

/-- R381, R384, R391, R393. A CAPS frame in CAPS sets the peer registers and chooses the rate. From ACTIVE a retrain
is counted and trains at the current rate, a RATE frame trains at the rate it names and clears ALIGNED, and a failed
reference lane restarts bring-up; a retrain or rate step that times out restarts it too. Where a failed lane or a rate
step's timeout is a new loss of the reference while CK_INT is not ready, the device enters CLOCK_HOLD instead. Away
from their stage these events do nothing. R393, R394. EYE_SCAN of a lane in service, with no other scan under way,
delivers 16,672 bytes (the counts are free values); LINK_RATE answers, then starts the rate step, or at the current
rate a retrain. -/
def Obligations.LinkChangesAndCommands : Prop :=
  (∀ (h : RxHead) (p : Bytes) (s : State),
      let stage := s.rd HL_STAT.STAGE
      let holds := s.newLoss = true ∧ s.ready 25 = false
      (∀ (ver : BitVec 16) (maxrate rate : BitVec 8) (rest : Bytes),
        let c := capsPayload ver maxrate rate rest
        headClean h 0x30 c = true → headFormed h c = true → c.length = 32 → field c 7 1 = 0 → field c 20 12 = 0 →
        stage = 3 → field c 0 1 = 1 →
        ∃ t, exec (.caps h ver maxrate rate rest) s = .next t ∧ t.link.capsIn = true
          ∧ t.link.chosen = min (min rate.toNat maxrate.toNat) 2 ∧ t.rd HL_PEER.LANES = field c 4 2 ∧ t.sameMemory s
          ∧ t.sameUnits s)
      ∧ (s.linkUp = true → headClean h 0x31 p = true → headFormed h p = true → p.length = 8 → field p 1 7 = 0 →
        field p 0 1 ≤ 2 →
        ∃ t, exec (.rate h p) s = .next t ∧ t.rd HL_STAT.STAGE = 6 ∧ t.link.newRate = field p 0 1 ∧ t.rd SY_STAT.ALIGNED = 0)
      ∧ (s.linkUp = true → ∃ t, exec .linkRetrain s = .next t ∧ t.rd HL_STAT.STAGE = 7 ∧ t.link.newRate = s.rd HL_STAT.RATE)
      ∧ (s.linkUp = true → ∃ t, exec .referenceLaneFail s = .next t ∧ (¬ holds → t.rd HL_STAT.STAGE = 0)
          ∧ (holds → t.rd CK_MON.HOLD = 1))
      ∧ (s.linkUp = false → exec .linkRetrain s = .next s ∧ exec .referenceLaneFail s = .next s)
      ∧ (stage = 7 → ∃ t, exec .retrainTimeout s = .next t ∧ t.rd HL_STAT.STAGE = 0)
      ∧ (stage ≠ 7 → exec .retrainTimeout s = .next s)
      ∧ (stage = 6 → ∃ t, exec .rateStepTimeout s = .next t ∧ (¬ holds → t.rd HL_STAT.STAGE = 0)
          ∧ (holds → t.rd CK_MON.HOLD = 1))
      ∧ (stage ≠ 6 → exec .rateStepTimeout s = .next s))
  ∧ (∀ (d : Desc) (c : Consumed) (j : Job) (q : Bytes) (s u : State),
      (s.carriesOut 0x0A01 d [] j q u → s.scanRefusal j.cmd.d = none → (∀ x, u.scanning = some x → x.id = j.id) →
        ∃ t report, exec (.eyeScan d) s = .next t ∧ report.length = 16672 ∧ t.delivered u j report (toLe 4 16672)
          ∧ t.sameMemory s ∧ t.sameUnits s)
      ∧ (s.serves 0x0A02 d c u → par c.d 24 1 ≤ 2 → par c.d 24 1 ≤ s.rd HL_PEER.MAXRATE → s.linkUp = true →
        s.scanning = none → s.rateRefused = false →
        ∃ t, exec (.linkRate d) s = .next t ∧ t.answered s c ok []
          ∧ (par c.d 24 1 ≠ s.rd HL_STAT.RATE → t.rd HL_STAT.STAGE = 6 ∧ t.link.newRate = par c.d 24 1)
          ∧ (par c.d 24 1 = s.rd HL_STAT.RATE → t.rd HL_STAT.STAGE = 7)))

/-- R390, R391. An ACK releases the frames up to the one it names; frames that waited may follow the rest. At a resend
timeout with frames kept every one is sent again and the round is counted, without changing its number, type, tag or
payload; after 8 rounds without progress the link retrains instead. R387. A DMACPL in order, without error, with the
data of an outstanding request gives its job that data; where no started job wants more, its request is the only one
gone. One for a tag without a request is discarded. A request without its completion ends its job with ABORTED. -/
def Obligations.FramesAreDelivered : Prop :=
  (∀ (h : RxHead) (fseq : BitVec 16) (s : State), s.linkUp = true →
      (∀ before f rest, s.link.unacked = before ++ f :: rest → (∀ g ∈ before, g.fseq ≠ f.fseq) → fseq.toNat = f.fseq →
        headClean h 0x3E (ackPayload fseq [0, 0]) = true → headFormed h (ackPayload fseq [0, 0]) = true →
        ∃ t more, exec (.ack h fseq [0, 0]) s = .next t ∧ t.link.unacked = rest ++ more ∧ (s.link.waiting = [] → more = [])
          ∧ t.link.resends = 0 ∧ t.sameRegs s [] ∧ t.sameMemory s ∧ t.sameUnits s)
      ∧ (s.link.unacked ≠ [] → s.link.resends < 8 →
        ∃ t, exec .resendTimeout s = .next t
          ∧ t.link.unacked.map (fun x => (x.type, x.fseq, x.tag, x.payload))
            = s.link.unacked.map (fun x => (x.type, x.fseq, x.tag, x.payload))
          ∧ t.link.resends = s.link.resends + 1 ∧ t.sameRegs s [HL_ERR.RESEND.key 0 0] ∧ t.sameMemory s ∧ t.sameUnits s)
      ∧ (s.link.unacked ≠ [] → 8 ≤ s.link.resends → ∃ t, exec .resendTimeout s = .next t ∧ t.rd HL_STAT.STAGE = 7)
      ∧ (s.link.unacked = [] → exec .resendTimeout s = .next s))
  ∧ (∀ (h : RxHead) (data : Bytes) (tag : Fin 64) (s : State),
      (s.linkUp = true → headClean h 0x12 data = true → headFormed h data = true → h.fseq.toNat = s.link.rxSeq →
        (∀ r j, s.mbx.reqs.find? (fun r => r.tag == h.tag.toNat) = some r → s.job r.job = some j → data.length = r.len →
          ∃ t k, exec (.dmacpl h data) s = .next t ∧ t.job r.job = some k ∧ k.data = Tab.insert j.data r.off data
            ∧ k.cmd = j.cmd ∧ t.sameRegs s [] ∧ t.sameMemory s ∧ t.sameUnits s
            ∧ ((∀ x ∈ s.mbx.jobs, x.started = true → x.cmd.d.length.toNat ≤ x.want) →
              t.mbx.reqs = s.mbx.reqs.filter (fun x => x.tag != h.tag.toNat)))
        ∧ (s.mbx.reqs.find? (fun r => r.tag == h.tag.toNat) = none →
          ∃ t, exec (.dmacpl h data) s = .next t ∧ t.mbx = s.mbx ∧ t.sameRegs s [] ∧ t.sameMemory s ∧ t.sameUnits s))
      ∧ (∀ r j, s.mbx.reqs.find? (fun r => r.tag == tag.val) = some r → s.job r.job = some j →
        ∃ t, exec (.dmaTimeout tag) s = .next t ∧ t.concluded j aborted [] ∧ (∀ x ∈ t.mbx.jobs, x.id ≠ r.job)
          ∧ t.sameMemory s)
      ∧ (s.mbx.reqs.find? (fun r => r.tag == tag.val) = none → exec (.dmaTimeout tag) s = .next s))

/-! ## Faults and memory (17, 18) -/

/-- R445, R449, R451, R452, R455, Table 18-8. FAULT_READ with room for it delivers the report, 80 bytes and 8 for each
fenced unit. FAULT_CLEAR empties what its mask names and nothing else. FAULT_UNFENCE of a fenced unit other than a
sequencer with a mask ROM error clears its permanent flag and recovery count and starts its self-check. FAULT_POLICY
sets quiet period and limit. R437, R445, R447, R456. A message that arrives alone, whose kind brings no reaction or
that is only logged: the first one after a clear becomes the first-error record with the time of its arrival, a later
one counts in that record's word 6 unless the record holds an injected fault; MAXSEV keeps the highest severity.
FAULT_INJECT takes the message of FC_INJ, marked as injected, in factory test boot, and is ignored in any other boot
mode. -/
def Obligations.FaultCollectorActs : Prop :=
  (∀ (d : Desc) (c : Consumed) (j : Job) (q : Bytes) (s u : State),
      (s.carriesOut 0x0600 d [] j q u → 80 + 8 * (List.range 736).countP s.fenced ≤ j.cmd.d.length.toNat →
        ∃ t, exec (.faultRead d) s = .next t ∧ s.faultReport.length = 80 + 8 * (List.range 736).countP s.fenced
          ∧ t.delivered u j s.faultReport (toLe 4 s.faultReport.length) ∧ t.sameMemory s ∧ t.sameUnits s)
      ∧ (s.serves 0x0601 d c u → par c.d 24 1 ≤ 3 →
        ∃ t, exec (.faultClear d) s = .next t ∧ t.answered s c ok []
          ∧ (bit (par c.d 24 1) 0 = true → t.rd FC_STAT.FEVALID = 0 ∧ t.rd FC_STAT.MAXSEV = 0 ∧ ∀ k < 8, t.rd FC_FE.DATA 0 k = 0)
          ∧ (bit (par c.d 24 1) 0 = false → t.rd FC_STAT.FEVALID = s.rd FC_STAT.FEVALID ∧ t.rd FC_STAT.MAXSEV = s.rd FC_STAT.MAXSEV
            ∧ ∀ k < 8, t.rd FC_FE.DATA 0 k = s.rd FC_FE.DATA 0 k)
          ∧ (bit (par c.d 24 1) 1 = true → t.rd FC_STAT.COVALID = 0 ∧ t.rd FC_COINCN.COUNT = 0 ∧ ∀ k < 8, t.rd FC_CO.DATA 0 k = 0)
          ∧ (bit (par c.d 24 1) 1 = false → t.rd FC_STAT.COVALID = s.rd FC_STAT.COVALID
            ∧ t.rd FC_COINCN.COUNT = s.rd FC_COINCN.COUNT ∧ ∀ k < 8, t.rd FC_CO.DATA 0 k = s.rd FC_CO.DATA 0 k)
          ∧ t.sameMemory s ∧ t.sameUnits s)
      ∧ (s.serves 0x0602 d c u → let x := par c.d 24 2
        x < 736 → s.fenced x = true → s.faults.romFault.contains x = false →
        ∃ t, exec (.faultUnfence d) s = .next t ∧ t.answered s c ok [] ∧ t.rd FC_UNIT.PERM 0 x = 0
          ∧ t.rd FC_UNIT.RECOV 0 x = 0 ∧ t.rd FC_UNIT.CHECK 0 x = 1
          ∧ t.sameRegs s [FC_UNIT.PERM.key 0 x, FC_UNIT.RECOV.key 0 x, FC_UNIT.CHECK.key 0 x, HW_RSP_PROD.PROD.key 0 d.ctx]
          ∧ t.sameMemory s ∧ t.sameUnits s)
      ∧ (s.serves 0x0603 d c u → 10 ≤ par c.d 24 4 → par c.d 24 4 ≤ 600000 → par c.d 28 1 ≠ 0 →
        ∃ t, exec (.faultPolicy d) s = .next t ∧ t.answered s c ok [] ∧ t.rd FC_POLICY.QUIET = par c.d 24 4
          ∧ t.rd FC_LIMIT.LIMIT = par c.d 28 1
          ∧ t.sameRegs s [FC_POLICY.QUIET.key 0 0, FC_LIMIT.LIMIT.key 0 0, HW_RSP_PROD.PROD.key 0 d.ctx] ∧ t.sameMemory s
          ∧ t.sameUnits s))
  ∧ (∀ (m : FaultMsg) (lo : Bool) (s : State),
      (m.logOnly = true ∨ (m.sev.toNat < 4 ∧ [0x10, 0x23, 0x30, 0x70, 0x71, 0x80, 0x81].contains m.kind.toNat = false
          ∧ (m.kind.toNat = 0x21 → m.sev.toNat ≠ 3)) →
        (s.on FC_STAT.FEVALID = false →
          ∃ t, exec (.faultMessage [m]) s = .next t ∧ t.rd FC_STAT.FEVALID = 1
            ∧ t.rd FC_STAT.MAXSEV = max (s.rd FC_STAT.MAXSEV) m.sev.toNat % 8
            ∧ (∀ k < 8, t.rd FC_FE.DATA 0 k = bits (faultWord m s.tt + s.tt % 2 ^ 64 * 2 ^ 128) (32 * k) 32)
            ∧ t.sameMemory s ∧ t.sameUnits s)
        ∧ (s.on FC_STAT.FEVALID = true → s.firstInjected = false →
          ∃ t, exec (.faultMessage [m]) s = .next t ∧ t.rd FC_FE.DATA 0 6 = satAdd 32 (s.rd FC_FE.DATA 0 6) 1
            ∧ (∀ k < 6, t.rd FC_FE.DATA 0 k = s.rd FC_FE.DATA 0 k) ∧ t.rd FC_STAT.COVALID = s.rd FC_STAT.COVALID
            ∧ t.rd FC_STAT.MAXSEV = max (s.rd FC_STAT.MAXSEV) m.sev.toNat % 8 ∧ t.sameMemory s ∧ t.sameUnits s))
      ∧ (s.rd SC_STAT.BOOT ≠ 2 → exec (.faultInject lo) s = .next s)
      ∧ (s.rd SC_STAT.BOOT = 2 →
        let v := s.rd FC_INJ.WORD 0 0 + s.rd FC_INJ.WORD 0 1 * 2 ^ 32 + s.rd FC_INJ.WORD 0 2 * 2 ^ 64
        ∃ x : FaultMsg, exec (.faultInject lo) s = .next ((s.flag FC_INJCTL.LOGONLY lo).takeFaults [x]) ∧ x.inj = true
          ∧ x.logOnly = lo ∧ x.source.toNat = v % 1024 ∧ x.kind.toNat = v / 2 ^ 10 % 256 ∧ x.sev.toNat = v / 2 ^ 18 % 8
          ∧ x.access.toNat = v / 2 ^ 21 % 8 ∧ x.master.toNat = v / 2 ^ 24 % 256 ∧ x.address.toNat = v / 2 ^ 32 % 2 ^ 40))

/-- R449, R450, R453, Table 18-5. A fenced unit whose fence is not permanent starts its self-check after its quiet period; a
passed check unfences it and raises its recovery count, a failed one leaves it fenced; an unfencing that ages out lowers the
count. A control core that fails is fenced, and service goes to the other if that is in service, or ends. -/
def Obligations.FencesComeAndGo : Prop :=
  ∀ (x : Fin 736) (core : Fin 2) (s : State),
    (let ready := s.fenced x = true ∧ s.on FC_UNIT.PERM 0 x = false ∧ s.on FC_UNIT.CHECK 0 x = false
        ∧ s.faults.romFault.contains x.val = false;
      (ready → ∃ t, exec (.quietExpiry x) s = .next t ∧ t.rd FC_UNIT.CHECK 0 x = 1
        ∧ t.tt = max s.tt (Tab.get 0 s.faults.quiet x - s.epoch)
        ∧ t.sameRegs s [FC_UNIT.CHECK.key 0 x] ∧ t.sameMemory s ∧ t.sameUnits s)
      ∧ (¬ ready → exec (.quietExpiry x) s = .next s))
    ∧ (s.fenced x = true → s.on FC_UNIT.CHECK 0 x = true →
      (∃ t, exec (.selfcheckDone x true) s = .next t ∧ t.fenced x = false ∧ t.rd FC_UNIT.CHECK 0 x = 0
        ∧ t.rd FC_UNIT.RECOV 0 x = satAdd 8 (s.rd FC_UNIT.RECOV 0 x) 1 ∧ t.sameMemory s)
      ∧ (∃ t, exec (.selfcheckDone x false) s = .next t ∧ t.fenced x = true ∧ t.rd FC_UNIT.CHECK 0 x = 0 ∧ t.sameMemory s
        ∧ t.sameUnits s))
    ∧ (∀ pass, s.fenced x = false ∨ s.on FC_UNIT.CHECK 0 x = false → exec (.selfcheckDone x pass) s = .next s)
    ∧ (∀ y ys, Tab.find s.faults.unfenced x = some (y :: ys) →
      ∃ t, exec (.recoveryCountAgeOut x) s = .next t ∧ t.rd FC_UNIT.RECOV 0 x = (s.rd FC_UNIT.RECOV 0 x - 1) % 256
        ∧ t.tt = max s.tt (y + 11520000000000 - s.epoch) ∧ Tab.find t.faults.unfenced x = some ys
        ∧ t.sameRegs s [FC_UNIT.RECOV.key 0 x] ∧ t.sameMemory s ∧ t.sameUnits s)
    ∧ (s.fenced (692 + core.val) = false →
      ∃ t, exec (.coreFail core) s = .next t ∧ t.fenced (692 + core.val) = true
        ∧ (s.rd HW_STATUS.ACTIVE = core.val → s.fenced (692 + (1 - core.val)) = false →
            t.rd HW_STATUS.ACTIVE = 1 - core.val ∧ t.mbx.visit = 0)
        ∧ (s.fenced (692 + (1 - core.val)) = true → t.rd HW_STATUS.MBRDY = 0))

/-- R421–R430. A refresh moves a delay code by one step towards the code that is wanted, if one is. The scrubber counts a
corrected word, and counts and records an uncorrectable one; its last word ends the pass. A sweep with one working code asks for
it and one with none fences the pseudo-channel. A swept, unfenced pseudo-channel rejoins a group without allocations, of whose
region alone the contents become undefined; another does not rejoin. -/
def Obligations.MemoryMaintenance : Prop :=
  ∀ (k : Fin 64) (s : State),
    (∀ w, Tab.find s.mem.wantCode k = some w → w < 32 → s.rd MC_PC.CODE 0 k < 32 →
      ∃ t, exec (.refresh k) s = .next t
        ∧ t.rd MC_PC.CODE 0 k
          = (if s.rd MC_PC.CODE 0 k < w then s.rd MC_PC.CODE 0 k + 1
             else if w < s.rd MC_PC.CODE 0 k then s.rd MC_PC.CODE 0 k - 1 else w)
        ∧ t.sameRegs s [MC_PC.CODE.key 0 k] ∧ t.sameMemory s ∧ t.sameUnits s)
    ∧ (Tab.find s.mem.wantCode k = none → exec (.refresh k) s = .next s)
    ∧ (∀ a : BitVec 36, a.toNat < 0xBFFFFFFF8 →
      exec (.memScrub a 0) s = .next s
      ∧ (∃ t, exec (.memScrub a 1) s = .next t
          ∧ t.rd MC_ECC.CORR 0 (s.pcOf a.toNat) = satAdd 24 (s.rd MC_ECC.CORR 0 (s.pcOf a.toNat)) 1 ∧ t.sameMemory s ∧ t.sameUnits s)
      ∧ (∃ t, exec (.memScrub a 2) s = .next t ∧ t.rd MC_SCRUB.UEVALID = 1 ∧ t.rd MC_SCRUBADDR.ADDR = a.toNat / 16
          ∧ t.rd MC_ECC.UNCORR 0 (s.pcOf a.toNat) = satAdd 8 (s.rd MC_ECC.UNCORR 0 (s.pcOf a.toNat)) 1 ∧ t.sameMemory s
          ∧ t.sameUnits s))
    ∧ (∀ a : BitVec 36, 0xBFFFFFFF8 ≤ a.toNat →
      ∃ t, exec (.memScrub a 0) s = .next t ∧ t.mem.scrubStart = s.age
        ∧ t.rd MC_SCRUB.PASSTIME = min 65535 ((s.age - s.mem.scrubStart) / 3200000000)
        ∧ t.sameRegs s [MC_SCRUB.PASSTIME.key 0 0] ∧ t.sameMemory s ∧ t.sameUnits s)
    ∧ (∀ i < 17, 8 ≤ s.rd MC_PC.CODE 0 k + i →
      ∃ t, exec (.delaySweep k (BitVec.ofNat 17 (2 ^ i))) s = .next t
        ∧ Tab.find t.mem.wantCode k = some (s.rd MC_PC.CODE 0 k + i - 8) ∧ t.mem.swept.contains k.val = true ∧ t.sameMemory s
        ∧ (s.mem.sweepDue.contains k.val = false → t.rd MC_PC.SWEEP 0 k = 0))
    ∧ (∃ t, exec (.delaySweep k 0) s = .next t ∧ t.fenced (596 + k.val) = true
        ∧ (s.mem.sweepDue.contains k.val = false → t.rd MC_PC.SWEEP 0 k = 0))
    ∧ (let fit := s.on MC_PC.FENCED 0 k = true ∧ s.fenced (596 + k.val) = false ∧ s.mem.swept.contains k.val = true
        ∧ s.allocsIn (k.val / 4) = []
      (fit → ∃ t, exec (.pcRejoin k) s = .next t ∧ t.rd MC_PC.FENCED 0 k = 0 ∧ t.sameRegs s [MC_PC.FENCED.key 0 k]
        ∧ (∀ a, (a < k.val / 4 * regionSize ∨ (k.val / 4 + 1) * regionSize ≤ a) → t.vmem.read a = s.vmem.read a)
        ∧ t.pad = s.pad ∧ t.cap = s.cap ∧ t.sameUnits s)
      ∧ (¬ fit → exec (.pcRejoin k) s = .next s))

/-! ## Security and update (12, 19) -/

/-- R333–R337, R459, R462–R464, R468. Signed commands that pass their checks. ATTEST delivers 2,140 bytes and uses up one leaf of
its key; CAL_SEAL_READ delivers 6,652 and with the seal key present uses up one of that. KEY_PROVISION installs an owner key,
raises the owner sequence number and leaves a seal key present, or revokes a vendor slot; ALARM_POLICY sets the policy, raises
the number, and clears LOCKED if asked; CAL_SEAL_WRITE puts a new sealed record in force, keeps the one before and raises the
seal counter. -/
def Obligations.SignedCommandsAct : Prop :=
  ∀ (d : Desc) (p : Bytes) (v : Verdict) (j : Job) (q : Bytes) (s u : State),
    (s.carriesOut 0x0105 d [] j q u → 2140 ≤ j.cmd.d.length.toNat → s.rd SC_LMSREM_ID.LEFT ≠ 0 →
      ∃ t report, exec (.attest d) s = .next t ∧ report.length = 2140 ∧ t.delivered u j report (toLe 4 2140)
        ∧ t.rd SC_LMSREM_ID.LEFT = (s.rd SC_LMSREM_ID.LEFT - 1) % 2 ^ 32 ∧ t.sameMemory s ∧ t.sameUnits s)
    ∧ (s.carriesOut 0x0504 d [] j q u → 6652 ≤ j.cmd.d.length.toNat →
        (s.on CA_STAT.KEYLOST = true ∨ s.rd SC_LMSREM_SEAL.LEFT ≠ 0) →
      ∃ t report, exec (.calSealRead d) s = .next t ∧ report.length = 6652
        ∧ t.delivered u j report (toLe 4 (s.rd CA_SEALCNT.COUNT)) ∧ t.sameMemory s ∧ t.sameUnits s
        ∧ (s.on CA_STAT.KEYLOST = false → t.rd SC_LMSREM_SEAL.LEFT = (s.rd SC_LMSREM_SEAL.LEFT - 1) % 2 ^ 32)
        ∧ (s.on CA_STAT.KEYLOST = true → t.rd SC_LMSREM_SEAL.LEFT = s.rd SC_LMSREM_SEAL.LEFT))
    ∧ (∀ cls, s.carriesOut 0x0705 d p j q u → s.locked = false → s.recordOk q = true →
        s.recordSigner q = some cls → s.verify q 192 3 cls v = none →
      (field q 1 1 = 1 → ∃ t, exec (.keyProvision d p v) s = .next t ∧ t.completed u j [] ∧ t.rd SC_STAT.OWNER = 1
        ∧ t.sec.ownerKey = (q.drop 24).take 153 ∧ t.rd SC_OWNSEQ.SEQ = (s.rd SC_OWNSEQ.SEQ + 1) % 2 ^ 32
        ∧ t.rd SC_STAT.SEALKEY = 1 ∧ t.sameMemory s ∧ t.sameUnits s)
      ∧ (field q 1 1 = 2 → ∃ t, exec (.keyProvision d p v) s = .next t ∧ t.completed u j []
        ∧ bit (t.rd SC_STAT.REVOKED) (field q 20 1) = true ∧ t.rd SC_OWNSEQ.SEQ = s.rd SC_OWNSEQ.SEQ ∧ t.sameMemory s
        ∧ t.sameUnits s))
    ∧ (s.carriesOut 0x0706 d p j q u → par j.cmd.d 24 1 ≤ 2 → field q 1 1 = par j.cmd.d 24 1 → field q 0 1 = 1 →
        field q 2 1 ≤ 1 → zeroAt q 3 1 = true → dieIdOk q 4 = true → s.on SC_STAT.OWNER = true →
        field q 16 4 = s.rd SC_OWNSEQ.SEQ → s.verify q 20 5 2 v = none →
      ∃ t, exec (.alarmPolicy d p v) s = .next t ∧ t.completed u j [] ∧ t.rd SC_STAT.POLICY = par j.cmd.d 24 1
        ∧ t.rd SC_OWNSEQ.SEQ = (s.rd SC_OWNSEQ.SEQ + 1) % 2 ^ 32
        ∧ t.rd SC_STAT.LOCKED = (if field q 2 1 = 1 then 0 else s.rd SC_STAT.LOCKED) ∧ t.sameMemory s ∧ t.sameUnits s)
    ∧ (s.carriesOut 0x0505 d p j q u → s.locked = false → (∀ i < 64, s.busySite i = false) →
        s.calibrating = false → bodyOk (q.take 4800) = true → q.length ∈ [6420, 6580, 6740] →
        field q 4800 4 = s.rd CA_SEALCNT.COUNT → s.rd CA_SEALCNT.COUNT ≠ 0xFFFFFFFF → s.on SC_STAT.OWNER = true →
        (q.drop 4804).take 52 = digest (withSealCount (q.take 4800) 0) ++ toLe 4 (s.rd CA_SEALCNT.COUNT) →
        s.verify (q.drop 4804) 52 4 2 v = none →
      ∃ t, exec (.calSealWrite d p v) s = .next t ∧ t.completed u j (toLe 4 (s.rd CA_SEALCNT.COUNT + 1))
        ∧ t.rd CA_SEALCNT.COUNT = s.rd CA_SEALCNT.COUNT + 1 ∧ t.rd CA_STAT.SEALOK = 1
        ∧ t.cal.record = some (withSealCount (q.take 4800) (s.rd CA_SEALCNT.COUNT + 1)) ∧ t.cal.older = s.cal.record
        ∧ t.sameMemory s ∧ t.sameUnits s)

/-- R470–R476. While no activation is under way. UPDATE_OPEN of a verified manifest opens a session (COMPLETE where the image is
there already), or names the open session of that image; a matching UPDATE_CHUNK that is not there yet is stored at its place
in the staging slot and marked, and one that is there changes nothing in it; UPDATE_STATUS reports, zeros without a session;
UPDATE_ABANDON by the session's opener ends it; UPDATE_ACTIVATE of a complete, sound image that may be activated starts the
activation, and its job goes on. -/
def Obligations.UpdateSessionCommands : Prop :=
  ∀ (d : Desc) (p : Bytes) (v : Verdict) (c : Consumed) (j : Job) (q : Bytes) (s u : State),
    s.rd SC_STAT.SESSION ≠ 3 → s.sec.act = none →
    (s.carriesOut 0x0700 d p j q u → s.locked = false →
        s.verify q (112 + 48 * field q 18 2) 1 1 v = none → s.manifestOk q = true → s.rd SC_MINSVN.MIN ≤ field q 8 4 →
      (s.sec.session = none →
        let n := if s.sec.prev.any (fun i => i.dig == (manifestImage q).dig) then 2 else 1
        ∃ t x, exec (.updateOpen d p v) s = .next t ∧ t.sec.session = some x ∧ x.img = manifestImage q
          ∧ t.rd SC_STAT.SESSION = n ∧ t.rd SC_SESS.OPENER = j.cmd.d.ctx.val ∧ t.completed u j (toLe 1 n) ∧ t.sameMemory s
          ∧ t.sameUnits s)
      ∧ (∀ x, s.sec.session = some x → x.img.dig = (manifestImage q).dig →
        ∃ t, exec (.updateOpen d p v) s = .next t ∧ t.sec.session = some { x with idle := 0 }
          ∧ t.completed u j (toLe 1 (s.rd SC_STAT.SESSION)) ∧ t.sameMemory s ∧ t.sameUnits s))
    ∧ (∀ x, s.carriesOut 0x0701 d p j q u → s.locked = false → s.sec.session = some x →
        let k := par j.cmd.d 24 4
        k < x.img.nchunk → x.img.nchunk ≤ 96 → q.length = x.img.chunkLen k → digest q = x.img.chunks.getD k [] →
      (bit x.bitmap k = false →
        ∃ t y, exec (.updateChunk d p) s = .next t ∧ t.sec.session = some y ∧ y.img = x.img ∧ bit y.bitmap k = true
          ∧ t.sec.staging.readN (65536 * k) q.length = q
          ∧ (∀ a, (a < 65536 * k ∨ 65536 * k + q.length ≤ a) → t.sec.staging.read a = s.sec.staging.read a)
          ∧ (y.received = x.img.nchunk → t.rd SC_STAT.SESSION = 2)
          ∧ t.completed u j (toLe 4 (x.img.nchunk - y.received)) ∧ t.sameMemory s ∧ t.sameUnits s)
      ∧ (bit x.bitmap k = true →
        ∃ t, exec (.updateChunk d p) s = .next t ∧ t.sec.session = some { x with idle := 0 } ∧ t.sec.staging = s.sec.staging
          ∧ t.completed u j (toLe 4 (x.img.nchunk - x.received)) ∧ t.sameMemory s ∧ t.sameUnits s))
    ∧ (∀ x, s.serves 0x0702 d c u → s.sec.session = some x → x.img.nchunk ≤ 96 →
      ∃ t, exec (.updateStatus d) s = .next t ∧ t.sec.session = some { x with idle := 0 }
        ∧ t.answered s c ok (toLe 1 (s.rd SC_STAT.SESSION) ++ zeros 3 ++ toLe 4 x.received ++ toLe 4 x.img.nchunk)
        ∧ t.sameMemory s ∧ t.sameUnits s)
    ∧ (s.serves 0x0702 d c u → s.sec.session = none →
      ∃ t, exec (.updateStatus d) s = .next t ∧ t.sec.session = none ∧ t.answered s c ok (zeros 12) ∧ t.sameMemory s
        ∧ t.sameUnits s)
    ∧ (s.serves 0x0703 d c u → s.sec.session.isSome = true → c.d.ctx.val = s.rd SC_SESS.OPENER →
      ∃ t, exec (.updateAbandon d) s = .next t ∧ t.answered s c ok [] ∧ t.sec.session = none ∧ t.rd SC_STAT.SESSION = 0
        ∧ t.sameMemory s ∧ t.sameUnits s)
    ∧ (∀ x, s.carriesOut 0x0704 d [] j q u → s.sec.session = some x → s.rd SC_STAT.SESSION = 2 → s.locked = false →
        s.rd SC_MINSVN.MIN ≤ x.img.svn → s.fenced (692 + (1 - s.rd HW_STATUS.ACTIVE)) = false → s.sec.standbyDown = false →
        s.badChunks x.img = [] → v.ecdsa = true → v.lms = true → digest (s.sec.staging.readN 0 x.img.ilen) = x.img.dig →
        (s.on SY_STAT.RINGUP = false ∨ (x.img.rmin ≤ s.rd SY_VER.CURV ∧ s.rd SY_VER.CURV ≤ x.img.rmax)) →
      ∃ t, exec (.updateActivate d v) s = .next t ∧ t.rd SC_STAT.SESSION = 3 ∧ t.sec.act = some { job := j.id }
        ∧ t.mbx.jobs.map Job.id = u.mbx.jobs.map Job.id ∧ t.sameMemory s ∧ t.sameUnits s)

/-- R465–R467, R474, R477–R479. The first alarm trip of a class halts every running site, takes every PE_EN to 0, counts, and
locks or erases keys by the policy; one within 1 ms of the last of its class only counts. Powered time ages the session, which
expires after 30 days of it (the last minute need not be stored). An activation: the standby becomes ready unless it is fenced;
the commit, once it is ready and no immediate command is in service; the failure before that; the end of the restart. -/
def Obligations.AlarmsAndActivation : Prop :=
  ∀ (cls : Fin 5) (again : Bool) (s : State),
    (Tab.find s.sec.lastTrip (cls + 1) = none →
      ∃ t, exec (.alarmTrip cls again) s = .next t ∧ (∀ i < 64, t.site i ≠ stRunning)
        ∧ (∀ n < 528, t.rd CH_PELIVE.EN n = 0)
        ∧ t.rd SC_ALMCNT.COUNT = satAdd 32 (s.rd SC_ALMCNT.COUNT) 1 ∧ Tab.find t.sec.lastTrip (cls + 1) = some s.age
        ∧ (s.rd SC_STAT.POLICY = 1 → t.locked = true)
        ∧ (s.rd SC_STAT.POLICY = 2 → t.sec.ownerKey = [] ∧ t.sec.sealKey = [] ∧ t.rd SC_STAT.OWNER = 0
            ∧ t.rd SC_STAT.SEALKEY = 0 ∧ t.rd CA_STAT.KEYLOST = 1))
    ∧ (∀ x, Tab.find s.sec.lastTrip (cls + 1) = some x → s.ttRuns = true → s.age < x + 3200000 →
      ∃ t, exec (.alarmTrip cls again) s = .next t ∧ t.rd SC_ALMCNT.COUNT = satAdd 32 (s.rd SC_ALMCNT.COUNT) 1
        ∧ t.sameRegs s [SC_ALMCNT.COUNT.key 0 0] ∧ t.sameMemory s ∧ t.sameUnits s)
    ∧ (∃ t, exec .poweredTimeStore s = .next t ∧ t.sec.powered = s.sec.powered + 60 ∧ t.sameMemory s ∧ t.sameUnits s
        ∧ ∀ x, s.sec.session = some x → t.sec.session = some { x with idle := x.idle + 60 })
    ∧ (∀ x, s.sec.session = some x →
      (2592000 ≤ x.idle + 60 → s.rd SC_STAT.SESSION ≠ 3 →
        ∃ t, exec .sessionExpiry s = .next t ∧ t.sec.session = none ∧ t.rd SC_STAT.SESSION = 0 ∧ t.sameMemory s ∧ t.sameUnits s)
      ∧ (x.idle + 60 < 2592000 ∨ s.rd SC_STAT.SESSION = 3 → exec .sessionExpiry s = .next s))
    ∧ (∀ a, s.sec.act = some a →
      (s.fenced (692 + (1 - s.rd HW_STATUS.ACTIVE)) = false →
        ∃ t, exec .activateStandbyReady s = .next t ∧ t.sec.act = some { a with ready := true } ∧ t.sameRegs s []
          ∧ t.sameMemory s ∧ t.sameUnits s)
      ∧ (∀ x, a.ready = true → s.mbx.imm = [] → s.sec.session = some x → s.rd HW_STATUS.ACTIVE ≤ 1 →
        ∃ t, exec .activateCommit s = .next t ∧ t.sec.act = none ∧ t.sec.active = x.img ∧ t.sec.prev = some s.sec.active
          ∧ t.rd HW_STATUS.ACTIVE = 1 - s.rd HW_STATUS.ACTIVE
          ∧ t.rd SC_MINSVN.MIN = max (s.rd SC_MINSVN.MIN) x.img.floor % 2 ^ 32 ∧ t.sec.session = none
          ∧ t.rd SC_STAT.SESSION = 0 ∧ t.sec.standbyDown = true ∧ t.sameMemory s ∧ t.sameUnits s
          ∧ ∀ j, s.job a.job = some j → t.completed s j [])
      ∧ (∀ x, s.sec.session = some x → (a.ready = false ∨ s.mbx.imm ≠ []) → exec .activateCommit s = .next s)
      ∧ (a.ready = false →
        ∃ t, exec .activateFailed s = .next t ∧ t.sec.act = none ∧ t.rd SC_STAT.SESSION = 2 ∧ t.sameMemory s ∧ t.sameUnits s
          ∧ ∀ j, s.job a.job = some j → t.concluded j activateFailed []
            ∧ t.mbx.jobs = s.mbx.jobs.filter (fun x => x.id != j.id))
      ∧ (a.ready = true → exec .activateFailed s = .next s))
    ∧ (∃ t, exec .standbyRestartDone s = .next t ∧ t.sec.standbyDown = false ∧ t.sameRegs s [] ∧ t.sameMemory s ∧ t.sameUnits s)

/-! ## Measurement units and calibration (09, 12) -/

/-- R250–R262. TIA_ARM that Table 9-3 does not refuse takes the interpolators, calibrates them and arms, or with mode 4 releases
them; TIA_READ delivers and removes the oldest results that fit. An accepted edge starts a measurement in wait of one at its
stamp, within two ticks before the end of charge, or adds its distance from the start as a value; STIME starts a measurement
armed with START 4; a timeout stores one result with status 1 and the end of a gate one with status 0, of 16 results the
oldest goes, and the measurement ends; a re-arm arms again; the expiry of calibration's wait disarms the unit. -/
def Obligations.MeasurementUnitsAct : Prop :=
  ∀ (d : Desc) (c : Consumed) (j : Job) (q : Bytes) (n : Fin 528) (s u : State),
    (s.serves 0x0400 d c u → s.tiaRefusal c.d = none →
      let x := s.tiaUnit (par c.d 24 2)
      (par c.d 26 1 ≠ 4 → ∃ t, exec (.tiaArm d) s = .next t ∧ t.answered s c ok [] ∧ t.rd CH_TIASTAT.STATE x = 2
        ∧ t.rd CH_TIASTAT.OWNER x = 1 ∧ t.rd CH_TIASTAT.REMAIN x = (if par c.d 34 2 = 0 then 0xFFFF else par c.d 34 2)
        ∧ t.rd CH_TIASKIP.SKIP x = 0 ∧ t.rd CH_TIAMISS.MISS x = 0
        ∧ (t.tia x).mode = par c.d 26 1 ∧ (t.tia x).start = par c.d 28 1 ∧ (t.tia x).sedge = par c.d 29 1
        ∧ (t.tia x).pedge = par c.d 30 1 ∧ (t.tia x).nstop = par c.d 31 1 ∧ (t.tia x).timeout = par c.d 36 4
        ∧ (t.tia x).armedAt = s.tt ∧ (t.tia x).calAt = s.tt
        ∧ (t.tia x).startAt = none ∧ (t.tia x).values = [] ∧ t.sameMemory s ∧ t.chans = s.chans)
      ∧ (par c.d 26 1 = 4 → ∃ t, exec (.tiaArm d) s = .next t ∧ t.answered s c ok [] ∧ t.rd CH_TIASTAT.STATE x = 0
        ∧ t.rd CH_TIASTAT.OWNER x = 0 ∧ t.rd CH_TIASTAT.REMAIN x = 0 ∧ t.sameMemory s ∧ t.chans = s.chans))
    ∧ (s.carriesOut 0x0401 d [] j q u → par j.cmd.d 24 2 < 512 → 160 ≤ j.cmd.d.length.toNat →
      let x := s.tiaUnit (par j.cmd.d 24 2)
      let k := min (j.cmd.d.length.toNat / 160) (s.tia x).records.length
      ∃ t, exec (.tiaRead d) s = .next t ∧ t.delivered u j ((s.tia x).records.take k).flatten (toLe 4 k)
        ∧ (t.tia x).records = (s.tia x).records.drop k ∧ t.sameMemory s ∧ t.chans = s.chans)
    ∧ (∀ (low rising : Bool) (ip : Fin 4) (t2 : BitVec 64) (raw : BitVec 16), 2 ≤ t2.toNat → s.lineOf n < 512 →
        (512 ≤ n.val → s.rd CH_MSTAT.MODE (n.val - 512) = 3) →
        (∀ l, (s.tia n).lastEdge = some l → l + (max 2 (s.tia n).holdoff + 2) * 4096 < t2.toNat * 4096) →
      (s.rd CH_TIASTAT.STATE n = 2 → (s.tia n).mode ≠ 1 → (s.tia n).start = 0 → (s.tia n).startAt = none →
          (s.tia n).armedAt + 2 ≤ t2.toNat → edgeSelects (s.tia n).sedge low rising = true →
          (s.tia n).hystOk (s.tia n).sedge low rising = true →
        ∃ t a, exec (.tiaEdge n low rising ip t2 raw) s = .next t ∧ t.rd CH_TIASTAT.STATE n = 3
          ∧ (t.tia n).startAt = some a ∧ t2.toNat * 4096 ≤ a + 8192 ∧ a + 4096 ≤ t2.toNat * 4096
          ∧ t.tt = max s.tt t2.toNat ∧ t.sameMemory s ∧ t.chans = s.chans)
      ∧ (∀ b, s.rd CH_TIASTAT.STATE n = 3 → (s.tia n).mode = 0 ∨ (s.tia n).mode = 3 → (s.tia n).startAt = some b →
          b + 8192 < t2.toNat * 4096 → edgeSelects (s.tia n).pedge low rising = true →
          (s.tia n).hystOk (s.tia n).pedge low rising = true → (s.tia n).values.length + 1 < (s.tia n).nstop →
        ∃ (t : State) (a : Nat), exec (.tiaEdge n low rising ip t2 raw) s = .next t
          ∧ (t.tia n).values = (s.tia n).values ++ [(a : Int) - b]
          ∧ t2.toNat * 4096 ≤ a + 8192 ∧ a + 4096 ≤ t2.toNat * 4096 ∧ (t.tia n).startAt = some b
          ∧ t.rd CH_TIASTAT.STATE n = 3 ∧ t.tt = max s.tt t2.toNat ∧ t.sameMemory s ∧ t.chans = s.chans))
    ∧ (s.rd CH_TIASTAT.STATE n = 2 → (s.tia n).start = 4 → (s.tia n).armedAt ≤ (s.tia n).stime →
      ∃ t, exec (.tiaTimeStart n) s = .next t ∧ t.rd CH_TIASTAT.STATE n = 3
        ∧ (t.tia n).startAt = some ((s.tia n).stime * 4096) ∧ t.tt = max s.tt (s.tia n).stime
        ∧ t.sameRegs s [CH_TIASTAT.STATE.key n 0] ∧ t.sameMemory s ∧ t.chans = s.chans)
    ∧ (s.rd CH_TIASTAT.STATE n = 2 ∨ s.rd CH_TIASTAT.STATE n = 3 →
      ∃ t r, exec (.tiaTimeout n) s = .next t ∧ field r 1 1 = 1 ∧ r.length = 160
        ∧ (t.tia n).records = (if 16 ≤ (s.tia n).records.length then (s.tia n).records.tail else (s.tia n).records) ++ [r]
        ∧ t.rd CH_TIASTAT.STATE n ≤ 1 ∧ t.tt = max s.tt ((s.tia n).armedAt + (s.tia n).timeout * 3200)
        ∧ t.sameMemory s ∧ t.chans = s.chans)
    ∧ (s.rd CH_TIASTAT.STATE n = 3 → (s.tia n).mode = 2 →
      ∃ t r, exec (.tiaGateEnd n) s = .next t ∧ field r 1 1 = 0 ∧ r.length = 160
        ∧ (t.tia n).records = (if 16 ≤ (s.tia n).records.length then (s.tia n).records.tail else (s.tia n).records) ++ [r]
        ∧ t.rd CH_TIASTAT.STATE n ≤ 1 ∧ t.sameMemory s ∧ t.chans = s.chans)
    ∧ (s.rd CH_TIASTAT.STATE n = 1 →
      ∃ t, exec (.tiaRearm n) s = .next t ∧ t.rd CH_TIASTAT.STATE n = 2 ∧ (t.tia n).armedAt = s.tt ∧ (t.tia n).calAt = s.tt
        ∧ (t.tia n).startAt = none ∧ (t.tia n).values = [] ∧ t.sameMemory s ∧ t.chans = s.chans)
    ∧ (s.rd CH_TIASTAT.STATE n = 0 → exec (.tiaTimeStart n) s = .next s ∧ exec (.tiaTimeout n) s = .next s
        ∧ exec (.tiaGateEnd n) s = .next s ∧ exec (.tiaRearm n) s = .next s)
    ∧ (n.val < 512 → (s.calg (groupOf n)).waiting = some n.val →
      ∃ t, exec (.tiaPreemptTimeout n) s = .next t ∧ (t.calg (groupOf n)).preempted = true ∧ t.tiaArmed n = false
        ∧ t.tt = max s.tt ((s.calg (groupOf n)).since + 32000000) ∧ t.sameMemory s ∧ t.chans = s.chans)
    ∧ ((s.calg (groupOf n)).waiting ≠ some n.val → exec (.tiaPreemptTimeout n) s = .next s)

/-- R310, R315, R316, R327–R330. CAL_RUN with no channel to calibrate answers at once and otherwise asks for each and
goes on; CAL_READ_ALL delivers the blob of 16,448 bytes; CAL_WRITE_ALL of this die's blob and seal, while nothing runs
and no calibration is in progress, sets corrections, gain, fixture offsets, VALID and TCAL of every channel;
FIXTURE_OFFSETS sets those it lists and no other; CAL_POLICY sets threshold, step and interval. R311–R326. The course
of a calibration in a group whose CHAN names a channel. A reading is stored and brings the threshold in force. The
controller starts with the first candidate of a group at rest: directly where no site plays it, else with a copy to
the Mirror. A measurement that ends takes the mean errors, less the tap offsets, rounded, from the targets: at once in
force for a direct one, after the copy back and the hand-back for one through the Mirror. Copy, shadow, match with the
shadow's 64 cycles played, take-over at an eligible boundary or its abandonment, which defers the channel, and
hand-back follow each other. An interval of slewing moves each correction of a channel that is not past its
measurement towards its target by at most the step; TABLE_STEP moves the corrections of Mirrors and REF channels by
one. -/
def Obligations.CalibrationActs : Prop :=
  (∀ (d : Desc) (p : Bytes) (c : Consumed) (j : Job) (q : Bytes) (s u : State),
      (s.carriesOut 0x0500 d [] j q u → par j.cmd.d 26 1 ≤ 1 → s.on CA_STAT.SEALOK = true →
        let ns := (bitList 16 (par j.cmd.d 24 2)).flatMap (fun g => (groupChannels g).filter (fun n =>
          !s.fenced n && (par j.cmd.d 26 1 == 1 || s.on CH_CALSTAT.DUE n)))
        (ns = [] → ∃ t, exec (.calRun d) s = .next t ∧ t.completed u j (zeros 4) ∧ t.sameMemory s ∧ t.sameUnits s)
        ∧ (ns ≠ [] → ∃ t, exec (.calRun d) s = .next t ∧ t.cal.jobs = s.cal.jobs ++ [⟨j.id, ns, 0, 0⟩]
          ∧ (∀ n ∈ ns, (t.calg (groupOf n)).wanted.contains n = true) ∧ t.mbx.jobs.map Job.id = u.mbx.jobs.map Job.id
          ∧ t.sameMemory s ∧ t.sameUnits s))
      ∧ (s.carriesOut 0x0501 d [] j q u → 16448 ≤ j.cmd.d.length.toNat →
        ∃ t, exec (.calReadAll d) s = .next t ∧ u.calBlob.length = 16448 ∧ t.delivered u j u.calBlob (toLe 4 16448)
          ∧ t.sameMemory s ∧ t.sameUnits s)
      ∧ (s.carriesOut 0x0502 d p j q u → q.length = 16448 → s.calBusy = false → field q 0 1 = 1 → zeroAt q 1 3 = true →
          zeroAt q 28 32 = true → field q 60 4 = crc32 (q.take 60 ++ zeros 4 ++ q.drop 64) → (∀ n < 512, calRecordOk q n = true) →
          field q 4 12 = Config.dieId.toNat → field q 16 4 = s.rd CA_SEALCNT.COUNT →
        ∃ t, exec (.calWriteAll d p) s = .next t ∧ t.completed u j []
          ∧ (∀ n < 512, (∀ k < 6, t.rdS CH_COR.CUR n k = sgn 16 (field q (64 + 32 * n + 6 + 2 * k) 2)
                ∧ t.rdS CH_COR.TGT n k = sgn 16 (field q (64 + 32 * n + 6 + 2 * k) 2))
              ∧ t.rdS CH_GAIN.CUR n = sgn 16 (field q (64 + 32 * n + 18) 2)
              ∧ t.rdS CH_GAIN.TGT n = sgn 16 (field q (64 + 32 * n + 18) 2)
              ∧ t.rdS CH_FIX.FIXDRV n = sgn 16 (field q (64 + 32 * n + 20) 2)
              ∧ t.rdS CH_FIX.FIXCMP n = sgn 16 (field q (64 + 32 * n + 22) 2)
              ∧ t.rd CH_CALSTAT.VALID n = field q (64 + 32 * n + 2) 1 ∧ t.rd CH_CALSTAT.TCAL n = field q (64 + 32 * n + 4) 2)
          ∧ t.sameMemory s ∧ t.sameUnits s)
      ∧ (s.carriesOut 0x0506 d p j q u →
        let k := field q 2 2
        let chan (i : Nat) : Nat := field q (16 + 8 * i) 2
        1 ≤ k → k ≤ 512 → q.length = 16 + 8 * k → field q 0 1 = 1 → field q 1 1 = 0 →
          zeroAt q 4 12 = true → ((List.range k).map chan).Nodup →
          (∀ i < k, chan i < 512 ∧ s.running (chan i) = false ∧ (sgn 16 (field q (18 + 8 * i) 2)).natAbs ≤ 4000
            ∧ (sgn 16 (field q (20 + 8 * i) 2)).natAbs ≤ 4000 ∧ field q (22 + 8 * i) 2 = 0) →
        ∃ t, exec (.fixtureOffsets d p) s = .next t ∧ t.completed u j []
          ∧ (∀ i < k, t.rdS CH_FIX.FIXDRV (chan i) = sgn 16 (field q (18 + 8 * i) 2)
              ∧ t.rdS CH_FIX.FIXCMP (chan i) = sgn 16 (field q (20 + 8 * i) 2))
          ∧ (∀ n < 512, (∀ i < k, chan i ≠ n) →
              t.rd CH_FIX.FIXDRV n = s.rd CH_FIX.FIXDRV n ∧ t.rd CH_FIX.FIXCMP n = s.rd CH_FIX.FIXCMP n)
          ∧ t.sameMemory s ∧ t.sameUnits s)
      ∧ (s.serves 0x0503 d c u → 1 ≤ par c.d 24 1 → par c.d 24 1 ≤ 64 → 1 ≤ par c.d 25 1 → par c.d 25 1 ≤ 32 →
          10 ≤ par c.d 28 4 → par c.d 28 4 ≤ 1000 →
        ∃ t, exec (.calPolicy d) s = .next t ∧ t.answered s c ok [] ∧ t.rd CA_CTL.THRESH = par c.d 24 1
          ∧ t.rd CA_SLEW.STEP = par c.d 25 1 ∧ t.rd CA_SLEW.INTERVAL = par c.d 28 4
          ∧ t.sameRegs s [CA_CTL.THRESH.key 0 0, CA_SLEW.STEP.key 0 0, CA_SLEW.INTERVAL.key 0 0, HW_RSP_PROD.PROD.key 0 d.ctx]
          ∧ t.sameMemory s ∧ t.sameUnits s))
  ∧ (∀ (g : Fin 16) (s : State),
      let n := s.rd CA_GRP.CHAN 0 g
      let m := 512 + g.val
      n < 512 → (∀ w ∈ s.cal.waiters, w.site < 64) →
      (∀ (k : Fin 24) (x : BitVec 16), ∃ t, exec (.tempReading k x) s = .next t ∧ Tab.get 0 t.cal.sensors k = x.toNat
          ∧ (k.val < 16 → t.rd CA_GRP.TEMP 0 k = x.toNat ∧ (t.calg k).thresh = s.rd CA_CTL.THRESH)
          ∧ (16 ≤ k.val → k.val < 20 → t.rd CH_REFSTAT.TEMP (k.val - 16) = x.toNat)
          ∧ t.sameMemory s ∧ t.sameUnits s)
      ∧ (∀ x rest, s.on CA_STAT.SEALOK = true → (s.calg g).stage = 0 → s.fenced (528 + g.val / 4) = false →
          s.fenced (716 + g.val) = false → s.candidates g = x :: rest →
        ((∀ y ∈ s.candidates g, s.running y = false) → s.heldBack g x = false →
          ∃ t, exec (.calibrationStart g) s = .next t ∧ (t.calg g).stage = 4 ∧ t.rd CA_GRP.CHAN 0 g = x
            ∧ t.rd CH_TIASTAT.OWNER x = 3 ∧ (g.val ∈ t.refQueue (g.val / 4)) ∧ t.sameMemory s ∧ t.chans = s.chans)
        ∧ (s.running x = true → s.mirrorTaken g = false → (s.calg g).deferred = [] →
          ∃ t, exec (.calibrationStart g) s = .next t ∧ (t.calg g).stage = 1 ∧ (t.calg g).mirror = true
            ∧ t.rd CA_GRP.CHAN 0 g = x ∧ t.rd CA_GRP.PHASE 0 g = 2 ∧ t.rd CH_MSTAT.CHAN g = x
            ∧ t.sameRegs s [CA_GRP.CHAN.key 0 g, CA_GRP.PHASE.key 0 g, CH_MSTAT.CHAN.key g 0] ∧ t.sameMemory s ∧ t.sameUnits s))
      ∧ ((s.calg g).stage ≠ 0 → exec (.calibrationStart g) s = .next s)
      ∧ (∀ (errors : List Int) (gain : Int),
        let target (k : Nat) : Int := s.rdS CH_COR.TGT n k - divRound (errors.getD k 0 - s.tapOffset n k) 16
        let queued := (s.calg g).stage = 4 ∧ (s.refQueue (g.val / 4)).head? = some g.val
        (queued → (∀ k < 6, -4096 ≤ target k ∧ target k ≤ 4095) → -2048 ≤ gain → gain ≤ 2047 →
          ∃ t, exec (.measurementEnd g errors gain) s = .next t ∧ (∀ k < 6, t.rdS CH_COR.TGT n k = target k)
            ∧ t.rdS CH_GAIN.TGT n = gain ∧ t.rd CH_CALSTAT.VALID n = 1
            ∧ ((s.calg g).mirror = false → (t.calg g).stage = 0 ∧ (∀ k < 6, t.rd CH_COR.CUR n k = t.rd CH_COR.TGT n k)
              ∧ t.rd CH_GAIN.CUR n = t.rd CH_GAIN.TGT n)
            ∧ ((s.calg g).mirror = true → s.running n = true → (t.calg g).stage = 5
              ∧ ∀ k < 6, t.rd CH_COR.CUR n k = s.rd CH_COR.CUR n k)
            ∧ t.sameMemory s)
        ∧ (¬ queued → exec (.measurementEnd g errors gain) s = .next s))
      ∧ ((s.calg g).stage = 1 → ∃ t, exec (.shadowCopyDone g) s = .next t ∧ (t.calg g).stage = 2
          ∧ (t.chan m).facets = (s.chan n).facets ∧ t.rd CH_FVALID.DEF m = s.rd CH_FVALID.DEF n % 2 ^ 32
          ∧ t.rd CH_CMSMASK.MEMBER m = s.rd CH_CMSMASK.MEMBER n % 2 ^ 16 ∧ t.sameMemory s)
      ∧ ((s.calg g).stage = 5 → ∃ t, exec (.shadowCopyDone g) s = .next t ∧ (t.calg g).stage = 6
          ∧ (t.chan n).facets = (s.chan m).facets ∧ t.rd CH_FVALID.DEF n = s.rd CH_FVALID.DEF m % 2 ^ 32
          ∧ t.rd CH_CMSMASK.MEMBER n = s.rd CH_CMSMASK.MEMBER m % 2 ^ 16 ∧ t.sameMemory s)
      ∧ ((s.calg g).stage ≠ 1 → (s.calg g).stage ≠ 5 → exec (.shadowCopyDone g) s = .next s)
      ∧ ((s.calg g).stage = 2 → s.rd CH_MSTAT.MODE g = 0 →
        ∃ t, exec (.shadowStart g) s = .next t ∧ t.rd CH_MSTAT.MODE g = 1 ∧ (t.chan m).fifo = (s.chan n).fifo
          ∧ (t.calg g).cycles = 0 ∧ t.sameRegs s [CH_MSTAT.MODE.key g 0, CH_LBSTAT.COUNT.key m 0, CH_LBSTAT.REC.key m 0,
            CH_LBSTAT.REPLAY.key m 0, CH_WINSTAT.OPEN.key m 0] ∧ t.sameMemory s)
      ∧ ((s.calg g).stage = 6 → (s.calg g).back = false →
        ∃ t, exec (.shadowStart g) s = .next t ∧ (t.calg g).back = true ∧ (t.chan n).fifo = (s.chan m).fifo
          ∧ (t.calg g).cycles = 0 ∧ t.sameRegs s [CH_LBSTAT.COUNT.key n 0, CH_LBSTAT.REC.key n 0,
            CH_LBSTAT.REPLAY.key n 0, CH_WINSTAT.OPEN.key n 0] ∧ t.sameMemory s)
      ∧ (∀ (pairs : List Nat) (offsets : List Int),
        let fit := (s.calg g).stage = 2 ∧ s.rd CH_MSTAT.MODE g = 1 ∧ s.shadowed g = true
        (fit → (∀ k < 4, -4096 ≤ offsets.getD k 0 ∧ offsets.getD k 0 ≤ 4095) →
          ∃ t, exec (.matchDone g pairs offsets) s = .next t ∧ (t.calg g).stage = 3
            ∧ (∀ k < 4, t.rdS CH_MMATCH.MATCH g k = (if pairs.getD k 0 < 8 then 0 else offsets.getD k 0))
            ∧ ((∃ k < 4, pairs.getD k 0 < 8) → t.rd CH_MSTAT.PART g = 1) ∧ t.sameMemory s ∧ t.sameUnits s)
        ∧ (¬ fit → exec (.matchDone g pairs offsets) s = .next s))
      ∧ ((s.calg g).stage = 3 → s.eligible n = true → s.heldBack g n = false →
        ∃ t, exec (.takeOver g) s = .next t ∧ t.rd CH_MSTAT.MODE g = 2 ∧ t.rd CH_CALSTAT.STANDIN n = 1 ∧ (t.calg g).stage = 4
          ∧ t.sameMemory s ∧ ∀ x, x ≠ n → t.chan x = s.chan x)
      ∧ ((s.calg g).stage = 3 → s.eligible n = false → s.heldBack g n = false → exec (.takeOver g) s = .next s)
      ∧ ((s.calg g).stage = 3 → ∃ t, exec (.takeOverAbandon g) s = .next t ∧ (t.calg g).stage = 0 ∧ t.rd CH_MSTAT.MODE g = 0
          ∧ bit (t.rd CA_STAT.DEFER) g = true ∧ (t.calg g).deferred.contains n = true
          ∧ t.sameMemory s)
      ∧ ((s.calg g).stage ≠ 3 → exec (.takeOver g) s = .next s ∧ exec (.takeOverAbandon g) s = .next s)
      ∧ (let fit := (s.calg g).stage = 6 ∧ s.shadowed g = true ∧ ((s.calg g).back = true ∨ s.running n = false)
          ∧ s.eligible n = true
        (fit → (s.calg g).release = false → ∃ t, exec (.handBack g) s = .next t ∧ (t.calg g).stage = 0
          ∧ t.rd CH_MSTAT.MODE g = 0 ∧ t.rd CH_CALSTAT.STANDIN n = 0
          ∧ t.sameMemory s)
        ∧ (¬ fit → exec (.handBack g) s = .next s))
      ∧ (∃ t, exec .slewInterval s = .next t ∧ t.sameMemory s ∧ t.sameUnits s
          ∧ ∀ x < 512, ¬ (5 ≤ (s.calg (groupOf x)).stage ∧ s.rd CA_GRP.CHAN 0 (groupOf x) = x) → ∀ k < 6,
            t.rdS CH_COR.CUR x k = (if s.rdS CH_COR.CUR x k < s.rdS CH_COR.TGT x k
              then min (s.rdS CH_COR.CUR x k + s.rd CA_SLEW.STEP) (s.rdS CH_COR.TGT x k)
              else max (s.rdS CH_COR.CUR x k - s.rd CA_SLEW.STEP) (s.rdS CH_COR.TGT x k))
            ∧ t.rd CH_COR.TGT x k = s.rd CH_COR.TGT x k)
      ∧ (∃ t, exec .tableStep s = .next t ∧ t.sameRegs s [] ∧ t.sameMemory s ∧ t.sameUnits s ∧ t.cal.goal = s.cal.goal
          ∧ ∀ k < 160, Tab.get 0 t.cal.applied k = (if Tab.get 0 s.cal.applied k < Tab.get 0 s.cal.goal k
              then Tab.get 0 s.cal.applied k + 1
              else if Tab.get 0 s.cal.goal k < Tab.get 0 s.cal.applied k then Tab.get 0 s.cal.applied k - 1
              else Tab.get 0 s.cal.applied k)))

/-! ## Loupe and Prism (10, 11) -/

/-- R274–R290, R303. Loupe's commands and events. A sound configuration that fits is taken; LOUPE_ARM of one whose channels are
free claims their interpolators, zeroes the counters and opens segment 0 with a re-arm window. A trigger, forced or Prism's,
whose instant is past the arming and in no re-arm window starts the post phase of an armed segment at that instant with the units
from it on; in a window it counts in LP_MISSED. LOUPE_STOP ends a capture; LOUPE_READ delivers the image from OFF; a jump is
posted where none is. A plain sample enters the pre-trigger units; a listed edge of a claimed channel with a free interpolator
enters its group's buffer, and counts as lost while the capture lacks the interpolators; the window ends; a block of 64 KiB drains. -/
def Obligations.LoupeActs : Prop :=
  ∀ (d : Desc) (p : Bytes) (c : Consumed) (j : Job) (q : Bytes) (s u : State),
    let k := s.rd LP_STAT.SEG
    let cfg := s.loupe.cfg
    let armedAt (x : Nat) : Prop := s.rd LP_STAT.STATE = 2 ∧ s.loupe.armT * 4096 ≤ x ∧ s.loupe.rearmAt * 4096 ≤ x
      ∧ s.inRearm x = false ∧ ((splitUnits cfg.div x (s.segment k).pre).2.map cfg.counts).sum < cfg.post
    let triggered (t : State) (x : Nat) (forced : Bool) : Prop := t.rd LP_STAT.STATE = 3 ∧ (t.segment k).st = 2
      ∧ (t.segment k).trigT = x / 4096 ∧ (t.segment k).trigF = x % 4096 ∧ bit (t.segment k).flags 1 = forced
      ∧ (t.segment k).pre = (splitUnits cfg.div x (s.segment k).pre).1
      ∧ (t.segment k).post = (splitUnits cfg.div x (s.segment k).pre).2 ∧ t.sameMemory s ∧ t.chans = s.chans
    (s.carriesOut 0x0402 d p j q u → s.loupeActive = false → loupeFormatOk q q.length = true → s.gated 16 = false →
      let x := loupeCfg q
      x.pre * x.slot ≤ (if x.extents = [] then 33554432 / x.nseg else 16777216) → (x.extents.map (·.2)).sum ≤ 17179869184 →
        overlapping x.extents = false → (∀ e ∈ x.extents, s.allocated e.1 e.2 = true) →
      ∃ t, exec (.loupeConfig d p) s = .next t ∧ t.completed u j [] ∧ t.rd LP_STAT.STATE = 1 ∧ t.loupe.cfg = x
        ∧ t.sameMemory s ∧ t.chans = s.chans)
    ∧ (s.serves 0x0403 d c u → s.rd LP_STAT.STATE ≠ 0 → s.loupeActive = false → s.gated 16 = false →
        (cfg.pre + cfg.post) * cfg.slot
          ≤ (if cfg.extents = [] then 33554432 / cfg.nseg else 33554432 + (cfg.extents.map (·.2)).sum) →
        (∀ n ∈ cfg.claims, n < 512 ∧ s.unserved n = false ∧ s.rd CH_TIASTAT.OWNER (s.tiaUnit n) = 0) →
      ∃ t, exec (.loupeArm d) s = .next t ∧ t.answered s c ok [] ∧ t.rd LP_STAT.STATE = 2 ∧ t.rd LP_STAT.SEG = 0
        ∧ t.rd LP_STAT.REARM = 1 ∧ t.rd LP_STORED.UNITS = 0 ∧ t.rd LP_MISSED.COUNT = 0 ∧ t.rd LP_TRIGBUSY.COUNT = 0
        ∧ t.rd LP_EDGELOST.COUNT = 0 ∧ t.rd LP_MARKLOST.COUNT = 0 ∧ t.loupe.armT = s.tt ∧ t.loupe.rearmAt = s.tt
        ∧ (t.segment 0).st = 1 ∧ t.loupe.held = cfg.claims.map s.tiaUnit
        ∧ (∀ n ∈ cfg.claims, t.rd CH_TIASTAT.OWNER (s.tiaUnit n) = 2) ∧ t.vmem = s.vmem ∧ t.pad = s.pad ∧ t.chans = s.chans)
    ∧ (s.serves 0x0404 d c u → armedAt (s.tt * 4096) →
      ∃ t, exec (.loupeForce d) s = .next t ∧ t.answered s c ok [] ∧ triggered t (s.tt * 4096) true)
    ∧ (s.serves 0x0405 d c u →
      (s.loupeActive = true → ∃ t, exec (.loupeStop d) s = .next t ∧ t.answered s c ok [] ∧ t.rd LP_STAT.STATE = 4
        ∧ t.loupe.held = [] ∧ (s.loupe.gaps = [] → t.rd LP_STAT.END = 2 ∧ (t.segment k).st = 5)
        ∧ t.sameMemory s ∧ t.chans = s.chans)
      ∧ (s.loupeActive = false → ∃ t, exec (.loupeStop d) s = .next t ∧ t.answered s c ok [] ∧ t.onlyAnswered s d))
    ∧ (s.carriesOut 0x0406 d [] j q u →
      let off := par j.cmd.d 24 8
      let n := min j.cmd.d.length.toNat (u.ilen - off)
      s.rd LP_STAT.STATE ≠ 0 → off < u.ilen → u.unreadable off n = false →
      (∃ t, exec (.loupeRead d none) s = .next t ∧ t.delivered u j ((u.image.drop off).take n) (toLe 4 n) ∧ t.sameMemory s
        ∧ t.sameUnits s)
      ∧ ∀ o va, ∃ t, exec (.loupeRead d (some (o, va))) s = .next t ∧ t.concluded j memUncorr (toLe 4 (min o n)))
    ∧ (∀ (seg : Fin 64) (go : Bool),
      let fit := go = true ∧ s.loupeActive = true ∧ seg.val < cfg.nseg ∧ s.loupe.jump = none
      (fit → ∃ t, exec (.loupeJump seg go) s = .next t ∧ t.loupe.jump = some seg.val ∧ t.sameRegs s [] ∧ t.sameMemory s
        ∧ t.chans = s.chans ∧ t.tias = s.tias)
      ∧ (¬ fit → exec (.loupeJump seg go) s = .next s))
    ∧ (∀ (x : BitVec 64) (f : BitVec 12) (ext : ExtLines) (high low : BitVec 512),
      (s.loupeActive = false → exec (.loupeUnit x f ext high low) s = .next s)
      ∧ (s.rd LP_STAT.STATE = 2 → (s.segment k).st = 1 → cfg.mode = 0 → cfg.comp = false → s.loupe.jump = none →
          x.toNat % max 1 cfg.div = 0 →
        let at_ := x.toNat * 4096 + fracOfHalfSteps (2 * cfg.soff)
        let row := { s.reach x.toNat with ext := s.wired ext x.toNat }.rowOf high low x.toNat
        let us := (s.segment k).pre ++ [⟨0x800, at_, false, 1, row⟩]
        (∀ l, (s.segment k).pre.getLast? = some l → l.till cfg.div ≤ at_) →
        ∃ t, exec (.loupeUnit x f ext high low) s = .next t ∧ t.rd LP_STORED.UNITS = satAdd 48 (s.rd LP_STORED.UNITS) 1
          ∧ (t.segment k).pre = us.drop (us.length - cfg.pre) ∧ (t.segment k).passed = (s.segment k).passed + 1
          ∧ t.tt = max s.tt x.toNat ∧ t.sameRegs s [LP_STORED.UNITS.key 0 0] ∧ t.sameMemory s ∧ t.chans = s.chans))
    ∧ (∀ (n : Fin 512) (low rising : Bool) (ip : Fin 4) (x : BitVec 64) (raw : BitVec 16), s.loupeActive = true →
        cfg.mode = 1 → cfg.signals.contains (2 * n.val + b2n low) = true → s.loupe.held.contains (s.tiaUnit n) = true →
      (s.fenced (s.tiaUnit n) = false → s.rd CH_TIASTAT.OWNER (s.tiaUnit n) = 2 → 2 ≤ x.toNat →
          Tab.find s.loupe.lastEdge (2 * n.val + b2n low) = none → 0 ∈ (s.tia (s.tiaUnit n)).busy →
          s.loupe.buf.countP (fun r => groupOf (r.kind / 2) == groupOf n) < 64 →
        ∃ t r, exec (.loupeTransitionEdge n low rising ip x raw) s = .next t ∧ t.loupe.buf = s.loupe.buf ++ [r]
          ∧ r.kind = 2 * n.val + b2n low ∧ r.dir = rising ∧ x.toNat * 4096 ≤ r.time + 8192 ∧ r.time + 4096 ≤ x.toNat * 4096
          ∧ t.rd LP_EDGELOST.COUNT = s.rd LP_EDGELOST.COUNT ∧ t.tt = max s.tt x.toNat ∧ t.sameMemory s ∧ t.chans = s.chans)
      ∧ (s.fenced (s.tiaUnit n) = true ∨ s.rd CH_TIASTAT.OWNER (s.tiaUnit n) ≠ 2 →
        ∃ t, exec (.loupeTransitionEdge n low rising ip x raw) s = .next t ∧ t.loupe.buf = s.loupe.buf
          ∧ t.rd LP_EDGELOST.COUNT = satAdd 32 (s.rd LP_EDGELOST.COUNT) 1 ∧ t.tt = max s.tt x.toNat ∧ t.sameMemory s
          ∧ t.chans = s.chans))
    ∧ (∀ g ps, s.prism.trigs = g :: ps → g.ring = false →
      (armedAt g.time → ∃ t, exec .loupeTrigger s = .next t ∧ t.prism.trigs = ps ∧ triggered t g.time g.forced)
      ∧ (s.loupeActive = true → s.loupe.armT * 4096 ≤ g.time → s.inRearm g.time = true →
        ∃ t, exec .loupeTrigger s = .next t ∧ t.prism.trigs = ps ∧ t.rd LP_MISSED.COUNT = satAdd 32 (s.rd LP_MISSED.COUNT) 1
          ∧ t.loupe = s.loupe ∧ t.sameRegs s [LP_MISSED.COUNT.key 0 0] ∧ t.sameMemory s ∧ t.chans = s.chans))
    ∧ (s.prism.trigs = [] → exec .loupeTrigger s = .next s)
    ∧ (s.on LP_STAT.REARM = true → ∃ t, exec .rearmWindowEnd s = .next t ∧ t.rd LP_STAT.REARM = 0
        ∧ t.tt = max s.tt (s.loupe.rearmAt + 640)
        ∧ (s.pzRunning = true → bit (s.prism.byte 3) 1 = true → s.rd LP_STAT.STATE = 2 → t.rd PZ_STAT.AUTORUN = 1
          ∧ t.prism.autoEnd = some (s.loupe.rearmAt + 640 + field s.prism.prog 4 4 * 3200)) ∧ t.sameMemory s ∧ t.chans = s.chans)
    ∧ (s.on LP_STAT.REARM = false → exec .rearmWindowEnd s = .next s)
    ∧ (∀ i, 65536 ≤ s.fifoBytes → cfg.extents ≠ [] →
        ((List.range cfg.extents.length).map (fun i => (s.loupe.nextExtent + i) % cfg.extents.length)).find?
          (fun i => s.loupe.filled.getD i 0 < (cfg.extents.getD i (0, 0)).2) = some i →
      let a := (cfg.extents.getD i (0, 0)).1 + s.loupe.filled.getD i 0
      let g := s.segment 0
      let data := ((unitsBytes g.base (g.pre ++ g.post)).drop (unitsSize g.pre + s.loupe.drained)).take 65536
      ∃ t, exec .spillDrain s = .next t ∧ t.loupe.drained = s.loupe.drained + 65536
        ∧ t.loupe.nextExtent = (i + 1) % cfg.extents.length ∧ t.vmem.readN a data.length = data
        ∧ (∀ x, (x < a ∨ a + 65536 ≤ x) → t.vmem.read x = s.vmem.read x) ∧ t.pad = s.pad ∧ t.cap = s.cap ∧ t.chans = s.chans)
    ∧ (s.fifoBytes = 0 → exec .spillDrain s = .next s)

/-- R291–R309. Prism. A sound program is loaded unless one runs; a free one starts at the next tick; PZ_CTL.STOP sets the tick at
whose end the run stops. A tick of a running program without a restart: at a level whose clause 0 is valid, has resource A = 1
and no operator, it goes to that clause's next level, and with TRIG and PLACE 0 as its actions it issues a trigger at the tick; at
a level without a valid clause it stays; with a restart due the level is RLEVEL; past the stop tick the run ends. A stamped
crossing of an EDGE comparator's line in its direction, the first of the run, is an event placed at it, and one without a stamp
counts as lost. A pulsed output returns to idle; the auto timer, once its tick is evaluated, issues one forced trigger. -/
def Obligations.PrismActs : Prop :=
  ∀ (d : Desc) (p : Bytes) (j : Job) (q : Bytes) (s u : State),
    let a := s.prism.aligned
    let clause (k : Nat) : Nat := s.prism.clause (s.rd PZ_STAT.LEVEL) k
    (s.carriesOut 0x0407 d p j q u → s.pzRunning = false → prismOk q = true → s.gated 17 = false →
      ∃ t, exec (.prismLoad d p) s = .next t ∧ t.completed u j [] ∧ t.rd PZ_STAT.STATE = 1 ∧ t.prism.prog = q
        ∧ t.rd PZ_STAT.LINKED = b2n (field q 1 1 == 0) ∧ t.rd PZ_STAT.LEVEL = 0 ∧ (∀ k < 8, t.rd PZ_CNT.COUNT 0 k = 0)
        ∧ t.sameMemory s ∧ t.chans = s.chans)
    ∧ (let fit := (s.rd PZ_STAT.STATE = 1 ∨ s.rd PZ_STAT.STATE = 3) ∧ s.pzLinked = false
      (fit → ∃ t, exec .prismGo s = .next t ∧ t.pzRunning = true ∧ t.prism.aligned = s.tt + 1 ∧ t.prism.start = true
        ∧ t.rd PZ_STAT.LEVEL = 0 ∧ t.rd PZ_TRIGCNT.COUNT = 0 ∧ t.rd PZ_FORCED.COUNT = 0 ∧ (∀ k < 8, t.rd PZ_CNT.COUNT 0 k = 0)
        ∧ t.sameMemory s ∧ t.chans = s.chans)
      ∧ (¬ fit → exec .prismGo s = .next s))
    ∧ (s.pzRunning = true → ∃ t, exec .prismStop s = .next t ∧ t.prism.stopAt = some (min s.tt (s.prism.stopAt.getD s.tt))
        ∧ t.sameRegs s [] ∧ t.sameMemory s ∧ t.chans = s.chans)
    ∧ (s.pzRunning = false → exec .prismStop s = .next s)
    ∧ (∀ (ext : ExtLines) (high low : BitVec 512),
      (s.pzRunning = false → exec (.prismTick ext high low) s = .next s)
      ∧ (s.pzRunning = true → ∃ t, exec (.prismTick ext high low) s = .next t ∧ t.prism.aligned = a + 1
        ∧ t.tt = max s.tt (a + 64) ∧ t.sameMemory s ∧ t.chans = s.chans
        ∧ (s.prism.restart = [] → bits (clause 0) 0 8 = 1 → bits (clause 0) 16 8 = 0x80 →
            t.rd PZ_STAT.LEVEL = bits (clause 0) 24 8 % 16
            ∧ (bits (clause 0) 32 8 = 1 → bits (clause 0) 40 8 = 0 →
                t.rd PZ_TRIGCNT.COUNT = satAdd 32 (s.rd PZ_TRIGCNT.COUNT) 1
                ∧ t.prism.trigs = s.prism.trigs ++ [⟨a * 4096, false, false⟩]))
        ∧ (s.prism.restart = [] → (∀ k < 4, bit (bits (clause k) 16 8) 7 = false) →
            t.rd PZ_STAT.LEVEL = s.rd PZ_STAT.LEVEL ∧ t.rd PZ_TRIGCNT.COUNT = s.rd PZ_TRIGCNT.COUNT
            ∧ t.prism.trigs = s.prism.trigs)
        ∧ ((∃ x ∈ s.prism.restart, x ≤ a) → t.rd PZ_STAT.LEVEL = s.prism.byte 2 % 16)
        ∧ (∀ x, s.prism.stopAt = some x → x ≤ a → t.rd PZ_STAT.STATE = 3 ∧ t.rd PZ_STAT.AUTORUN = 0)))
    ∧ (∀ (e : Fin 4) (low rising : Bool) (x : BitVec 64) (f : BitVec 12), s.pzRunning = true → s.prism.ec e 0 1 = 1 →
      ((s.prism.ec e 2 1 == 1) = low → (s.prism.ec e 1 1 = 2 ∨ (s.prism.ec e 1 1 == 1) = !rising) →
          (Tab.get {} s.prism.ecs e.val).last = none → (Tab.get {} s.prism.ecs e.val).lastEvent = none →
        ∃ t, exec (.edgeComparatorCrossing e low rising x f) s = .next t
          ∧ (Tab.get {} t.prism.ecs e.val).placed.head? = some (x.toNat, x.toNat * 4096 + f.toNat)
          ∧ t.prism.pulses = s.prism.pulses ++ [⟨0x18 + e.val, x.toNat, x.toNat + 1⟩] ∧ t.tt = max s.tt x.toNat
          ∧ t.sameRegs s [] ∧ t.sameMemory s ∧ t.chans = s.chans)
      ∧ (∀ l, (Tab.get {} s.prism.ecs e.val).last = some l → x.toNat * 4096 + f.toNat ≤ l + 8192 →
        ∃ t, exec (.edgeComparatorCrossing e low rising x f) s = .next t
          ∧ t.rd PZ_ECLOST.COUNT 0 e = satAdd 32 (s.rd PZ_ECLOST.COUNT 0 e) 1 ∧ t.prism.pulses = s.prism.pulses
          ∧ t.sameRegs s [PZ_ECLOST.COUNT.key 0 e] ∧ t.sameMemory s ∧ t.chans = s.chans))
    ∧ (∀ o : Fin 12,
      (∀ x, Tab.find s.prism.ends o = some x →
        ∃ t, exec (.outputPulseEnd o) s = .next t ∧ Tab.find t.prism.ends o = none ∧ t.tt = max s.tt x
          ∧ (if o.val < 4 then bit (t.rd PZ_OUT.TOUT) o else bit (t.rd PZ_OUT.XOWN) (o.val - 4)) = false ∧ t.sameMemory s
          ∧ t.chans = s.chans)
      ∧ (Tab.find s.prism.ends o = none → exec (.outputPulseEnd o) s = .next s))
    ∧ (∀ x, s.prism.autoEnd = some x → s.pzRunning = true → s.rd LP_STAT.STATE = 2 →
      (x < a → ∃ t, exec .autoTrigger s = .next t ∧ t.prism.autoEnd = none
        ∧ t.rd PZ_TRIGCNT.COUNT = satAdd 32 (s.rd PZ_TRIGCNT.COUNT) 1
        ∧ t.rd PZ_FORCED.COUNT = satAdd 32 (s.rd PZ_FORCED.COUNT) 1 ∧ t.prism.trigs = s.prism.trigs ++ [⟨x * 4096, true, false⟩]
        ∧ t.tt = max s.tt (x + 64) ∧ t.sameMemory s ∧ t.chans = s.chans)
      ∧ (a ≤ x → exec .autoTrigger s = .next s))
    ∧ (s.prism.autoEnd = none → exec .autoTrigger s = .next s)

/-! ## The sync ring (13) -/

/-- R25, R347, R349, R353–R355, R361–R363. The ring's commands and register accesses. RING_CONFIG sets the ring, which
must form anew, or its site entries, or starts a reset; SYNC_ARM disarms, or arms a chip at rest; COLLIMATE begins its
exchanges with a request on the east link, TIMED_FRAME queues its data and a SNAPSHOT with a time asks for the image,
and all three stay jobs; BARRIER_TEST reports the longest time, and a SNAPSHOT without a time delivers the last image.
A change of ring flags leaves with the time of a lap (the departure within the tick is open, log entry 88), or without
a ring is due 103 ticks later. The inbox loses its oldest entry. The time latch shows the count that CK_SYNC last
read, at most 20 ticks old. R82, R303, R339, R342–R346, R352, R354, R356, R357. A chip in a ring ignores what it does
not take part in, discards and counts a frame that is not intact, and removes its own frames that come home. Chip 0's
DISCOVER leaves; one that fits makes the ring up, and its own time-out takes it down. Of another chip's frames met for
the first time a GATHER waits here until this chip has arrived or goes on, RELEASE, FLAGS, SNAPSHOT and RESET wait for
the time they name if it is still to come, TRIGGER and LEAVE act at once. This chip's own GATHER and RESET, back from
their lap, set the release time. An unreturned frame is resent three times and then given up with a fault. -/
def Obligations.RingCommandsAndFramesAct : Prop :=
  (∀ (d : Desc) (p : Bytes) (c : Consumed) (j : Job) (q : Bytes) (s u : State),
      let left (t : State) (at_ type : Nat) (payload : Bytes) : Prop := at_ / 4096 = s.tt ∧ t.ring.sent = s.ring.sent
        ++ [⟨type, payload, s.tt, 0, frameWords type s.me (s.rd SY_VER.CURV) at_ payload⟩]
      (s.serves 0x0900 d c u →
        (par c.d 24 1 = 0 → 1 ≤ par c.d 25 1 → par c.d 25 1 ≤ 64 → par c.d 26 1 ≤ 1 → par c.d 27 1 = 0 →
            (sgn 16 (par c.d 28 2)).natAbs ≤ 2000 → par c.d 30 34 = 0 → (∀ i < 64, s.rd SQ_STATE.CHIPS i < 2) →
            s.ring.collate = none →
          ∃ t, exec (.ringConfig d) s = .next t ∧ t.answered s c ok [] ∧ t.rd SY_CFG.N = par c.d 25 1
            ∧ t.rd SY_CFG.EN = par c.d 26 1 ∧ t.rd SY_CFG.ASYM = par c.d 28 2 ∧ t.rd SY_STAT.RINGUP = 0 ∧ t.rd SY_VER.CURV = 0
            ∧ (par c.d 25 1 ≠ s.rd SY_CFG.N → t.rd SY_STAT.ALIGNED = 0 ∧ t.ring.entries = [])
            ∧ (par c.d 25 1 = s.rd SY_CFG.N → t.ring.entries = s.ring.entries) ∧ t.sameMemory s ∧ t.sameUnits s)
        ∧ (par c.d 24 1 = 1 → par c.d 25 7 = 0 → (∀ i < 4, entryOk c.d i = true) →
            (∀ i < 4, ∀ e, siteEntry c.d i = some e → s.site e.1 = stUnbound) →
            linkVotes (newEntries s.ring.entries c.d) true ≤ 64 → linkVotes (newEntries s.ring.entries c.d) false ≤ 64 →
            (newEntries s.ring.entries c.d).length ≤ 16 →
          ∃ t, exec (.ringConfig d) s = .next t ∧ t.answered s c ok [] ∧ t.ring.entries = newEntries s.ring.entries c.d
            ∧ t.sameMemory s ∧ t.sameUnits s)
        ∧ (par c.d 24 1 = 2 → par c.d 25 39 = 0 →
          ∃ t, exec (.ringConfig d) s = .next t ∧ t.answered s c ok []
            ∧ (s.ringUp = true → ∃ x, left t x 7 (resetPayload none))
            ∧ (s.ringUp = false → t.ring.reset = some (s.lapTime (s.tt * 4096))) ∧ t.sameMemory s ∧ t.sameUnits s))
      ∧ (s.serves 0x0901 d c u → par c.d 25 1 ≤ 1 → par c.d 26 38 = 0 →
        (par c.d 24 1 = 1 → ∃ t, exec (.syncArm d) s = .next t ∧ t.answered s c ok [] ∧ t.rd SY_STAT.SYNCARM = 0
          ∧ t.sameRegs s [SY_STAT.SYNCARM.key 0 0, HW_RSP_PROD.PROD.key 0 d.ctx] ∧ t.sameMemory s ∧ t.sameUnits s)
        ∧ (par c.d 24 1 = 0 → s.chipBusy = false → ∃ t, exec (.syncArm d) s = .next t ∧ t.answered s c ok []
          ∧ t.rd SY_STAT.SYNCARM = 1 ∧ t.ring.syncOut = (par c.d 25 1 == 1) ∧ t.ring.syncLow = 0
          ∧ t.sameRegs s [SY_STAT.SYNCARM.key 0 0, HW_RSP_PROD.PROD.key 0 d.ctx] ∧ t.sameMemory s ∧ t.sameUnits s))
      ∧ (s.carriesOut 0x0902 d [] j q u → s.me = 0 → s.ringUp = true → s.on SY_STAT.WRAP = false → s.ring.collate = none →
          32 + 16 * s.rd SY_CFG.N ≤ j.cmd.d.length.toNat →
        ∃ t x, exec (.collimate d) s = .next t ∧ t.ring.collate = some j.id ∧ t.ring.collecting = true ∧ t.ring.collN = 0
          ∧ t.ring.collSum = 0 ∧ left t x 9 (timePayload (.request true)) ∧ t.ring.asked = x
          ∧ t.mbx.jobs.map Job.id = u.mbx.jobs.map Job.id ∧ t.sameMemory s ∧ t.sameUnits s)
      ∧ (∀ longest, s.carriesOut 0x0903 d [] j q u → 1 ≤ par j.cmd.d 24 4 → par j.cmd.d 24 4 ≤ 65536 → s.ringUp = true →
        ∃ t, exec (.barrierTest d longest) s = .next t ∧ t.completed u j (toLe 8 longest) ∧ t.sameMemory s ∧ t.sameUnits s)
      ∧ (s.carriesOut 0x0904 d p j q u → j.cmd.d.length.toNat ≤ 49 → s.tt + 6400 ≤ par j.cmd.d 24 8 →
          par j.cmd.d 24 8 ≤ s.tt + 32000000000 → s.ring.timed.length < 8 → s.ringUp = true →
        ∃ t, exec (.timedFrame d p) s = .next t ∧ t.ring.timed = s.ring.timed ++ [⟨j.id, par j.cmd.d 24 8, q⟩]
          ∧ t.mbx.jobs.map Job.id = u.mbx.jobs.map Job.id ∧ t.sameMemory s ∧ t.sameUnits s)
      ∧ (s.carriesOut 0x0905 d [] j q u → 6208 ≤ j.cmd.d.length.toNat →
        (∀ img, par j.cmd.d 24 8 = 0 → s.ring.image = some img →
          ∃ t, exec (.snapshot d) s = .next t ∧ t.delivered u j img (toLe 4 6208) ∧ t.sameMemory s ∧ t.sameUnits s)
        ∧ (par j.cmd.d 24 8 ≠ 0 → s.tt + s.returnTime ≤ par j.cmd.d 24 8 → par j.cmd.d 24 8 ≤ s.tt + 32000000000 →
            (s.rd SY_CFG.N ≤ 1 ∨ s.on SY_STAT.RINGUP = true) → s.ring.snap = none →
          ∃ t, exec (.snapshot d) s = .next t ∧ t.ring.snap = some (par j.cmd.d 24 8, s.me)
            ∧ t.ring.snapJobs = s.ring.snapJobs ++ [j.id] ∧ t.mbx.jobs.map Job.id = u.mbx.jobs.map Job.id ∧ t.sameMemory s
            ∧ t.sameUnits s))
      ∧ (∀ set clr : BitVec 4,
        (set &&& clr = 0 → ∃ t, exec (.ringFlagsWrite set clr) s = .next t
          ∧ (s.ringUp = true → ∃ x, left t x 4 (flagsPayload set.toNat clr.toNat (s.lapTime x))
              ∧ t.ring.flags = s.ring.flags ++ [⟨s.lapTime x, s.me, set.toNat, clr.toNat⟩])
          ∧ (s.ringUp = false → t.ring.flags = s.ring.flags ++ [⟨s.tt + 103, s.me, set.toNat, clr.toNat⟩])
          ∧ t.sameRegs s [] ∧ t.sameMemory s ∧ t.sameUnits s)
        ∧ (set &&& clr ≠ 0 → exec (.ringFlagsWrite set clr) s = .next s))
      ∧ (∀ e rest, s.ring.inbox = e :: rest → ∃ t, exec .inboxPop s = .next t ∧ t.ring.inbox = rest
          ∧ t.ring.inboxHead = (s.ring.inboxHead + 1) % 8 ∧ t.sameRegs s [] ∧ t.sameMemory s ∧ t.sameUnits s)
      ∧ (s.ring.inbox = [] → exec .inboxPop s = .next s)
      ∧ (s.clk.syncPhase < 512 → ∃ t, exec .testerTimeLatch s = .next t ∧ t.bus.data = [t.rd SY_TT.T % 2 ^ 32]
          ∧ t.rd SY_TT.T = s.syncCount % 2 ^ 64 ∧ s.syncCount ≤ s.tt ∧ s.tt ≤ s.syncCount + 20
          ∧ t.sameRegs s [SY_TT.T.key 0 0] ∧ t.sameMemory s ∧ t.sameUnits s))
  ∧ (∀ (h : RingHead) (s : State),
      (let fit := s.onRing = true ∧ s.me = 0;
        (fit → ∃ t x, exec .discoverSend s = .next t ∧ x / 4096 = s.tt ∧ t.ring.sent = s.ring.sent
            ++ [⟨1, discoverPayload s.newDiscover, s.tt, 0,
              frameWords 1 s.me (s.rd SY_VER.CURV) x (discoverPayload s.newDiscover)⟩]
          ∧ t.sameRegs s [] ∧ t.sameMemory s ∧ t.sameUnits s)
        ∧ (¬ fit → exec .discoverSend s = .next s))
      ∧ (∀ x, s.ring.discover = some x → ∃ t, exec .ringupTimeout s = .next t ∧ t.rd SY_STAT.RINGUP = 0 ∧ t.rd SY_VER.CURV = 0
          ∧ t.tt = max s.tt (x + 640000) ∧ t.ring.discover = none
          ∧ t.sameRegs s [SY_STAT.RINGUP.key 0 0, SY_VER.CURV.key 0 0] ∧ t.sameMemory s ∧ t.sameUnits s)
      ∧ (s.ring.discover = none → exec .ringupTimeout s = .next s)
      ∧ (∀ idx f, s.ring.sent[idx]? = some f →
        (resendable f.type = true → f.resends < 3 → ∃ t w, exec (.ringFrameResend idx) s = .next t
          ∧ t.tt = max s.tt (f.launched + s.returnTime)
          ∧ t.ring.sent = s.ring.sent.set idx { f with launched := t.tt, resends := f.resends + 1, words := w }
          ∧ t.rd SY_FRERR.RESEND = satAdd 16 (s.rd SY_FRERR.RESEND) 1 % 2 ^ 16
          ∧ t.sameRegs s [SY_FRERR.RESEND.key 0 0] ∧ t.sameMemory s ∧ t.sameUnits s)
        ∧ (resendable f.type = true → 3 ≤ f.resends →
          ∃ v : State, exec (.ringFrameResend idx) s = .next (v.takeFaults [collectorMsg 715 0x40 2])
            ∧ v.ring.sent = s.ring.sent.eraseIdx idx ∧ v.sameRegs s [])
        ∧ (resendable f.type = false → ∃ t, exec (.ringFrameResend idx) s = .next t ∧ t.ring.sent = s.ring.sent.eraseIdx idx
          ∧ t.sameRegs s [] ∧ t.sameMemory s ∧ t.sameUnits s))
      ∧ (∀ idx, s.ring.sent[idx]? = none → exec (.ringFrameResend idx) s = .next s)
      ∧ (∀ (f : Discover) (w : Bool) (b : Fin 129) (time : BitVec 56) (frac : BitVec 12) (set clr : BitVec 4) (site : Fin 64)
          (again : Option (BitVec 56)),
        let frames : List (Instr × Nat × Bytes) := [(.discover h f.n f.hops f.ids f.lo f.hi w, 1, discoverPayload f), (.gather h b, 2, barPayload b),
          (.release h b time, 3, releasePayload b time.toNat), (.flags h set clr time, 4, flagsPayload set.toNat clr.toNat time.toNat),
          (.trigger h time frac, 5, triggerPayload (time.toNat * 4096 + frac.toNat)), (.snapshotFrame h time, 6, ringTime time.toNat),
          (.reset h again, 7, resetPayload (again.map BitVec.toNat)), (.leave h site, 8, ringWord (toLe 1 site))]
        (s.onRing = false → ∀ x ∈ frames, exec x.1 s = .next s)
        ∧ (s.onRing = true → ∀ x ∈ frames, headIntact h x.2.1 x.2.2 = false →
            ∃ t, exec x.1 s = .next t ∧ t.rd SY_FRERR.DISCARD = satAdd 16 (s.rd SY_FRERR.DISCARD) 1 % 2 ^ 16 ∧ t.ring = s.ring
              ∧ t.sameRegs s [SY_FRERR.DISCARD.key 0 0] ∧ t.sameMemory s ∧ t.sameUnits s)
        ∧ (s.onRing = true → h.origin.toNat = s.me → ∀ x ∈ frames, x.2.1 ∈ [3, 4, 5, 6, 8] → headIntact h x.2.1 x.2.2 = true →
            ∃ t, exec x.1 s = .next t
              ∧ t.ring.sent = s.ring.sent.eraseP (fun y => y.type == x.2.1 && y.payload == x.2.2)
              ∧ t.sameRegs s [] ∧ t.sameMemory s ∧ t.sameUnits s))
      ∧ (s.onRing = true → h.origin.toNat ≠ s.me → s.ring.acted = [] →
        (∀ (f : Discover) (w : Bool), headIntact h 1 (discoverPayload f) = true →
          (s.discoverFits h.origin.toNat f w = true →
            ∃ t, exec (.discover h f.n f.hops f.ids f.lo f.hi w) s = .next t ∧ t.rd SY_STAT.RINGUP = 1 ∧ t.rd SY_STAT.WRAP = b2n w
              ∧ t.rd SY_VER.CURV = (if s.on SY_STAT.RINGUP then s.rd SY_VER.CURV else min f.hi.toNat (s.rd SY_VER.MAXV))
              ∧ t.ring.discover = some s.tt ∧ t.ring.fwdDiscover = some (s.gatherDiscover f) ∧ t.sameMemory s ∧ t.sameUnits s)
          ∧ (s.discoverFits h.origin.toNat f w = false →
            ∃ t, exec (.discover h f.n f.hops f.ids f.lo f.hi w) s = .next t ∧ t.ring.fwdDiscover = some (s.gatherDiscover f) ∧ t.ring.sent = s.ring.sent
              ∧ t.sameRegs s [] ∧ t.sameMemory s ∧ t.sameUnits s))
        ∧ (∀ b : Fin 129, headIntact h 2 (barPayload b) = true → Tab.get 0 s.ring.held b.val = 0 → s.gatherOut b = false →
            s.ring.passed.contains b.val = false →
          ∃ t, exec (.gather h b) s = .next t ∧ t.sameRegs s [] ∧ t.sameMemory s ∧ t.sameUnits s
            ∧ (s.chipArrived b = false → Tab.get 0 t.ring.held b.val = h.origin.toNat + 1)
            ∧ (s.chipArrived b = true → Tab.get 0 t.ring.held b.val = 0 ∧ t.ring.passed.contains b.val = true
              ∧ Tab.get [] t.ring.part b.val = s.barMembers b))
        ∧ (∀ time : BitVec 56, s.tt ≤ nearest 56 time.toNat s.tt →
          (∀ b : Fin 129, headIntact h 3 (releasePayload b time.toNat) = true →
            ∃ t, exec (.release h b time) s = .next t ∧ Tab.get 0 t.ring.release b.val = nearest 56 time.toNat s.tt + 1
              ∧ t.sameRegs s [] ∧ t.sameMemory s ∧ t.sameUnits s)
          ∧ (∀ set clr : BitVec 4, headIntact h 4 (flagsPayload set.toNat clr.toNat time.toNat) = true →
            ∃ t, exec (.flags h set clr time) s = .next t
              ∧ t.ring.flags = s.ring.flags ++ [⟨nearest 56 time.toNat s.tt, h.origin.toNat, set.toNat, clr.toNat⟩]
              ∧ t.sameRegs s [] ∧ t.sameMemory s ∧ t.sameUnits s)
          ∧ (headIntact h 6 (ringTime time.toNat) = true → s.ring.snap = none →
            ∃ t, exec (.snapshotFrame h time) s = .next t ∧ t.ring.snap = some (nearest 56 time.toNat s.tt, h.origin.toNat)
              ∧ t.sameRegs s [] ∧ t.sameMemory s ∧ t.sameUnits s)
          ∧ (headIntact h 7 (resetPayload (some time.toNat)) = true →
            ∃ t, exec (.reset h (some time)) s = .next t ∧ t.ring.reset = some (nearest 56 time.toNat s.tt)
              ∧ t.sameRegs s [] ∧ t.sameMemory s ∧ t.sameUnits s))
        ∧ (∀ (x : BitVec 56) (f : BitVec 12), headIntact h 5 (triggerPayload (x.toNat * 4096 + f.toNat)) = true →
          ∃ t, exec (.trigger h x f) s = .next t
            ∧ t.prism.ringTrig.head? = some (s.tt, nearest 56 x.toNat s.tt * 4096 + f.toNat)
            ∧ (s.rd PZ_STAT.STATE = 2 → t.prism.pulses = s.prism.pulses ++ [⟨4, s.tt, s.tt + 1⟩]) ∧ t.sameRegs s [] ∧ t.sameMemory s)
        ∧ (∀ site : Fin 64, headIntact h 8 (ringWord (toLe 1 site)) = true → s.site site = stRunning →
            1 < s.rd SQ_STATE.CHIPS site →
          ∃ t, exec (.leave h site) s = .next t ∧ t.site site = stHalting ∧ t.rd SQ_STATE.CAUSE site = 4 ∧ t.sameMemory s))
      ∧ (s.onRing = true → h.origin.toNat = s.me →
        (∀ b : Fin 129, headIntact h 2 (barPayload b) = true → s.gatherOut b = true →
          ∃ t x, exec (.gather h b) s = .next t ∧ x / 4096 = s.tt ∧ Tab.get 0 t.ring.release b.val = s.lapTime x + 1
            ∧ (t.ring.sent.map (fun f => (f.type, f.payload))).getLast? = some (3, releasePayload b (s.lapTime x))
            ∧ t.sameRegs s [] ∧ t.sameMemory s ∧ t.sameUnits s)
        ∧ (headIntact h 7 (resetPayload none) = true → s.outstanding 7 (resetPayload none) = true →
          ∃ t x, exec (.reset h none) s = .next t ∧ x / 4096 = s.tt ∧ t.ring.reset = some (s.lapTime x)
            ∧ (t.ring.sent.map (fun f => (f.type, f.payload))).getLast? = some (7, resetPayload (some (s.lapTime x)))
            ∧ t.sameRegs s [] ∧ t.sameMemory s ∧ t.sameUnits s)))

/-- R82, R352–R357. The times that ring frames name, once they are reached. A ring barrier lets its waiting member go on, or
starts the site whose start barrier it is; a site that has waited 2 µs in RUNNING arrives at its start barrier; a change of ring
flags applies; a snapshot is latched; a ring reset clears the flags, halts every site and discards what is timed. Without such a
time nothing happens. -/
def Obligations.RingTimesTakeEffect : Prop :=
  ∀ s : State,
    (∀ (i : Fin 64) T, 1 < s.rd SY_CFG.N → Tab.get 0 s.ring.release (64 + i.val) = T + 1 →
        Tab.get [] s.ring.part (64 + i.val) = [i.val] → s.site i = stRunning → (s.seq i).waitBarrier = true →
      ∃ t, exec (.ringBarrierRelease (Fin.ofNat 129 (64 + i.val))) s = .next t ∧ t.rd SQ_RUNT.T i = T % 2 ^ 64
        ∧ (t.seq i).waitBarrier = false ∧ Tab.get 0 t.ring.release (64 + i.val) = 0 ∧ t.tt = max s.tt T ∧ t.sameMemory s)
    ∧ (∀ (b : Fin 16) (i : Fin 64) T n rest, 1 < s.rd SY_CFG.N → Tab.get 0 s.ring.release b.val = T + 1 →
        Tab.get [] s.ring.part b.val = [i.val] → s.ringMembers b = [i.val] → s.ringWaits b i = true →
        (s.seq i).queue = .sync true b n none :: rest →
      ∃ t, exec (.ringBarrierRelease (Fin.ofNat 129 b.val)) s = .next t ∧ t.rd SQ_RBARSTAT.WAITING i = 0
        ∧ (t.seq i).queue = .sync true b n (some T) :: rest ∧ T ≤ t.tt ∧ t.sameMemory s ∧ t.sameUnits s)
    ∧ (∀ b : Fin 129, 16 ≤ b.val → Tab.get 0 s.ring.release b.val = 0 → exec (.ringBarrierRelease b) s = .next s)
    ∧ (∀ site : Fin 64,
      let fit := s.site site = stRunning ∧ (s.seq site).waitBarrier = true ∧ s.ring.started.contains site.val = false
      (fit → ∃ t, exec (.startBarrierArrival site) s = .next t ∧ t.ring.started.contains site.val = true
        ∧ t.tt = max s.tt ((s.seq site).barTime + 6400) ∧ t.sameRegs s [] ∧ t.sameMemory s ∧ t.sameUnits s)
      ∧ (¬ fit → exec (.startBarrierArrival site) s = .next s))
    ∧ (∀ f, s.ring.flags = [f] →
      ∃ t, exec .ringFlagsApply s = .next t ∧ t.rd SY_RF.RF = ((s.rd SY_RF.RF ||| f.set) &&& (15 - f.clr)) % 16 ∧ t.ring.flags = []
        ∧ t.tt = max s.tt f.time ∧ t.sameRegs s [SY_RF.RF.key 0 0] ∧ t.sameMemory s ∧ t.sameUnits s)
    ∧ (s.ring.flags = [] → exec .ringFlagsApply s = .next s)
    ∧ (∀ x o, s.ring.snap = some (x, o) →
      ∃ t, exec .snapshotLatch s = .next t ∧ t.ring.snap = none ∧ t.ring.snapJobs = []
        ∧ t.ring.image = some ((s.reach x).snapImage o x) ∧ ((s.reach x).snapImage o x).length = 6208 ∧ t.tt = max s.tt x
        ∧ t.sameMemory s ∧ t.sameUnits s)
    ∧ (s.ring.snap = none → exec .snapshotLatch s = .next s)
    ∧ (∀ x, s.ring.reset = some x →
      ∃ t, exec .ringResetRelease s = .next t ∧ t.rd SY_RF.RF = 0 ∧ (∀ i < 64, t.site i ≠ stRunning) ∧ t.ring.timed = []
        ∧ t.ring.snap = none ∧ t.ring.snapJobs = [] ∧ t.ring.reset = none ∧ t.tt = max s.tt x ∧ t.sameMemory s)
    ∧ (s.ring.reset = none → exec .ringResetRelease s = .next s)

/-- R340, R347–R350, R358, R360–R362. A port with every lane trained and none fenced comes up. An edge of CK_REF samples SYNC_IN of
an armed chip: a high one after two low ones accepts the pulse, and tester time will read 0 after 1 µs and SY_ADJ, which it then does.
TIMECHECK requests leave 2 µs apart while a COLLIMATE measures and otherwise as the periodic check falls due; a request of the west
neighbour is answered, a reply of the east neighbour gives an exchange. At another chip than 0 COLLECT adds this chip's sample and
makes RUN wait, corrects SY_ADJ and tester time, or ends the measurement. TIMED frames leave at their time and enter the inbox on
arrival, where the oldest of eight goes. The result of a vote forms its vector's conditions, and a bad vote ends with a fault. -/
def Obligations.RingTimeAndVotes : Prop :=
  ∀ (h : RingHead) (s : State), (∀ w ∈ s.cal.waiters, w.site < 64) →
    let left (t : State) (at_ tick type : Nat) (payload : Bytes) : Prop := at_ / 4096 = tick ∧ t.ring.sent = s.ring.sent
      ++ [⟨type, payload, tick, 0, frameWords type s.me (s.rd SY_VER.CURV) at_ payload⟩]
    (∀ port : Fin 2,
      (1 < s.rd SY_CFG.N → s.ready 23 = true → (∀ b < 8, s.fenced (676 + 8 * port.val + b) = false) →
        ∃ t, exec (.ringLinkTrain port 255) s = .next t ∧ (if port = 0 then t.rd SY_LINK.EUP else t.rd SY_LINK.WUP) = 1
          ∧ (if port = 0 then t.rd SY_LINK.EWRAP else t.rd SY_LINK.WWRAP) = 0 ∧ t.sameMemory s ∧ t.sameUnits s)
      ∧ (∀ pass, s.rd SY_CFG.N ≤ 1 ∨ s.ready 23 = false → exec (.ringLinkTrain port pass) s = .next s))
    ∧ (∀ (x : BitVec 64) (level near : Bool),
      (s.on SY_STAT.SYNCARM = true → s.ready 1 = true → near = false →
        ∃ t, exec (.syncPulse (.edge x level near)) s = .next t ∧ t.tt = max s.tt x.toNat ∧ t.sameMemory s ∧ t.sameUnits s
          ∧ (level = false → t.ring.syncLow = min 2 (s.ring.syncLow + 1) ∧ t.ring.zeroAt = s.ring.zeroAt ∧ t.sameRegs s [])
          ∧ (level = true → s.ring.syncLow < 2 → t.ring.syncLow = 0 ∧ t.ring.zeroAt = s.ring.zeroAt ∧ t.sameRegs s [])
          ∧ (level = true → 2 ≤ s.ring.syncLow → t.rd SY_STAT.SYNCARM = 0 ∧ t.rd SY_STAT.SYNCSEEN = 1
            ∧ t.ring.zeroAt = some ((x.toNat : Int) + 3200 + sgn 32 (s.rd SY_ADJ.ADJ) / 1250).toNat
            ∧ t.sameRegs s [SY_STAT.SYNCARM.key 0 0, SY_STAT.SYNCSEEN.key 0 0]))
      ∧ (s.on SY_STAT.SYNCARM = false ∨ s.ready 1 = false → exec (.syncPulse (.edge x level near)) s = .next s))
    ∧ (∀ x, s.ring.zeroAt = some x → ∃ t, exec (.syncPulse .zero) s = .next t ∧ t.tt = 0 ∧ t.age = s.age ∧ t.ring.zeroAt = none
        ∧ t.ring.outUntil = (if s.ring.syncOut then 320 else 0) ∧ t.sameRegs s [] ∧ t.sameMemory s ∧ t.chans = s.chans)
    ∧ (s.ring.zeroAt = none → exec (.syncPulse .zero) s = .next s)
    ∧ (s.ringUp = true → s.ring.collecting = true → ∃ t x, exec .timeCheckPeriodic s = .next t
        ∧ t.tt = max s.tt (s.ring.asked / 4096 + 6400) ∧ left t x t.tt 9 (timePayload (.request true)) ∧ t.ring.asked = x
        ∧ t.sameRegs s [] ∧ t.sameMemory s ∧ t.sameUnits s)
    ∧ (s.ringUp = true → s.ring.collecting = false → s.ring.base.isSome = true → ∃ t x, exec .timeCheckPeriodic s = .next t
        ∧ t.tt = max s.tt (s.ring.checks.due 3200000) ∧ left t x t.tt 9 (timePayload (.request false)) ∧ t.ring.asked = x
        ∧ t.sameRegs s [] ∧ t.sameMemory s ∧ t.sameUnits s)
    ∧ (s.ring.collecting = false → s.ring.base = none → exec .timeCheckPeriodic s = .next s)
    ∧ (∀ w, s.ring.timed = [w] → s.ringUp = true →
      ∃ t x, exec .timedFrameLaunch s = .next t ∧ t.ring.timed = [] ∧ t.tt = max s.tt w.time ∧ left t x t.tt 11 (padWords w.data)
        ∧ (∀ j, s.job w.job = some j → t.completed s j (toLe 8 t.tt)) ∧ t.sameMemory s ∧ t.sameUnits s)
    ∧ (s.ring.timed = [] → exec .timedFrameLaunch s = .next s)
    ∧ (s.onRing = true → h.origin.toNat ≠ s.me →
      (∀ x f stamp, s.ringUp = true → headIntact h 9 (timePayload (.request false)) = true →
          h.origin.toNat = (s.me + s.rd SY_CFG.N - 1) % s.rd SY_CFG.N →
        ∃ t y, exec (.timecheck h false false x f stamp) s = .next t ∧ left t y s.tt 9 (timePayload (.reply stamp))
          ∧ t.sameRegs s [] ∧ t.sameMemory s ∧ t.sameUnits s)
      ∧ (∀ ticks frac stamp, let t2 := ticks.toNat * 4096 + frac.toNat
        headIntact h 9 (timePayload (.reply t2)) = true → h.origin.toNat = (s.me + 1) % s.rd SY_CFG.N →
        let x := exchange s.ring.asked t2 (nearest 32 h.txts.toNat (s.tt * 4096)) stamp
        (s.ring.collecting = true → s.ring.collN < 4095 → ∃ t, exec (.timecheck h true false ticks frac stamp) s = .next t
          ∧ t.ring.collN = s.ring.collN + 1 ∧ t.ring.collSum = s.ring.collSum + x ∧ t.ring.collecting = true
          ∧ t.sameRegs s [] ∧ t.sameMemory s ∧ t.sameUnits s)
        ∧ (s.ring.collecting = false → s.ring.base.isSome = true → s.ring.exchanges.length < 255 →
          ∃ t, exec (.timecheck h true false ticks frac stamp) s = .next t ∧ t.ring.exchanges = x :: s.ring.exchanges
            ∧ t.ring.checks.done = s.tt ∧ t.sameRegs s [] ∧ t.sameMemory s ∧ t.sameUnits s))
      ∧ (h.origin = 0 → s.ring.acted = [] →
        (∀ busy links, headIntact h 10 (collectPayload (.check busy links)) = true →
          ∃ t, exec (.collect h (.check busy links)) s = .next t ∧ t.rd SY_STAT.COLLBUSY = 1 ∧ t.ring.collAt = s.tt
            ∧ t.ring.fwdCollect = some (.check (busy || s.chipBusy) (links ++ [s.ownSample]))
            ∧ t.sameRegs s [SY_STAT.COLLBUSY.key 0 0] ∧ t.sameMemory s ∧ t.sameUnits s)
        ∧ (∀ corrs, headIntact h 10 (collectPayload (.apply corrs)) = true →
          let a := sgn 32 (s.rd SY_ADJ.ADJ)
          let own := corrs.getD s.me 0
          let east := corrs.getD ((s.me + 1) % s.rd SY_CFG.N) 0
          ∃ t, exec (.collect h (.apply corrs)) s = .next t ∧ t.rd SY_STAT.COLLBUSY = 0 ∧ t.rd SY_STAT.ALIGNED = 1
            ∧ t.rd SY_ADJ.ADJ = unsgn 32 (a + own) ∧ t.tt = ((s.tt : Int) - ((a + own) / 1250 - a / 1250)).toNat
            ∧ t.ring.base = some (s.ring.collSum * 1250 + 2 * (own - east) * 16777216) ∧ t.ring.collecting = false ∧ t.sameMemory s)
        ∧ (headIntact h 10 (collectPayload .cancel) = true →
          ∃ t, exec (.collect h .cancel) s = .next t ∧ t.rd SY_STAT.COLLBUSY = 0 ∧ t.rd SY_ADJ.ADJ = s.rd SY_ADJ.ADJ
            ∧ t.ring.base = some (s.ring.collSum * 1250) ∧ t.ring.collecting = false ∧ t.sameMemory s))
      ∧ (∀ (first : BitVec 56) (rest : Bytes), let data := toLe 7 first.toNat ++ rest
        headIntact h 11 (padWords data) = true →
        let e := s.inboxEntry h.origin.toNat (h.txts.toNat / 4096) data
        ∃ t, exec (.timed h first rest) s = .next t ∧ e.length = 128
          ∧ t.ring.inbox = (if s.ring.inbox.length < 8 then s.ring.inbox else s.ring.inbox.tail) ++ [e]
          ∧ t.sameRegs s (if s.ring.inbox.length < 8 then [] else [SY_INBOXLOST.LOST.key 0 0]) ∧ t.sameMemory s ∧ t.sameUnits s))
    ∧ (∀ (site : Fin 64) v (vote : BitVec 4) (east : Bool), s.busySite site = true → (s.seq site).started = true →
        1 < s.rd SQ_STATE.CHIPS site →
      (∀ i, s.rd SQ_XSITE.POS site ≠ s.rd SQ_XSITE.HOME site →
          east = decide (s.rd SQ_XSITE.POS site < s.rd SQ_XSITE.HOME site) → (s.seq site).openVote v = some i →
        ∃ t, exec (.voteWord site v vote east false) s = .next t
          ∧ t.rd SQ_COND.SFAIL site = b2n (vote.getLsbD 1) ∧ t.rd SQ_COND.SPASS site = b2n (vote.getLsbD 0 && !vote.getLsbD 1)
          ∧ t.rd SQ_COND.ANYM site = b2n (vote.getLsbD 2) ∧ t.rd SQ_COND.ALLM site = b2n (vote.getLsbD 0 && !vote.getLsbD 3)
          ∧ (t.seq site).sfailRun = ((s.seq site).sfailRun || vote.getLsbD 1) ∧ t.sameMemory s ∧ t.sameUnits s)
      ∧ ((s.seq site).openVote v = none → exec (.voteWord site v vote east false) s = .next s)
      ∧ (s.site site = stRunning → ∃ w : State, exec (.voteWord site v vote east true) s
          = .next (w.takeFaults [collectorMsg 715 0x41 3]) ∧ w.site site = stHalting ∧ w.rd SQ_STATE.CAUSE site = 4))

/-! ## Sequencers and play (04, 05, 06) -/

/-- R102–R104, R108–R111, R154, R155. VEC n issues n vectors from U14 on, VEC.A one vector at its operand, RPT n repeats
the last vector's codes n times; the bundle enters the issue queue behind those in it. Vectors beyond the loaded ones are
not issued and end the site with 0xFF10, U14 standing behind the last one that was (the model's reading, log entry 72); RPT
with nothing to repeat ends it with 0xFF03; a full queue stalls VEC. A current Facet that was undefined at RUN ends the site
with 0xFF0D in place of the vectors: R215 says so of a Facet the PI names, the model (log entry 29) also of one in force. -/
def Obligations.VectorPisIssueBundles : Prop :=
  ∀ (site : Fin 64) (pi : PI) (f : Nat) (s : State),
    let q := s.seq site
    let n := pi.operand.toNat
    let va := q.ureg 14
    let ia := q.ureg 13
    let next := (ia + 1) % 2 ^ 32
    let sound (op : Nat) : Prop := q.badSlices (.entry (BitVec.ofNat 8 op)) = 0
    let vec (va : Nat) : Vec := q.headVec va f pi.cms.toNat pi.capc.toNat
    let more (k m : Nat) : List Item := if k < m then [.halt 0xFF10 (some ia)] else []
    q.body = none →
    (s.canDispatch site (piWord 0x01 pi) → sound 0x01 → q.facetOf (piWord 0x01 pi) = some f →
      (n = 0 → ∃ t, exec (.vec site pi) s = .next t ∧ t.dispatched s site (piWord 0x01 pi) []
        ∧ (t.seq site).queue = q.queue ∧ (t.seq site).ureg 13 = next ∧ (t.seq site).ureg 14 = va ∧ (t.seq site).facet = f)
      ∧ (0 < n → q.full = true → ∃ t, exec (.vec site pi) s = .next t
        ∧ t.dispatched s site (piWord 0x01 pi) [SQ_UPC.STALL.key site 0] ∧ (t.seq site).queue = q.queue
        ∧ t.rd SQ_UPC.STALL site = 1 ∧ (t.seq site).stall = some (piWord 0x01 pi))
      ∧ (0 < n → q.full = false → bit q.facetsAtRun f = false → ∃ t, exec (.vec site pi) s = .next t
        ∧ t.dispatched s site (piWord 0x01 pi) [SQ_PIERR.IA.key site 0]
        ∧ (t.seq site).queue = q.queue ++ [.halt 0xFF0D (some ia)] ∧ (t.seq site).issued = q.issued
        ∧ (t.seq site).ended = true)
      ∧ (0 < n → q.full = false → bit q.facetsAtRun f = true → ∃ t k, exec (.vec site pi) s = .next t
        ∧ t.dispatched s site (piWord 0x01 pi) [SQ_PIERR.IA.key site 0] ∧ k = q.pat.covered q.section_ va n
        ∧ (t.seq site).queue = q.queue
          ++ (if k = 0 then [] else [.bundle (if q.section_ then .ring else .stored) k (vec va) false none]) ++ more k n
        ∧ (t.seq site).issued = q.issued + k ∧ (t.seq site).ureg 14 = (va + k) % 2 ^ 40
        ∧ (t.seq site).ureg 13 = next ∧ (t.seq site).facet = f ∧ (t.seq site).ended = decide (k < n)))
    ∧ (s.canDispatch site (piWord 0x02 pi) → sound 0x02 → q.facetOf (piWord 0x02 pi) = some f → q.full = false →
      bit q.facetsAtRun f = true → ∃ t k, exec (.vecA site pi) s = .next t
        ∧ t.dispatched s site (piWord 0x02 pi) [SQ_PIERR.IA.key site 0] ∧ k = q.pat.covered q.section_ n 1
        ∧ (t.seq site).queue = q.queue ++ (if k = 0 then [] else [.bundle .stored k (vec n) false none]) ++ more k 1
        ∧ (t.seq site).issued = q.issued + k ∧ (t.seq site).ureg 14 = (n + k) % 2 ^ 40
        ∧ (t.seq site).ureg 13 = next ∧ (t.seq site).facet = f)
    ∧ (s.canDispatch site (piWord 0x03 pi) → sound 0x03 → q.facetOf (piWord 0x03 pi) = some f → q.full = false →
      (q.lastVa = none → ∃ t, exec (.rpt site pi) s = .next t
        ∧ t.dispatched s site (piWord 0x03 pi) [SQ_PIERR.IA.key site 0]
        ∧ (t.seq site).queue = q.queue ++ [.halt 0xFF03 (some ia)] ∧ (t.seq site).ended = true)
      ∧ (∀ last, q.lastVa = some last → 0 < n → bit q.facetsAtRun f = true → ∃ t k, exec (.rpt site pi) s = .next t
        ∧ t.dispatched s site (piWord 0x03 pi) [SQ_PIERR.IA.key site 0]
        ∧ k = (if q.pat.covered q.section_ last 1 = 1 then n else 0)
        ∧ (t.seq site).queue = q.queue ++ (if k = 0 then [] else [.bundle .held k (vec last) false none]) ++ more k n
        ∧ (t.seq site).issued = q.issued + k ∧ (t.seq site).ureg 14 = va ∧ (t.seq site).lastVa = some last))

/-- R114–R119, R122, R129. LOOP opens a level with its count less one, ENDL goes back to the recorded IA and VA while
iterations are left and otherwise closes the level, a buffered loop's ENDL queues its replay; JMP, CALL and RET move the
IA, the last two with the call stack; BRC on an internal condition moves it at once, BRC on a reduction condition leaves a
pending branch whose reference is the last vector issued, with its target head already executed. -/
def Obligations.ControlFlowPisMove : Prop :=
  ∀ (site : Fin 64) (pi : PI) (f : Nat) (s : State),
    let q := s.seq site
    let next := (q.ureg 13 + 1) % 2 ^ 32
    let target := pi.operand.toNat % 2 ^ 32
    let depth := q.loops.length
    let sound (op : Nat) : Prop := q.badSlices (.entry (BitVec.ofNat 8 op)) = 0
    (s.canDispatch site (piWord 0x10 pi) → sound 0x10 → q.facetOf (piWord 0x10 pi) = some f →
      ∃ t, exec (.jmp site pi) s = .next t ∧ t.dispatched s site (piWord 0x10 pi) [] ∧ (t.seq site).ureg 13 = target
        ∧ (t.seq site).queue = q.queue ∧ (t.seq site).loops = q.loops ∧ (t.seq site).calls = q.calls)
    ∧ (s.canDispatch site (piWord 0x11 pi) → sound 0x11 → q.facetOf (piWord 0x11 pi) = some f → q.calls.length < 16 →
      ∃ t, exec (.call site pi) s = .next t ∧ t.dispatched s site (piWord 0x11 pi) [] ∧ (t.seq site).ureg 13 = target
        ∧ (t.seq site).calls = ⟨next, q.ureg 14, depth⟩ :: q.calls ∧ t.rd SQ_NEST.SDEPTH site = q.calls.length + 1)
    ∧ (∀ c rest, q.calls = c :: rest → c.depth = depth →
      s.canDispatch site (piWord 0x12 pi) → sound 0x12 → q.facetOf (piWord 0x12 pi) = some f →
      ∃ t, exec (.ret site pi) s = .next t ∧ t.dispatched s site (piWord 0x12 pi) []
        ∧ (t.seq site).ureg 13 = c.ia % 2 ^ 32 ∧ (t.seq site).ureg 14 = c.va % 2 ^ 40 ∧ (t.seq site).calls = rest)
    ∧ (s.canDispatch site (piWord 0x08 pi) → sound 0x08 → q.facetOf (piWord 0x08 pi) = some f → target ≠ 0 → depth < 4 →
      ∃ t fr, exec (.loop site pi) s = .next t
        ∧ t.dispatched s site (piWord 0x08 pi) [SQ_LC.COUNT.key site depth] ∧ (t.seq site).loops = fr :: q.loops
        ∧ fr.ia = next ∧ fr.va = q.ureg 14 ∧ fr.buffered = !s.opensUnbuffered site next (piWord 0x08 pi)
        ∧ fr.starter = (fr.buffered && q.recBase.isNone)
        ∧ (t.seq site).queue = q.queue ++ (if fr.starter then [.recStart] else [])
        ∧ t.rd SQ_LC.COUNT site depth = target - 1 ∧ (t.seq site).ureg 13 = next)
    ∧ (∀ fr rest, q.loops = fr :: rest → rest.length < 4 → (∀ c ∈ q.calls.head?, c.depth ≤ rest.length) →
      s.canDispatch site (piWord 0x09 pi) → sound 0x09 → q.facetOf (piWord 0x09 pi) = some f →
      let left := s.rd SQ_LC.COUNT site rest.length
      let len := q.issued - q.recBase.getD 0 - fr.recFrom
      (fr.buffered = false → q.section_ = false → 0 < left → ∃ t, exec (.endl site pi) s = .next t
        ∧ t.dispatched s site (piWord 0x09 pi) [SQ_LC.COUNT.key site rest.length]
        ∧ t.rd SQ_LC.COUNT site rest.length = (left - 1) % 2 ^ SQ_LC.COUNT.w ∧ (t.seq site).loops = q.loops
        ∧ (t.seq site).queue = q.queue
        ∧ (t.seq site).ureg 13 = fr.ia % 2 ^ 32 ∧ (t.seq site).ureg 14 = fr.va % 2 ^ 40)
      ∧ (fr.buffered = false → q.section_ = false → left = 0 → ∃ t, exec (.endl site pi) s = .next t
        ∧ t.dispatched s site (piWord 0x09 pi) [SQ_LC.COUNT.key site rest.length] ∧ (t.seq site).loops = rest
        ∧ (t.seq site).queue = q.queue ∧ t.rd SQ_LC.COUNT site rest.length = 0 ∧ (t.seq site).ureg 13 = next)
      ∧ (fr.buffered = true → q.full = false → 0 < left → 0 < len → ∃ t, exec (.endl site pi) s = .next t
        ∧ t.dispatched s site (piWord 0x09 pi) [SQ_LC.COUNT.key site rest.length] ∧ (t.seq site).loops = rest
        ∧ (t.seq site).queue = q.queue ++ (if fr.starter then [.recEnd] else [])
          ++ [.replay fr.recFrom (fr.recFrom + len) left 0 none]
        ∧ (t.seq site).issued = q.issued + len * left ∧ (t.seq site).ureg 13 = next))
    ∧ (s.canDispatch site (piWord 0x14 pi) → sound 0x14 → q.facetOf (piWord 0x14 pi) = some f →
      let c := piCondition (piWord 0x14 pi)
      let h := s.runHead site 4 { ia := target, va := q.ureg 14 }
      condOk 0x14 c.cls c.idx = true →
      (0xA ≤ c.cls → ∃ t, exec (.brc site pi) s = .next t ∧ t.dispatched s site (piWord 0x14 pi) []
        ∧ (t.seq site).ureg 13 = (if s.internalCond site c then target else next) ∧ (t.seq site).brc = q.brc
        ∧ (t.seq site).queue = q.queue)
      ∧ (c.cls < 0xA → 0 < q.issued → target < q.pat.npi → piOp (s.piAt site target) = 0x02 →
        ∃ t b, exec (.brc site pi) s = .next t ∧ t.dispatched s site (piWord 0x14 pi) [SQ_NEST.PENDBR.key site 0]
          ∧ (t.seq site).brc = some b ∧ b.ref = q.issued - 1 ∧ b.cond = c ∧ b.depth = depth
          ∧ b.target = h.items ∧ b.targetIa = h.ia ∧ b.targetVa = h.va ∧ b.targetNext = h.next
          ∧ t.rd SQ_NEST.PENDBR site = 1 ∧ (t.seq site).queue = q.queue ∧ (t.seq site).ureg 13 = next))

/-- R102, R104, R112, R113, R130, R133, R134, R136, R137, R139, R141, R161. MATCH opens its body, WAITX, SYNC, STRM and
HALT enter the queue behind the vectors issued, TSW sets the Facet, CAP and FLAG mark the next vector, FLAG sets its flag,
and a customer opcode starts the routine that its dispatch entry names with an empty micro-stack, or ends the site with
0xFF01 where the entry names none. -/
def Obligations.OtherPisAct : Prop :=
  ∀ (site : Fin 64) (pi : PI) (op : BitVec 6) (f : Nat) (s : State),
    let q := s.seq site
    let o := pi.operand.toNat
    let a := pi.cond.toNat
    let next := (q.ureg 13 + 1) % 2 ^ 32
    let sound (op : Nat) : Prop := q.badSlices (.entry (BitVec.ofNat 8 op)) = 0
    let xw := piWord (0xC0 + op.toNat) pi
    (s.canDispatch site (piWord 0x18 pi) → sound 0x18 → q.facetOf (piWord 0x18 pi) = some f →
      let c := piCondition (piWord 0x18 pi)
      condOk 0x18 c.cls c.idx = true → 0 < o % 2 ^ 24 →
      ∃ t, exec (.matchPi site pi) s = .next t ∧ t.dispatched s site (piWord 0x18 pi) [SQ_NEST.PENDBR.key site 0]
        ∧ (t.seq site).body = some ⟨c, o / 2 ^ 24 % 2 ^ 12 + 1, o % 2 ^ 24, q.issued, none⟩
        ∧ (t.seq site).queue = q.queue ++ [.recStart] ∧ t.rd SQ_NEST.PENDBR site = 1 ∧ (t.seq site).ureg 13 = next)
    ∧ (s.canDispatch site (piWord 0x19 pi) → sound 0x19 → q.facetOf (piWord 0x19 pi) = some f →
      let c := piCondition (piWord 0x19 pi)
      let b := o % 2 ^ 36
      ∀ last, condOk 0x19 c.cls c.idx = true → q.lastVa = some last →
      (b = 0 ∨ q.full = false ∧ q.pat.covered q.section_ last 1 ≠ 0) →
      ∃ t, exec (.waitx site pi) s = .next t ∧ t.dispatched s site (piWord 0x19 pi) [SQ_NEST.PENDBR.key site 0]
        ∧ (t.seq site).queue
          = q.queue ++ [.waitx c q.issued b none (q.headVec last f pi.cms.toNat pi.capc.toNat) none]
        ∧ (t.seq site).gate = true ∧ t.rd SQ_NEST.PENDBR site = 1 ∧ (t.seq site).ureg 13 = next)
    ∧ (s.canDispatch site (piWord 0x20 pi) → sound 0x20 → q.facetOf (piWord 0x20 pi) = some f →
      ∃ t, exec (.sync site pi) s = .next t ∧ t.dispatched s site (piWord 0x20 pi) []
        ∧ (t.seq site).queue = q.queue
          ++ [.sync (bit o 39) a (if o % 2 ^ 20 = 0 then 2 ^ 20 else o % 2 ^ 20) none]
        ∧ (t.seq site).gate = true ∧ (t.seq site).ureg 13 = next)
    ∧ (s.canDispatch site (piWord 0x21 pi) → sound 0x21 → q.facetOf (piWord 0x21 pi) = some f →
      ∃ t, exec (.tsw site pi) s = .next t ∧ t.dispatched s site (piWord 0x21 pi) [] ∧ (t.seq site).facet = f
        ∧ (t.seq site).queue = q.queue ∧ (t.seq site).issued = q.issued ∧ (t.seq site).ureg 13 = next)
    ∧ (s.canDispatch site (piWord 0x22 pi) → sound 0x22 → q.facetOf (piWord 0x22 pi) = some f →
      ∃ t, exec (.cap site pi) s = .next t ∧ t.dispatched s site (piWord 0x22 pi) []
        ∧ (t.seq site).next.event = some a ∧ (t.seq site).next.mark = some (o % 2 ^ 16)
        ∧ (t.seq site).queue = q.queue ∧ (t.seq site).issued = q.issued ∧ (t.seq site).ureg 13 = next)
    ∧ (s.canDispatch site (piWord 0x23 pi) → sound 0x23 → q.facetOf (piWord 0x23 pi) = some f →
      ∃ t, exec (.flag site pi) s = .next t ∧ t.dispatched s site (piWord 0x23 pi) [SQ_FLAGS.F.key site 0]
        ∧ (bit o 1 = true → bit (t.rd SQ_FLAGS.F site) (a % 8) = bit a 3)
        ∧ (∀ k < 8, (bit o 1 = false ∨ k ≠ a % 8) → bit (t.rd SQ_FLAGS.F site) k = bit (s.rd SQ_FLAGS.F site) k)
        ∧ (t.seq site).next.failMark = (bit o 0 || q.next.failMark)
        ∧ (t.seq site).queue = q.queue ∧ (t.seq site).ureg 13 = next)
    ∧ (s.canDispatch site (piWord 0x24 pi) → sound 0x24 → q.facetOf (piWord 0x24 pi) = some f →
      (bit a 0 = true → q.section_ = false → s.on SQ_SRSTAT.OPEN site = true →
        ∃ t, exec (.strm site pi) s = .next t ∧ t.dispatched s site (piWord 0x24 pi) [] ∧ (t.seq site).section_ = true
          ∧ (t.seq site).queue = q.queue ++ [.sectionStart (bit a 1)] ∧ t.rd SQ_NEST.STRM site = 1)
      ∧ (bit a 0 = false → q.section_ = true →
        ∃ t, exec (.strm site pi) s = .next t ∧ t.dispatched s site (piWord 0x24 pi) [] ∧ (t.seq site).section_ = false
          ∧ (t.seq site).queue = q.queue ++ [.sectionEnd] ∧ t.rd SQ_NEST.STRM site = 0))
    ∧ (s.canDispatch site (piWord 0x2F pi) → sound 0x2F → q.facetOf (piWord 0x2F pi) = some f →
      ∃ t, exec (.haltPi site pi) s = .next t ∧ t.dispatched s site (piWord 0x2F pi) [] ∧ (t.seq site).ended = true
        ∧ (t.seq site).queue = q.queue ++ [.halt (o % 2 ^ 16) none])
    ∧ (s.canDispatch site xw →
      (s.on SQ_DISP.VALID site op.toNat = true → sound (0xC0 + op.toNat) → q.facetOf xw = some f →
        ∃ t, exec (.xop site op pi) s = .next t
          ∧ t.dispatched s site xw [SQ_UPC.UPC.key site 0, SQ_UPC.WAITING.key site 0, SQ_UPC.STALL.key site 0]
          ∧ (t.seq site).inRoutine = true ∧ (t.seq site).mstack = []
          ∧ t.rd SQ_UPC.UPC site = s.rd SQ_DISP.UADDR site op.toNat % 2 ^ 12 ∧ (t.seq site).queue = q.queue)
      ∧ (s.on SQ_DISP.VALID site op.toNat = false →
        ∃ t, exec (.xop site op pi) s = .next t ∧ t.dispatched s site xw [SQ_PIERR.IA.key site 0]
          ∧ (t.seq site).ended = true ∧ (t.seq site).inRoutine = false
          ∧ (t.seq site).queue = q.queue ++ [.halt 0xFF01 (some (q.ureg 13))]))

/-- R107, R159, R179, R423. The PI that arrives at the sequencer is dispatched as its opcode says, with every field of the
word; a granule that arrives in its turn brings its codes to the stream buffer; an uncorrectable error in either halts the
RUNNING site with cause 4. -/
def Obligations.ArrivalsDispatchOrHalt : Prop :=
  (∀ (site : Fin 64) (s : State) (op : Nat) (pi : PI) (c : Instr),
    s.piAt site ((s.seq site).ureg 13) = piWord op pi →
    (op, c) ∈ ([(0x01, .vec site pi), (0x02, .vecA site pi), (0x03, .rpt site pi), (0x08, .loop site pi),
      (0x09, .endl site pi), (0x10, .jmp site pi), (0x11, .call site pi), (0x12, .ret site pi), (0x14, .brc site pi),
      (0x18, .matchPi site pi), (0x19, .waitx site pi), (0x20, .sync site pi), (0x21, .tsw site pi), (0x22, .cap site pi),
      (0x23, .flag site pi), (0x24, .strm site pi), (0x2F, .haltPi site pi)] : List (Nat × Instr)) →
    exec (.piFetchArrival site false) s = exec c s)
  ∧ (∀ (site : Fin 64) (s : State) (op : BitVec 6) (pi : PI),
    s.piAt site ((s.seq site).ureg 13) = piWord (0xC0 + op.toNat) pi →
    exec (.piFetchArrival site false) s = exec (.xop site op pi) s)
  ∧ (∀ (site : Fin 64) (s : State), s.site site = stRunning →
    ∃ t, exec (.piFetchArrival site true) s = .next t ∧ t.site site = stHalting ∧ t.rd SQ_STATE.CAUSE site = 4)
  ∧ (∀ (unit : Fin 532) (i : Nat) (r : GranReq) (rest : List GranReq) (s : State), (s.chan unit).reqs = r :: rest →
    s.siteOf (s.playsFor unit) = some i →
    (s.reqTurn unit = false → ∀ e, exec (.granuleArrival unit e) s = .next s)
    ∧ (s.reqTurn unit = true → s.site i = stRunning →
      ∃ t, exec (.granuleArrival unit true) s = .next t ∧ t.site i = stHalting ∧ t.rd SQ_STATE.CAUSE i = 4)
    ∧ (s.reqTurn unit = true → r.dst = 0 → ∃ t, exec (.granuleArrival unit false) s = .next t
        ∧ (s.chan unit).fifo ++ (List.range r.n).map (fun k => (⟨r.va + k, s.codeAt unit (r.va + k), s.tt⟩ : Code))
          <+: (t.chan unit).fifo
        ∧ t.regs = s.regs ∧ t.seqs = s.seqs ∧ t.sameMemory s ∧ (∀ u, u ≠ unit.val → t.chan u = s.chan u)))

/-- R151–R153, R156–R162, R172. A sound microword of a customer routine that neither waits, issues nor calls a special
function: the ALU's result is written, and the next word is the one that NSEL names; a word that waits stays until its
bound, and then goes to TADDR if its condition is still false. A word read with a parity error stops the sequencer with a
machine check and is recorded. A word with a function reserved to the vendor, and an address above the control store, stop
the model, as the specification gives them no effect. -/
def Obligations.MicrowordsRun : Prop :=
  ∀ (site : Fin 64) (ext : ExtLines) (u : BitVec 12) (s : State),
    let q := s.seq site
    let upc := s.rd SQ_UPC.UPC site
    let p := s.csPlace site upc
    let w := s.microWord site 0
    let c := s.microCond site (s.wired ext s.tt) w
    let inc := (upc + 1) % 4096
    let x := q.ureg (mwRa w)
    let y := if mwBimm w then mwImm w else q.ureg (mwRb w)
    s.busySite site = true → q.inRoutine = true → q.closing = false → s.badMatch site = none →
    (0xC40 ≤ placeNumber p → exec (.microword site ext u 0) s = .fault .noMicroword)
    ∧ (placeNumber p < 0xC40 → s.slicesOf site 0 p ≠ 0 →
      ∃ t, exec (.microword site ext u 0) s = .next t ∧ t.site site = stMachineCheck ∧ t.rd SQ_STATE.CAUSE site = 3
        ∧ t.rd SQ_UERR.VALID site = 1 ∧ t.rd SQ_UERR.SCRUB site = 0 ∧ t.rd SQ_UERR.UADDR site = placeNumber p
        ∧ t.rd SQ_UERR.REGION site = placeRegion p ∧ t.rd SQ_UERR.SLICE site = s.slicesOf site 0 p % 2 ^ 8)
    ∧ (placeNumber p < 0xC40 → s.slicesOf site 0 p = 0 →
      (mwVendor w = true → exec (.microword site ext u 0) s = .fault .vendorFunction)
      ∧ (mwVendor w = false → q.stall = none → mwWait w = true → c = false →
        q.waited + 1 < s.rd SQ_UBND.BOUND site (mwWbnd w) →
        ∃ t, exec (.microword site ext u 0) s = .next t ∧ t.rd SQ_UPC.WAITING site = 1 ∧ t.rd SQ_UPC.UPC site = upc
          ∧ (t.seq site).u = q.u ∧ (t.seq site).queue = q.queue)
      ∧ (mwVendor w = false → q.stall = none → mwIssue w = 0 → mwSfn w = 0 → (mwWait w = false ∨ c = true) →
        ∃ t, exec (.microword site ext u 0) s = .next t ∧ t.sameMemory s ∧ t.sameUnits s
          ∧ (∀ j, j ≠ site.val → t.seq j = s.seq j) ∧ (t.seq site).queue = q.queue
          ∧ (mwAlu w = 0 ∨ mwRdwe w = false → (t.seq site).u = q.u)
          ∧ (mwAlu w ≠ 0 → mwRdwe w = true → mwRd w ≠ 0 →
            (t.seq site).ureg (mwRd w) = (alu (mwAlu w) x y).1 % 2 ^ uregWidth (mwRd w)
              ∧ ∀ r, r ≠ mwRd w → (t.seq site).ureg r = q.ureg r)
          ∧ (mwAlu w ≠ 0 → (t.seq site).zf = decide ((alu (mwAlu w) x y).1 = 0)
              ∧ (t.seq site).nf = bit (alu (mwAlu w) x y).1 47 ∧ (t.seq site).cf = (alu (mwAlu w) x y).2)
          ∧ (mwNsel w = 0 → t.rd SQ_UPC.UPC site = inc) ∧ (mwNsel w = 1 → t.rd SQ_UPC.UPC site = mwNaddr w)
          ∧ (mwNsel w = 2 → t.rd SQ_UPC.UPC site = if c then mwNaddr w else inc)
          ∧ (mwNsel w = 3 → t.rd SQ_UPC.UPC site = (mwNaddr w + x % 16) % 4096)
          ∧ (mwNsel w = 4 → (t.seq site).inRoutine = false
              ∧ (q.ended = false → t.rd SQ_IA.IA site = (t.seq site).ureg 13 % 2 ^ 32))
          ∧ (mwNsel w = 5 → t.rd SQ_UPC.UPC site = mwNaddr w ∧ (t.seq site).mstack = inc :: q.mstack)
          ∧ (mwNsel w = 6 → t.rd SQ_UPC.UPC site = q.mstack.headD 0 % 4096 ∧ (t.seq site).mstack = q.mstack.tail))
      ∧ (mwVendor w = false → q.stall = none → mwIssue w = 0 → mwSfn w = 0 → mwWait w = true →
        s.on SQ_UPC.WAITING site = true →
        ∃ t, exec (.waitBoundExpiry site ext) s = .next t ∧ t.rd SQ_UPC.WAITING site = 0
          ∧ (c = false → t.rd SQ_UPC.UPC site = mwTaddr w) ∧ (c = true → mwNsel w = 0 → t.rd SQ_UPC.UPC site = inc)
          ∧ (t.seq site).queue = q.queue ∧ t.sameMemory s ∧ t.sameUnits s))

/-- R90, R155. A VEC that stalled at a full queue goes on once the queue has room, or at once on a HALTING site, where
its bundle is discarded: U14 follows its vectors and the IA is that of the next PI. Where nothing stalls, or the queue
of a RUNNING site is still full, nothing changes. R172, R173. A scrub that finds no slice in error changes nothing;
one that does records place and slices in SQ_UERR with SCRUB, reports a CS_SCRUB fault, and clears the region's
status: customer RAM and patch RAM by their bit, the mask ROM by a fence of the sequencer. For a dispatch entry or
match register SLICE is bit 0 alone. -/
def Obligations.StallsEndAndScrubsRecord : Prop :=
  (∀ (site : Fin 64) (pi : PI) (f : Nat) (s : State),
      let q := s.seq site
      (q.stall = none ∨ s.busySite site = false ∨ s.site site = stRunning ∧ q.full = true →
        exec (.issueStallEnd site) s = .next s)
      ∧ (q.stall = some (piWord 0x01 pi) → q.closing = false → q.inRoutine = false → q.body = none → q.ended = false →
        s.speculative site = false → q.facetOf (piWord 0x01 pi) = some f → bit q.facetsAtRun f = true →
        0 < pi.operand.toNat → q.pat.covered q.section_ (q.ureg 14) pi.operand.toNat = pi.operand.toNat →
        (s.site site = stHalting ∨ s.site site = stRunning ∧ q.full = false →
          ∃ t, exec (.issueStallEnd site) s = .next t ∧ t.rd SQ_UPC.STALL site = 0 ∧ (t.seq site).stall = none
            ∧ (t.seq site).queue = q.queue ++ (if s.site site = stHalting then [] else
              [.bundle (if q.section_ then .ring else .stored) pi.operand.toNat
                (q.headVec (q.ureg 14) f pi.cms.toNat pi.capc.toNat) false none])
            ∧ (t.seq site).ureg 14 = (q.ureg 14 + pi.operand.toNat) % 2 ^ 40
            ∧ t.rd SQ_IA.IA site = q.ureg 13 % 2 ^ 32 ∧ t.sameMemory s ∧ t.sameUnits s)))
  ∧ (∀ (site : Fin 64) (kind : CsKind) (addr : BitVec 12) (slices : BitVec 8) (s : State),
      let place := CsPlace.of kind addr
      let none_ : Prop := slices = 0 ∨ 0xC40 ≤ placeKey place ∧ placeKey place < 0x1000
      (none_ → exec (.csScrub site kind addr slices) s = .next s)
      ∧ (¬ none_ → ∃ (v t : State) (ms : List FaultMsg), exec (.csScrub site kind addr slices) s = .next t
          ∧ t = v.takeFaults (csMessage site place 0x11 2 6 :: ms)
          ∧ t.rd SQ_UERR.UADDR site = placeNumber place ∧ t.rd SQ_UERR.REGION site = placeRegion place
          ∧ t.rd SQ_UERR.SLICE site = (if placeKey place < 0x1000 then slices.toNat else 1)
          ∧ t.rd SQ_UERR.SCRUB site = 1 ∧ t.rd SQ_UERR.VALID site = 1
          ∧ (placeRegion place = 1 → t.rd SQ_UCTL.CUSTOK site = 0)
          ∧ (placeRegion place = 2 → t.rd SQ_UCTL.PATCHOK site = 0)
          ∧ (placeRegion place = 0 → t.fenced (532 + site) = true)))

/-- R97–R99, R134–R136. When every RUNNING member of an in-chip barrier waits, all are released at one instant, 32
ticks after the last member's arrival or departure, with F7 = 0; a SYNC that no release has reached is withdrawn at
its timeout with F7 = 1; a release at or before the expiry, or in the expiry's CK_SEQ cycle, counts instead. R178,
R181, R194. RUN_START puts the start of the cycle grid at the start time; a bundle that the site fabric delivers is
the oldest one not delivered; an engine of the site whose stream buffer has room for it reads its segment of the next
complete ring frame. -/
def Obligations.SyncsAndDeliveriesAct : Prop :=
  ((∀ (bar : Fin 16) (s : State) (T : Nat), s.barrierTime bar = some T →
      ∃ t, exec (.barrierRelease bar) s = .next t ∧ T ≤ t.tt ∧ t.sameMemory s ∧ t.sameUnits s
        ∧ ∀ i < 64, bit (s.rd SQ_BARMEM.MEMBER i) bar.val = true → s.waitsAt bar i = true →
          t.rd SQ_BARSTAT.WAITING i = 0 ∧ bit (t.rd SQ_FLAGS.F i) 7 = false
            ∧ ∀ r b n rest, (s.seq i).queue = .sync r b n none :: rest → (t.seq i).queue = .sync r b n (some T) :: rest)
    ∧ (∀ (site : Fin 64) (s : State) (r : Bool) (b n : Nat) (rest : List Item),
      let T := (s.seq site).barTime + 4 * n
      (s.seq site).queue = .sync r b n none :: rest → (s.seq site).arrived = true → s.site site = stRunning →
      ((∀ e ∈ s.syncRelease site r b, T < e ∧ e / 4 ≠ T / 4) →
        ∃ t, exec (.syncTimeout site) s = .next t ∧ t.tt = max s.tt T
          ∧ (t.seq site).queue = .sync r b n (some T) :: rest
          ∧ bit (t.rd SQ_FLAGS.F site) 7 = true ∧ t.rd SQ_BARSTAT.WAITING site = 0 ∧ t.sameMemory s ∧ t.sameUnits s)
      ∧ (∀ e, s.syncRelease site r b = some e → e ≤ T ∨ e / 4 = T / 4 →
        ∃ t, exec (.syncTimeout site) s = .next t ∧ t.tt = max s.tt e
          ∧ (t.seq site).queue = .sync r b n (some e) :: rest
          ∧ bit (t.rd SQ_FLAGS.F site) 7 = false ∧ t.rd SQ_BARSTAT.WAITING site = 0 ∧ t.sameMemory s ∧ t.sameUnits s)))
  ∧ ((∀ (site : Fin 64) (s : State), s.busySite site = true → (s.seq site).started = false →
      (s.seq site).waitBarrier = false → (s.seq site).vecEnd = false →
      ∃ t, exec (.runStart site) s = .next t ∧ (t.seq site).started = true
        ∧ (t.seq site).cyc = s.rd SQ_RUNT.T site * 1250 ∧ (t.seq site).queue = (s.seq site).queue ∧ t.regs = s.regs
        ∧ t.sameMemory s ∧ t.sameUnits s ∧ ∀ j, j ≠ site.val → t.seq j = s.seq j)
    ∧ (∀ (site : Fin 64) (s : State) (before queue : List Item) (it : Item),
      deliverFirst s.tt (s.seq site).queue = some (before, it, queue) →
      ∃ t, exec (.bundleDelivery site) s = .next t ∧ (t.seq site).queue = queue ∧ t.regs = s.regs ∧ t.sameMemory s
        ∧ ∀ j, j ≠ site.val → t.seq j = s.seq j)
    ∧ (∀ (unit : Fin 532) (i : Nat) (s : State), s.siteOf (s.playsFor unit) = some i →
      (s.engines i).contains unit.val = true → s.on SQ_SRSTAT.OPEN i = true →
      let c := s.chan unit
      let held := (s.rd SQ_SRWR.WR i + 2 ^ 32 - c.ringRead) % 2 ^ 32
      let base := s.rd SQ_SRBASE.BASE i * 256
        + (c.ringRead % max 1 (s.rd SQ_SRSIZE.FRAMES i)) * s.rd SQ_SRFLEN.FLEN i
      let count := field (s.vmem.readN base 32) 4 2
      0 < held → held ≤ 65536 → count ≤ c.room →
      ∃ t, exec (.streamSegmentRead unit) s = .next t ∧ (t.chan unit).ringRead = (c.ringRead + 1) % 2 ^ 32
        ∧ c.ringCodes <+: (t.chan unit).ringCodes ∧ (t.chan unit).ringCodes.length = c.ringCodes.length + count
        ∧ t.sameMemory s ∧ t.sameRegs s [SQ_SRRD.RD.key i 0] ∧ ∀ u, u ≠ unit.val → t.chan u = s.chan u))

/-- R18, R20, R110, R180, R365. A cycle of a RUNNING one-chip site with no branch pending: with a repeat at the head of the
queue that had reached the engines by the report, 64 ticks before the cycle, a vector plays, and the vector count and the
grid advance by one and by the Facet's period; with nothing queued a pad cycle takes the same time in the Facet in force
and no vector is counted. Each is one slot. -/
def Obligations.VectorCyclesAdvance : Prop :=
  ∀ (site : Fin 64) (ext : ExtLines) (moves : List LineMove) (s : State),
    let q := s.seq site
    s.site site = stRunning → q.started = true → q.vecEnd = false → q.brc = none → s.rd SQ_STATE.CHIPS site ≤ 1 →
    (∀ n v inh a rest, q.queue = .bundle .held n v inh (some a) :: rest → 2 ≤ n → a < q.reportTick →
      ∃ t, exec (.vectorCycle site ext moves) s = .next t ∧ (t.seq site).vk = q.vk + 1
        ∧ (t.seq site).cyc = q.cyc + s.periodOf site v.facet
        ∧ (t.seq site).queue = .bundle .held (n - 1) v.plain inh (some a) :: rest
        ∧ t.rd PM_SLOTS.COUNT site = min (s.rd PM_SLOTS.COUNT site + 1) (2 ^ 48 - 1))
    ∧ (q.queue = [] →
      ∃ t, exec (.vectorCycle site ext moves) s = .next t ∧ (t.seq site).vk = q.vk ∧ (t.seq site).queue = []
        ∧ (t.seq site).cyc = q.cyc + s.periodOf site (if q.played then q.lastVec.facet else q.facet)
        ∧ t.rd PM_SLOTS.COUNT site = min (s.rd PM_SLOTS.COUNT site + 1) (2 ^ 48 - 1))
end

