-- ==== Sys2Proof/Laws/Bits.lean ====
section
/-!
SUPPORT. Byte strings, little-endian numbers and bit fields: lengths, and reading what was written.
-/
namespace Sys2Proof.Machine

/-! ## Lengths -/

@[simp] theorem length_zeros (n : Nat) : (zeros n).length = n := by simp [zeros]

@[simp] theorem length_toLe (n v : Nat) : (toLe n v).length = n := by
  induction n generalizing v with
  | zero => rfl
  | succ n ih => simp [toLe, ih]

@[simp] theorem length_fit (n : Nat) (bs : Bytes) : (fit n bs).length = n := by simp [fit]; omega

@[simp] theorem length_digest (bs : Bytes) : (digest bs).length = 48 := by simp [digest]

/-! ## Little-endian numbers -/

/-- The number of `n` bytes is the value modulo 256ⁿ. -/
theorem le_toLe (n v : Nat) : le (toLe n v) = v % 256 ^ n := by
  induction n generalizing v with
  | zero => simp [toLe, le, Nat.mod_one]
  | succ n ih =>
    rw [toLe, le, ih, Nat.pow_succ', Nat.mod_mul]
    simp

theorem le_toLe_of_lt {n v : Nat} (h : v < 256 ^ n) : le (toLe n v) = v := by rw [le_toLe, Nat.mod_eq_of_lt h]

theorem le_lt (bs : Bytes) : le bs < 256 ^ bs.length := by
  induction bs with
  | nil => simp [le]
  | cons b bs ih =>
    have := b.isLt
    simp only [le, List.length_cons, Nat.pow_succ]
    omega

/-! ## Fields of byte strings -/

/-- A field within the second part. -/
theorem field_append_right (a b : Bytes) (k n : Nat) : field (a ++ b) (a.length + k) n = field b k n := by
  simp [field, List.drop_append, List.drop_eq_nil_of_le (Nat.le_add_right a.length k)]

/-- A field within the first part. -/
theorem field_append_left (a b : Bytes) {k n : Nat} (h : k + n ≤ a.length) : field (a ++ b) k n = field a k n := by
  have : (a.drop k ++ b).take n = (a.drop k).take n := List.take_append_of_le_length (by simp; omega)
  simp only [field]
  rw [List.drop_append_of_le_length (by omega), this]

theorem zeroAt_append_right (a b : Bytes) (k n : Nat) : zeroAt (a ++ b) (a.length + k) n = zeroAt b k n := by
  simp [zeroAt, List.drop_append, List.drop_eq_nil_of_le (Nat.le_add_right a.length k)]

/-- The number written at the start reads back. -/
theorem field_toLe {n v : Nat} (b : Bytes) (h : v < 256 ^ n) : field (toLe n v ++ b) 0 n = v := by
  rw [field_append_left _ _ (by simp)]
  simp [field, List.take_of_length_le, le_toLe_of_lt h]

/-- Equal records one after another: what follows the first `n` of `m` begins with record `n`. -/
theorem drop_records (f : Nat → Bytes) (w : Nat) (hf : ∀ n, (f n).length = w) (n : Nat) :
    ∀ k m, n < m → ∃ rest, ((List.range' k m).flatMap f).drop (w * n) = f (k + n) ++ rest := by
  induction n with
  | zero =>
    intro k m h
    obtain ⟨m, rfl⟩ : ∃ x, m = x + 1 := ⟨m - 1, by omega⟩
    exact ⟨(List.range' (k + 1) m).flatMap f, by simp [List.range'_succ]⟩
  | succ n ih =>
    intro k m h
    obtain ⟨m, rfl⟩ : ∃ x, m = x + 1 := ⟨m - 1, by omega⟩
    obtain ⟨rest, hr⟩ := ih (k + 1) m (by omega)
    refine ⟨rest, ?_⟩
    rw [List.range'_succ, List.flatMap_cons, List.drop_append, List.drop_eq_nil_of_le (by rw [hf]; exact Nat.le_mul_of_pos_right _ (by omega)),
      hf, show w * (n + 1) - w = w * n by rw [Nat.mul_succ]; omega, hr, show k + 1 + n = k + (n + 1) by omega]
    rfl

/-- The `n`-th of equal records at its place. -/
theorem field_records (f : Nat → Bytes) (w m n k l : Nat) (hf : ∀ n, (f n).length = w) (hn : n < m) (hk : k + l ≤ w) :
    field ((List.range m).flatMap f) (w * n + k) l = field (f n) k l := by
  obtain ⟨rest, hr⟩ := drop_records f w hf n 0 m hn
  have : ((List.range m).flatMap f).drop (w * n) = f n ++ rest := by simpa [List.range_eq_range'] using hr
  rw [show field ((List.range m).flatMap f) (w * n + k) l = field (((List.range m).flatMap f).drop (w * n)) k l by
    simp [field], this, field_append_left _ _ (by rw [hf]; exact hk)]

/-! ## CRC-32 -/

theorem crcBit_lt {poly c : Nat} (hp : poly < 2 ^ 32) (hc : c < 2 ^ 32) : crcBit poly c < 2 ^ 32 := by
  unfold crcBit
  split
  · exact Nat.xor_lt_two_pow (by omega) hp
  · omega

theorem crcByte_lt {poly c : Nat} (b : Byte) (hp : poly < 2 ^ 32) (hc : c < 2 ^ 32) : crcByte poly c b < 2 ^ 32 := by
  have h0 : c ^^^ b.toNat < 2 ^ 32 := Nat.xor_lt_two_pow hc (by have := b.isLt; omega)
  have : ∀ (l : List Nat) (c : Nat), c < 2 ^ 32 → l.foldl (fun c _ => crcBit poly c) c < 2 ^ 32 := by
    intro l
    induction l with
    | nil => exact fun _ h => h
    | cons _ l ih => exact fun c h => ih _ (crcBit_lt hp h)
  exact this _ _ h0

/-- The check code has 32 bits. -/
theorem crc32_lt (bs : Bytes) : crc32 bs < 2 ^ 32 := by
  have : ∀ (l : Bytes) (c : Nat), c < 2 ^ 32 → l.foldl (crcByte 0xEDB88320) c < 2 ^ 32 := by
    intro l
    induction l with
    | nil => exact fun _ h => h
    | cons b l ih => exact fun c h => ih _ (crcByte_lt b (by decide) h)
  exact Nat.xor_lt_two_pow (this bs _ (by decide)) (by decide)

/-! ## Bit fields -/

theorem bits_lt (x lo w : Nat) : bits x lo w < 2 ^ w := Nat.mod_lt _ (Nat.two_pow_pos w)

@[simp] theorem b2n_true : b2n true = 1 := rfl
@[simp] theorem b2n_false : b2n false = 0 := rfl

theorem b2n_lt (b : Bool) : b2n b < 2 := by cases b <;> decide

/-- A field replaced reads as written. -/
theorem bits_setBits_self (x lo w v : Nat) : bits (setBits x lo w v) lo w = v % 2 ^ w := by
  unfold bits setBits bits
  have hp : 0 < 2 ^ lo := Nat.two_pow_pos lo
  have h1 : x = 2 ^ lo * (x / 2 ^ lo) + x % 2 ^ lo := (Nat.div_add_mod x (2 ^ lo)).symm
  have h2 : x / 2 ^ lo = 2 ^ w * (x / 2 ^ lo / 2 ^ w) + x / 2 ^ lo % 2 ^ w := (Nat.div_add_mod _ _).symm
  generalize hq : x / 2 ^ lo / 2 ^ w = q at *
  generalize hr : x / 2 ^ lo % 2 ^ w = r at *
  have e : x - r * 2 ^ lo + v % 2 ^ w * 2 ^ lo = 2 ^ lo * (2 ^ w * q + v % 2 ^ w) + x % 2 ^ lo := by
    have : x = 2 ^ lo * (2 ^ w * q) + 2 ^ lo * r + x % 2 ^ lo := by
      rw [← Nat.mul_add, ← h2]; exact h1
    rw [Nat.mul_add]
    generalize 2 ^ lo * (2 ^ w * q) = A at *
    rw [Nat.mul_comm r, Nat.mul_comm (v % 2 ^ w)]
    omega
  rw [e, Nat.mul_add_div hp, Nat.div_eq_of_lt (Nat.mod_lt _ hp), Nat.add_zero, Nat.mul_add_mod, Nat.mod_mod]

/-- Signed numbers in range survive a field of their width. -/
theorem sgn_unsgn {w : Nat} (hw : 0 < w) {i : Int} (h1 : -((2 ^ (w - 1) : Nat) : Int) ≤ i) (h2 : i < ((2 ^ (w - 1) : Nat) : Int)) :
    sgn w (unsgn w i) = i := by
  have hd : (2 ^ w : Nat) = 2 ^ (w - 1) + 2 ^ (w - 1) := by
    obtain ⟨n, rfl⟩ : ∃ n, w = n + 1 := ⟨w - 1, by omega⟩
    simp [Nat.pow_succ, Nat.mul_two]
  have hpos : 0 < 2 ^ (w - 1) := Nat.two_pow_pos _
  generalize hP : (2 ^ (w - 1) : Nat) = P at *
  unfold sgn unsgn
  rw [hP, hd]
  by_cases hi : 0 ≤ i
  · have : i % ((P + P : Nat) : Int) = i := Int.emod_eq_of_lt hi (by omega)
    rw [this, Nat.mod_eq_of_lt (by omega)]
    split <;> omega
  · have : i % ((P + P : Nat) : Int) = i + (P + P : Nat) := by
      rw [← Int.add_emod_right, Int.emod_eq_of_lt (by omega) (by omega)]
    rw [this, Nat.mod_eq_of_lt (by omega)]
    split <;> omega

end Sys2Proof.Machine
end

