-- ==== Sys2Proof/Laws/Tab.lean ====
section
/-!
SUPPORT. Reading a sparse table after a change of it, and its canonical form.
-/
namespace Sys2Proof.Machine

variable {α : Type}

@[simp] theorem Tab.find_nil (i : Nat) : Tab.find ([] : Tab α) i = none := rfl

@[simp] theorem Tab.get_nil (d : α) (i : Nat) : Tab.get d ([] : Tab α) i = d := rfl

@[simp] theorem Tab.find_erase_self (t : Tab α) (i : Nat) : Tab.find (Tab.erase t i) i = none := by
  induction t with
  | nil => rfl
  | cons p t ih =>
    obtain ⟨k, a⟩ := p
    by_cases h : i = k <;> simp [Tab.erase, Tab.find, h] at ih ⊢ <;> exact ih

theorem Tab.find_erase_ne (t : Tab α) {i j : Nat} (h : j ≠ i) : Tab.find (Tab.erase t i) j = Tab.find t j := by
  induction t with
  | nil => rfl
  | cons p t ih =>
    obtain ⟨k, a⟩ := p
    by_cases hk : i = k
    · subst hk; simp [Tab.erase, Tab.find, h, ih]
    · by_cases hj : j = k <;> simp [Tab.erase, Tab.find, hk, hj, ih]

@[simp] theorem Tab.find_insert_self (t : Tab α) (i : Nat) (v : α) : Tab.find (Tab.insert t i v) i = some v := by
  induction t with
  | nil => simp [Tab.insert, Tab.find]
  | cons p t ih =>
    obtain ⟨k, a⟩ := p
    by_cases h1 : i < k
    · simp [Tab.insert, Tab.find, h1]
    · by_cases h2 : i = k <;> simp [Tab.insert, Tab.find, h1, h2, ih]

theorem Tab.find_insert_ne (t : Tab α) {i j : Nat} (v : α) (h : j ≠ i) : Tab.find (Tab.insert t i v) j = Tab.find t j := by
  induction t with
  | nil => simp [Tab.insert, Tab.find, h]
  | cons p t ih =>
    obtain ⟨k, a⟩ := p
    by_cases h1 : i < k
    · simp [Tab.insert, Tab.find, h1, h]
    · by_cases h2 : i = k
      · subst h2; simp [Tab.insert, Tab.find, h]
      · by_cases hj : j = k <;> simp [Tab.insert, Tab.find, h1, h2, hj, ih]

/-- An entry that was set reads as set. -/
@[simp] theorem Tab.get_set_self [DecidableEq α] (d : α) (t : Tab α) (i : Nat) (v : α) :
    Tab.get d (Tab.set d t i v) i = v := by
  by_cases h : v = d <;> simp [Tab.get, Tab.set, h]

/-- Every other entry reads as before, under any default. -/
theorem Tab.find_set_ne [DecidableEq α] (d : α) (t : Tab α) {i j : Nat} (v : α) (h : j ≠ i) :
    Tab.find (Tab.set d t i v) j = Tab.find t j := by
  by_cases hv : v = d <;> simp [Tab.set, hv, Tab.find_erase_ne t h, Tab.find_insert_ne t v h]

theorem Tab.get_set_ne [DecidableEq α] (d e : α) (t : Tab α) {i j : Nat} (v : α) (h : j ≠ i) :
    Tab.get e (Tab.set d t i v) j = Tab.get e t j := by
  simp [Tab.get, Tab.find_set_ne d t v h]

@[simp] theorem Tab.get_modify_self [DecidableEq α] (d : α) (t : Tab α) (i : Nat) (f : α → α) :
    Tab.get d (Tab.modify d t i f) i = f (Tab.get d t i) := by simp [Tab.modify]

theorem Tab.get_modify_ne [DecidableEq α] (d : α) (t : Tab α) {i j : Nat} (f : α → α) (h : j ≠ i) :
    Tab.get d (Tab.modify d t i f) j = Tab.get d t j := by simp [Tab.modify, Tab.get_set_ne _ _ _ _ h]

/-! ## The canonical form -/

theorem Tab.mem_erase {t : Tab α} {i : Nat} {p : Nat × α} (h : p ∈ Tab.erase t i) : p ∈ t := by
  induction t with
  | nil => simp [Tab.erase] at h
  | cons q t ih =>
    obtain ⟨k, a⟩ := q
    by_cases hk : i = k
    · simp [Tab.erase, hk] at h
      exact List.mem_cons_of_mem _ (ih (by simpa [hk] using h))
    · simp [Tab.erase, hk] at h
      rcases h with h | h
      · simp [h]
      · exact List.mem_cons_of_mem _ (ih h)

theorem Tab.mem_insert {t : Tab α} {i : Nat} {v : α} {p : Nat × α} (h : p ∈ Tab.insert t i v) : p = (i, v) ∨ p ∈ t := by
  induction t with
  | nil => simpa [Tab.insert] using h
  | cons q t ih =>
    obtain ⟨k, a⟩ := q
    by_cases h1 : i < k
    · simp [Tab.insert, h1] at h
      simp [h]
    · by_cases h2 : i = k
      · simp [Tab.insert, h2] at h
        rcases h with h | h
        · left; simp [h, h2]
        · right; simp [h]
      · simp [Tab.insert, h1, h2] at h
        rcases h with h | h
        · right; simp [h]
        · rcases ih h with h | h
          · exact Or.inl h
          · right; simp [h]

theorem Tab.sorted_erase {t : Tab α} (i : Nat) (h : Tab.Sorted t) : Tab.Sorted (Tab.erase t i) := by
  induction t with
  | nil => exact h
  | cons q t ih =>
    obtain ⟨k, a⟩ := q
    rw [Tab.Sorted, List.pairwise_cons] at h
    by_cases hk : i = k
    · simpa [Tab.erase, hk] using ih h.2
    · rw [Tab.erase, if_neg hk, Tab.Sorted, List.pairwise_cons]
      exact ⟨fun p hp => h.1 p (Tab.mem_erase hp), ih h.2⟩

theorem Tab.sorted_insert {t : Tab α} (i : Nat) (v : α) (h : Tab.Sorted t) : Tab.Sorted (Tab.insert t i v) := by
  induction t with
  | nil => simp [Tab.insert, Tab.Sorted]
  | cons q t ih =>
    obtain ⟨k, a⟩ := q
    have h' := h
    rw [Tab.Sorted, List.pairwise_cons] at h
    by_cases h1 : i < k
    · rw [Tab.insert, if_pos h1, Tab.Sorted, List.pairwise_cons]
      refine ⟨fun p hp => ?_, h'⟩
      rcases List.mem_cons.1 hp with rfl | hp
      · exact h1
      · exact Nat.lt_trans h1 (h.1 p hp)
    · by_cases h2 : i = k
      · rw [Tab.insert, if_neg h1, if_pos h2, Tab.Sorted, List.pairwise_cons]
        exact ⟨h.1, h.2⟩
      · rw [Tab.insert, if_neg h1, if_neg h2, Tab.Sorted, List.pairwise_cons]
        refine ⟨fun p hp => ?_, ih h.2⟩
        rcases Tab.mem_insert hp with rfl | hp
        · show k < i
          omega
        · exact h.1 p hp

theorem Tab.sorted_set [DecidableEq α] {d : α} {t : Tab α} (i : Nat) (v : α) (h : Tab.Sorted t) :
    Tab.Sorted (Tab.set d t i v) := by
  by_cases hv : v = d
  · simpa [Tab.set, hv] using Tab.sorted_erase i h
  · simpa [Tab.set, hv] using Tab.sorted_insert i v h

end Sys2Proof.Machine
end

