-- ==== Sys2Proof/Laws/Mem.lean ====
section
/-!
SUPPORT. Reading a byte memory after a store, and the canonical form that every operation of it keeps.
-/
namespace Sys2Proof.Machine

@[simp] theorem Mem.unlisted_write (m : Mem) (a : Nat) (b : Byte) (x : Nat) : (m.write a b).unlisted x = m.unlisted x := rfl

/-- A byte reads as stored. -/
@[simp] theorem Mem.read_write_self (m : Mem) (a : Nat) (b : Byte) : (m.write a b).read a = b := by
  show Tab.get (m.unlisted a) (Tab.set (m.unlisted a) m.cells a b) a = b
  simp

/-- Every other byte reads as before. -/
theorem Mem.read_write_ne (m : Mem) {a x : Nat} (b : Byte) (h : x ≠ a) : (m.write a b).read x = m.read x := by
  show Tab.get (m.unlisted x) (Tab.set (m.unlisted a) m.cells a b) x = Tab.get (m.unlisted x) m.cells x
  exact Tab.get_set_ne _ _ _ _ h

/-- A byte outside a stored string reads as before. -/
theorem Mem.read_writeN_out (bs : Bytes) (m : Mem) {a x : Nat} (h : x < a ∨ a + bs.length ≤ x) :
    (m.writeN a bs).read x = m.read x := by
  induction bs generalizing m a with
  | nil => rfl
  | cons b bs ih =>
    rw [Mem.writeN, ih _ (by simp only [List.length_cons] at h; omega), Mem.read_write_ne _ _ (by simp at h; omega)]

/-- A byte of a stored string reads as stored. -/
theorem Mem.read_writeN_in (bs : Bytes) (m : Mem) (a k : Nat) (h : k < bs.length) :
    (m.writeN a bs).read (a + k) = bs[k] := by
  induction bs generalizing m a k with
  | nil => simp at h
  | cons b bs ih =>
    rw [Mem.writeN]
    cases k with
    | zero => rw [Mem.read_writeN_out bs _ (by omega)]; simp
    | succ k =>
      have := ih (m.write a b) (a + 1) k (by simpa using h)
      rw [show a + (k + 1) = a + 1 + k by omega, this]
      simp

@[simp] theorem Mem.length_readN (m : Mem) (a n : Nat) : (m.readN a n).length = n := by
  induction n generalizing a with
  | zero => rfl
  | succ n ih => simp [Mem.readN, ih]

theorem Mem.getElem_readN (m : Mem) (a n k : Nat) (h : k < (m.readN a n).length) : (m.readN a n)[k] = m.read (a + k) := by
  induction n generalizing a k with
  | zero => simp [Mem.readN] at h
  | succ n ih =>
    cases k with
    | zero => simp [Mem.readN]
    | succ k =>
      simp only [Mem.readN, List.getElem_cons_succ]
      rw [ih]
      congr 1
      omega

/-- A stored string reads back. -/
theorem Mem.readN_writeN (m : Mem) (a : Nat) (bs : Bytes) : (m.writeN a bs).readN a bs.length = bs := by
  apply List.ext_getElem
  · simp
  · intro k h1 h2
    rw [Mem.getElem_readN, Mem.read_writeN_in]

/-- A string outside a stored one reads as before. -/
theorem Mem.readN_writeN_out (m : Mem) (a x n : Nat) (bs : Bytes) (h : x + n ≤ a ∨ a + bs.length ≤ x) :
    (m.writeN a bs).readN x n = m.readN x n := by
  apply List.ext_getElem
  · simp
  · intro k h1 h2
    simp only [Mem.length_readN] at h1
    rw [Mem.getElem_readN, Mem.getElem_readN, Mem.read_writeN_out]
    omega

/-! ## The canonical form -/

theorem Mem.wf_empty : ({} : Mem).Wf := by simp [Mem.Wf, Tab.Sorted]

theorem Mem.wf_write (m : Mem) (a : Nat) (b : Byte) (h : m.Wf) : (m.write a b).Wf := by
  refine ⟨Tab.sorted_set a b h.1, fun c hc => ?_⟩
  show c.2 ≠ m.unlisted c.1
  by_cases hb : b = m.unlisted a
  · simp only [Mem.write, Tab.set, hb, if_true] at hc
    exact h.2 c (Tab.mem_erase hc)
  · simp only [Mem.write, Tab.set, hb, if_false] at hc
    rcases Tab.mem_insert hc with rfl | hc
    · exact hb
    · exact h.2 c hc

theorem Mem.wf_writeN (bs : Bytes) (m : Mem) (a : Nat) (h : m.Wf) : (m.writeN a bs).Wf := by
  induction bs generalizing m a with
  | nil => exact h
  | cons b bs ih => exact ih _ _ (Mem.wf_write m a b h)

theorem Mem.wf_scramble (m : Mem) (lo hi epoch : Nat) (h : m.Wf) : (m.scramble lo hi epoch).Wf := by
  refine ⟨List.Pairwise.filter _ h.1, fun c hc => ?_⟩
  simp only [Mem.scramble, List.mem_filter] at hc
  have h2 := h.2 c hc.1
  have hn : ¬ (lo ≤ c.1 ∧ c.1 < hi) := by
    have := hc.2
    simp only [Bool.or_eq_true, decide_eq_true_eq] at this
    omega
  have hf : (decide (lo ≤ c.1) && decide (c.1 < hi)) = false := by
    simp only [Bool.and_eq_false_iff, decide_eq_false_iff_not]
    omega
  simpa [Mem.unlisted, Mem.scramble, List.find?, hf] using h2

end Sys2Proof.Machine
end

