-- ==== Sys2Proof/Laws/Regs.lean ====
section
/-!
SUPPORT. A register field reads as written; every other field, and everything that is no register, is as before.
-/
namespace Sys2Proof.Machine

/-- A field reads as written, cut to its width. -/
@[simp] theorem State.rd_wr_self (s : State) (f : Field) (v i k : Nat) : (s.wr f v i k).rd f i k = v % 2 ^ f.w := by
  simp [State.rd, State.wr]

/-- A field with another key reads as before. -/
theorem State.rd_wr_ne (s : State) (f g : Field) (v i k j l : Nat) (h : g.key j l ≠ f.key i k) :
    (s.wr f v i k).rd g j l = s.rd g j l := by
  simp [State.rd, State.wr, Tab.get_set_ne _ _ _ _ h]

theorem State.wr_regs (s : State) (f : Field) (v i k : Nat) :
    (s.wr f v i k).regs = Tab.set (f.reset k) s.regs (f.key i k) (v % 2 ^ f.w) := rfl

section
variable (s : State) (f : Field) (v i k : Nat)
@[simp] theorem State.wr_pending : (s.wr f v i k).pending = s.pending := rfl
@[simp] theorem State.wr_free : (s.wr f v i k).free = s.free := rfl
@[simp] theorem State.wr_tt : (s.wr f v i k).tt = s.tt := rfl
@[simp] theorem State.wr_ttRuns : (s.wr f v i k).ttRuns = s.ttRuns := rfl
@[simp] theorem State.wr_bus : (s.wr f v i k).bus = s.bus := rfl
@[simp] theorem State.wr_ext : (s.wr f v i k).ext = s.ext := rfl
@[simp] theorem State.wr_win : (s.wr f v i k).win = s.win := rfl
@[simp] theorem State.wr_vmem : (s.wr f v i k).vmem = s.vmem := rfl
@[simp] theorem State.wr_pad : (s.wr f v i k).pad = s.pad := rfl
@[simp] theorem State.wr_cap : (s.wr f v i k).cap = s.cap := rfl
@[simp] theorem State.wr_seqs : (s.wr f v i k).seqs = s.seqs := rfl
@[simp] theorem State.wr_chans : (s.wr f v i k).chans = s.chans := rfl
@[simp] theorem State.wr_groups : (s.wr f v i k).groups = s.groups := rfl
@[simp] theorem State.wr_mbx : (s.wr f v i k).mbx = s.mbx := rfl
@[simp] theorem State.wr_link : (s.wr f v i k).link = s.link := rfl
@[simp] theorem State.wr_tias : (s.wr f v i k).tias = s.tias := rfl
@[simp] theorem State.wr_loupe : (s.wr f v i k).loupe = s.loupe := rfl
@[simp] theorem State.wr_prism : (s.wr f v i k).prism = s.prism := rfl
@[simp] theorem State.wr_cal : (s.wr f v i k).cal = s.cal := rfl
@[simp] theorem State.wr_faults : (s.wr f v i k).faults = s.faults := rfl
@[simp] theorem State.wr_mem : (s.wr f v i k).mem = s.mem := rfl
@[simp] theorem State.wr_ring : (s.wr f v i k).ring = s.ring := rfl
@[simp] theorem State.wr_clk : (s.wr f v i k).clk = s.clk := rfl
@[simp] theorem State.wr_sec : (s.wr f v i k).sec = s.sec := rfl
@[simp] theorem State.wr_vpe : (s.wr f v i k).vpe = s.vpe := rfl
@[simp] theorem State.wr_latch : (s.wr f v i k).latch = s.latch := rfl
end

theorem State.inc_eq (s : State) (f : Field) (i k n : Nat) : s.inc f i k n = s.wr f (satAdd f.w (s.rd f i k) n) i k := rfl
theorem State.bump_eq (s : State) (f : Field) (i k : Nat) : s.bump f i k = s.wr f (s.rd f i k + 1) i k := rfl
theorem State.flag_eq (s : State) (f : Field) (b : Bool) (i k : Nat) : s.flag f b i k = s.wr f (b2n b) i k := rfl
theorem State.on_eq (s : State) (f : Field) (i k : Nat) : s.on f i k = (s.rd f i k == 1) := rfl

@[simp] theorem State.wrs_nil (s : State) (i : Nat) : s.wrs i [] = s := rfl
@[simp] theorem State.wrs_cons (s : State) (i : Nat) (f : Field) (v : Nat) (fs : List (Field × Nat)) :
    s.wrs i ((f, v) :: fs) = (s.wr f v i).wrs i fs := rfl

@[simp] theorem forAll_nil (f : Nat → State → State) (s : State) : forAll [] f s = s := rfl
@[simp] theorem forAll_cons (x : Nat) (xs : List Nat) (f : Nat → State → State) (s : State) :
    forAll (x :: xs) f s = forAll xs f (f x s) := rfl

/-- What one visit keeps, a walk over a list of units keeps. -/
theorem forAll_induct {P : State → Prop} (xs : List Nat) (f : Nat → State → State) (s : State)
    (hf : ∀ x s, P s → P (f x s)) (h : P s) : P (forAll xs f s) := by
  induction xs generalizing s with
  | nil => exact h
  | cons x xs ih => exact ih _ (hf x s h)

/-- What one step of a fold keeps, the fold keeps. -/
theorem foldl_induct {α β : Type} {P : β → Prop} (xs : List α) (f : β → α → β) (b : β) (hf : ∀ b x, P b → P (f b x))
    (h : P b) : P (xs.foldl f b) := by
  induction xs generalizing b with
  | nil => exact h
  | cons x xs ih => exact ih _ (hf b x h)

end Sys2Proof.Machine
end

