-- ==== Sys2Proof/Laws/State.lean ====
section
/-!
SUPPORT. What each update of State leaves: one lemma per field and update, true by unfolding, so that no proof unfolds an
update.
-/
namespace Sys2Proof.Machine

variable (s : State)

/-! ## Units: the one changed, and the others -/

@[simp] theorem State.modSeq_seq_self (i : Nat) (f : Seq → Seq) : (s.modSeq i f).seq i = f (s.seq i) := by
  simp [State.modSeq, State.seq]

theorem State.modSeq_seq_ne (f : Seq → Seq) {i j : Nat} (h : j ≠ i) : (s.modSeq i f).seq j = s.seq j := by
  simp [State.modSeq, State.seq, Tab.get_modify_ne, h]

@[simp] theorem State.modChan_chan_self (i : Nat) (f : Chan → Chan) : (s.modChan i f).chan i = f (s.chan i) := by
  simp [State.modChan, State.chan]

theorem State.modChan_chan_ne (f : Chan → Chan) {i j : Nat} (h : j ≠ i) : (s.modChan i f).chan j = s.chan j := by
  simp [State.modChan, State.chan, Tab.get_modify_ne, h]

@[simp] theorem State.modGroup_group_self (g : Nat) (f : Group → Group) : (s.modGroup g f).group g = f (s.group g) := by
  simp [State.modGroup, State.group]

theorem State.modGroup_group_ne (f : Group → Group) {g j : Nat} (h : j ≠ g) : (s.modGroup g f).group j = s.group j := by
  simp [State.modGroup, State.group, Tab.get_modify_ne, h]

@[simp] theorem State.modTia_tia_self (u : Nat) (f : Tia → Tia) : (s.modTia u f).tia u = f (s.tia u) := by
  simp [State.modTia, State.tia]

theorem State.modTia_tia_ne (f : Tia → Tia) {u j : Nat} (h : j ≠ u) : (s.modTia u f).tia j = s.tia j := by
  simp [State.modTia, State.tia, Tab.get_modify_ne, h]

@[simp] theorem State.modCal_calg_self (g : Nat) (f : CalGroup → CalGroup) : (s.modCal g f).calg g = f (s.calg g) := by
  simp [State.modCal, State.calg]

theorem State.modCal_calg_ne (f : CalGroup → CalGroup) {g j : Nat} (h : j ≠ g) : (s.modCal g f).calg j = s.calg j := by
  simp [State.modCal, State.calg, Tab.get_modify_ne, h]

@[simp] theorem State.modSegment_segment_self (j : Nat) (f : Segment → Segment) :
    (s.modSegment j f).segment j = f (s.segment j) := by
  simp [State.modSegment, State.modLoupe, State.segment]

section
variable (i : Nat) (f : Seq → Seq)
@[simp] theorem State.modSeq_pending : (s.modSeq i f).pending = s.pending := rfl
@[simp] theorem State.modSeq_regs : (s.modSeq i f).regs = s.regs := rfl
@[simp] theorem State.modSeq_free : (s.modSeq i f).free = s.free := rfl
@[simp] theorem State.modSeq_tt : (s.modSeq i f).tt = s.tt := rfl
@[simp] theorem State.modSeq_epoch : (s.modSeq i f).epoch = s.epoch := rfl
@[simp] theorem State.modSeq_ttRuns : (s.modSeq i f).ttRuns = s.ttRuns := rfl
@[simp] theorem State.modSeq_bus : (s.modSeq i f).bus = s.bus := rfl
@[simp] theorem State.modSeq_ext : (s.modSeq i f).ext = s.ext := rfl
@[simp] theorem State.modSeq_win : (s.modSeq i f).win = s.win := rfl
@[simp] theorem State.modSeq_vmem : (s.modSeq i f).vmem = s.vmem := rfl
@[simp] theorem State.modSeq_pad : (s.modSeq i f).pad = s.pad := rfl
@[simp] theorem State.modSeq_cap : (s.modSeq i f).cap = s.cap := rfl
@[simp] theorem State.modSeq_chans : (s.modSeq i f).chans = s.chans := rfl
@[simp] theorem State.modSeq_groups : (s.modSeq i f).groups = s.groups := rfl
@[simp] theorem State.modSeq_mbx : (s.modSeq i f).mbx = s.mbx := rfl
@[simp] theorem State.modSeq_link : (s.modSeq i f).link = s.link := rfl
@[simp] theorem State.modSeq_tias : (s.modSeq i f).tias = s.tias := rfl
@[simp] theorem State.modSeq_loupe : (s.modSeq i f).loupe = s.loupe := rfl
@[simp] theorem State.modSeq_prism : (s.modSeq i f).prism = s.prism := rfl
@[simp] theorem State.modSeq_cal : (s.modSeq i f).cal = s.cal := rfl
@[simp] theorem State.modSeq_faults : (s.modSeq i f).faults = s.faults := rfl
@[simp] theorem State.modSeq_mem : (s.modSeq i f).mem = s.mem := rfl
@[simp] theorem State.modSeq_ring : (s.modSeq i f).ring = s.ring := rfl
@[simp] theorem State.modSeq_clk : (s.modSeq i f).clk = s.clk := rfl
@[simp] theorem State.modSeq_sec : (s.modSeq i f).sec = s.sec := rfl
@[simp] theorem State.modSeq_vpe : (s.modSeq i f).vpe = s.vpe := rfl
@[simp] theorem State.modSeq_latch : (s.modSeq i f).latch = s.latch := rfl
@[simp] theorem State.modSeq_rd (fld : Field) (a b : Nat) : (s.modSeq i f).rd fld a b = s.rd fld a b := rfl
end

section
variable (i : Nat) (f : Chan → Chan)
@[simp] theorem State.modChan_pending : (s.modChan i f).pending = s.pending := rfl
@[simp] theorem State.modChan_regs : (s.modChan i f).regs = s.regs := rfl
@[simp] theorem State.modChan_free : (s.modChan i f).free = s.free := rfl
@[simp] theorem State.modChan_tt : (s.modChan i f).tt = s.tt := rfl
@[simp] theorem State.modChan_epoch : (s.modChan i f).epoch = s.epoch := rfl
@[simp] theorem State.modChan_ttRuns : (s.modChan i f).ttRuns = s.ttRuns := rfl
@[simp] theorem State.modChan_bus : (s.modChan i f).bus = s.bus := rfl
@[simp] theorem State.modChan_ext : (s.modChan i f).ext = s.ext := rfl
@[simp] theorem State.modChan_win : (s.modChan i f).win = s.win := rfl
@[simp] theorem State.modChan_vmem : (s.modChan i f).vmem = s.vmem := rfl
@[simp] theorem State.modChan_pad : (s.modChan i f).pad = s.pad := rfl
@[simp] theorem State.modChan_cap : (s.modChan i f).cap = s.cap := rfl
@[simp] theorem State.modChan_seqs : (s.modChan i f).seqs = s.seqs := rfl
@[simp] theorem State.modChan_groups : (s.modChan i f).groups = s.groups := rfl
@[simp] theorem State.modChan_mbx : (s.modChan i f).mbx = s.mbx := rfl
@[simp] theorem State.modChan_link : (s.modChan i f).link = s.link := rfl
@[simp] theorem State.modChan_tias : (s.modChan i f).tias = s.tias := rfl
@[simp] theorem State.modChan_loupe : (s.modChan i f).loupe = s.loupe := rfl
@[simp] theorem State.modChan_prism : (s.modChan i f).prism = s.prism := rfl
@[simp] theorem State.modChan_cal : (s.modChan i f).cal = s.cal := rfl
@[simp] theorem State.modChan_faults : (s.modChan i f).faults = s.faults := rfl
@[simp] theorem State.modChan_mem : (s.modChan i f).mem = s.mem := rfl
@[simp] theorem State.modChan_ring : (s.modChan i f).ring = s.ring := rfl
@[simp] theorem State.modChan_clk : (s.modChan i f).clk = s.clk := rfl
@[simp] theorem State.modChan_sec : (s.modChan i f).sec = s.sec := rfl
@[simp] theorem State.modChan_vpe : (s.modChan i f).vpe = s.vpe := rfl
@[simp] theorem State.modChan_latch : (s.modChan i f).latch = s.latch := rfl
@[simp] theorem State.modChan_rd (fld : Field) (a b : Nat) : (s.modChan i f).rd fld a b = s.rd fld a b := rfl
end

section
variable (g : Nat) (f : Group → Group)
@[simp] theorem State.modGroup_pending : (s.modGroup g f).pending = s.pending := rfl
@[simp] theorem State.modGroup_regs : (s.modGroup g f).regs = s.regs := rfl
@[simp] theorem State.modGroup_free : (s.modGroup g f).free = s.free := rfl
@[simp] theorem State.modGroup_tt : (s.modGroup g f).tt = s.tt := rfl
@[simp] theorem State.modGroup_epoch : (s.modGroup g f).epoch = s.epoch := rfl
@[simp] theorem State.modGroup_ttRuns : (s.modGroup g f).ttRuns = s.ttRuns := rfl
@[simp] theorem State.modGroup_bus : (s.modGroup g f).bus = s.bus := rfl
@[simp] theorem State.modGroup_ext : (s.modGroup g f).ext = s.ext := rfl
@[simp] theorem State.modGroup_win : (s.modGroup g f).win = s.win := rfl
@[simp] theorem State.modGroup_vmem : (s.modGroup g f).vmem = s.vmem := rfl
@[simp] theorem State.modGroup_pad : (s.modGroup g f).pad = s.pad := rfl
@[simp] theorem State.modGroup_cap : (s.modGroup g f).cap = s.cap := rfl
@[simp] theorem State.modGroup_seqs : (s.modGroup g f).seqs = s.seqs := rfl
@[simp] theorem State.modGroup_chans : (s.modGroup g f).chans = s.chans := rfl
@[simp] theorem State.modGroup_mbx : (s.modGroup g f).mbx = s.mbx := rfl
@[simp] theorem State.modGroup_link : (s.modGroup g f).link = s.link := rfl
@[simp] theorem State.modGroup_tias : (s.modGroup g f).tias = s.tias := rfl
@[simp] theorem State.modGroup_loupe : (s.modGroup g f).loupe = s.loupe := rfl
@[simp] theorem State.modGroup_prism : (s.modGroup g f).prism = s.prism := rfl
@[simp] theorem State.modGroup_cal : (s.modGroup g f).cal = s.cal := rfl
@[simp] theorem State.modGroup_faults : (s.modGroup g f).faults = s.faults := rfl
@[simp] theorem State.modGroup_mem : (s.modGroup g f).mem = s.mem := rfl
@[simp] theorem State.modGroup_ring : (s.modGroup g f).ring = s.ring := rfl
@[simp] theorem State.modGroup_clk : (s.modGroup g f).clk = s.clk := rfl
@[simp] theorem State.modGroup_sec : (s.modGroup g f).sec = s.sec := rfl
@[simp] theorem State.modGroup_vpe : (s.modGroup g f).vpe = s.vpe := rfl
@[simp] theorem State.modGroup_latch : (s.modGroup g f).latch = s.latch := rfl
@[simp] theorem State.modGroup_rd (fld : Field) (a b : Nat) : (s.modGroup g f).rd fld a b = s.rd fld a b := rfl
end

section
variable (u : Nat) (f : Tia → Tia)
@[simp] theorem State.modTia_pending : (s.modTia u f).pending = s.pending := rfl
@[simp] theorem State.modTia_regs : (s.modTia u f).regs = s.regs := rfl
@[simp] theorem State.modTia_free : (s.modTia u f).free = s.free := rfl
@[simp] theorem State.modTia_tt : (s.modTia u f).tt = s.tt := rfl
@[simp] theorem State.modTia_epoch : (s.modTia u f).epoch = s.epoch := rfl
@[simp] theorem State.modTia_ttRuns : (s.modTia u f).ttRuns = s.ttRuns := rfl
@[simp] theorem State.modTia_bus : (s.modTia u f).bus = s.bus := rfl
@[simp] theorem State.modTia_ext : (s.modTia u f).ext = s.ext := rfl
@[simp] theorem State.modTia_win : (s.modTia u f).win = s.win := rfl
@[simp] theorem State.modTia_vmem : (s.modTia u f).vmem = s.vmem := rfl
@[simp] theorem State.modTia_pad : (s.modTia u f).pad = s.pad := rfl
@[simp] theorem State.modTia_cap : (s.modTia u f).cap = s.cap := rfl
@[simp] theorem State.modTia_seqs : (s.modTia u f).seqs = s.seqs := rfl
@[simp] theorem State.modTia_chans : (s.modTia u f).chans = s.chans := rfl
@[simp] theorem State.modTia_groups : (s.modTia u f).groups = s.groups := rfl
@[simp] theorem State.modTia_mbx : (s.modTia u f).mbx = s.mbx := rfl
@[simp] theorem State.modTia_link : (s.modTia u f).link = s.link := rfl
@[simp] theorem State.modTia_loupe : (s.modTia u f).loupe = s.loupe := rfl
@[simp] theorem State.modTia_prism : (s.modTia u f).prism = s.prism := rfl
@[simp] theorem State.modTia_cal : (s.modTia u f).cal = s.cal := rfl
@[simp] theorem State.modTia_faults : (s.modTia u f).faults = s.faults := rfl
@[simp] theorem State.modTia_mem : (s.modTia u f).mem = s.mem := rfl
@[simp] theorem State.modTia_ring : (s.modTia u f).ring = s.ring := rfl
@[simp] theorem State.modTia_clk : (s.modTia u f).clk = s.clk := rfl
@[simp] theorem State.modTia_sec : (s.modTia u f).sec = s.sec := rfl
@[simp] theorem State.modTia_vpe : (s.modTia u f).vpe = s.vpe := rfl
@[simp] theorem State.modTia_latch : (s.modTia u f).latch = s.latch := rfl
@[simp] theorem State.modTia_rd (fld : Field) (a b : Nat) : (s.modTia u f).rd fld a b = s.rd fld a b := rfl
end

section
variable (f : Loupe → Loupe)
@[simp] theorem State.modLoupe_loupe : (s.modLoupe f).loupe = f s.loupe := rfl
@[simp] theorem State.modLoupe_pending : (s.modLoupe f).pending = s.pending := rfl
@[simp] theorem State.modLoupe_regs : (s.modLoupe f).regs = s.regs := rfl
@[simp] theorem State.modLoupe_free : (s.modLoupe f).free = s.free := rfl
@[simp] theorem State.modLoupe_tt : (s.modLoupe f).tt = s.tt := rfl
@[simp] theorem State.modLoupe_epoch : (s.modLoupe f).epoch = s.epoch := rfl
@[simp] theorem State.modLoupe_ttRuns : (s.modLoupe f).ttRuns = s.ttRuns := rfl
@[simp] theorem State.modLoupe_bus : (s.modLoupe f).bus = s.bus := rfl
@[simp] theorem State.modLoupe_ext : (s.modLoupe f).ext = s.ext := rfl
@[simp] theorem State.modLoupe_win : (s.modLoupe f).win = s.win := rfl
@[simp] theorem State.modLoupe_vmem : (s.modLoupe f).vmem = s.vmem := rfl
@[simp] theorem State.modLoupe_pad : (s.modLoupe f).pad = s.pad := rfl
@[simp] theorem State.modLoupe_cap : (s.modLoupe f).cap = s.cap := rfl
@[simp] theorem State.modLoupe_seqs : (s.modLoupe f).seqs = s.seqs := rfl
@[simp] theorem State.modLoupe_chans : (s.modLoupe f).chans = s.chans := rfl
@[simp] theorem State.modLoupe_groups : (s.modLoupe f).groups = s.groups := rfl
@[simp] theorem State.modLoupe_mbx : (s.modLoupe f).mbx = s.mbx := rfl
@[simp] theorem State.modLoupe_link : (s.modLoupe f).link = s.link := rfl
@[simp] theorem State.modLoupe_tias : (s.modLoupe f).tias = s.tias := rfl
@[simp] theorem State.modLoupe_prism : (s.modLoupe f).prism = s.prism := rfl
@[simp] theorem State.modLoupe_cal : (s.modLoupe f).cal = s.cal := rfl
@[simp] theorem State.modLoupe_faults : (s.modLoupe f).faults = s.faults := rfl
@[simp] theorem State.modLoupe_mem : (s.modLoupe f).mem = s.mem := rfl
@[simp] theorem State.modLoupe_ring : (s.modLoupe f).ring = s.ring := rfl
@[simp] theorem State.modLoupe_clk : (s.modLoupe f).clk = s.clk := rfl
@[simp] theorem State.modLoupe_sec : (s.modLoupe f).sec = s.sec := rfl
@[simp] theorem State.modLoupe_vpe : (s.modLoupe f).vpe = s.vpe := rfl
@[simp] theorem State.modLoupe_latch : (s.modLoupe f).latch = s.latch := rfl
@[simp] theorem State.modLoupe_rd (fld : Field) (a b : Nat) : (s.modLoupe f).rd fld a b = s.rd fld a b := rfl
end

section
variable (j : Nat) (f : Segment → Segment)
@[simp] theorem State.modSegment_pending : (s.modSegment j f).pending = s.pending := rfl
@[simp] theorem State.modSegment_regs : (s.modSegment j f).regs = s.regs := rfl
@[simp] theorem State.modSegment_free : (s.modSegment j f).free = s.free := rfl
@[simp] theorem State.modSegment_tt : (s.modSegment j f).tt = s.tt := rfl
@[simp] theorem State.modSegment_epoch : (s.modSegment j f).epoch = s.epoch := rfl
@[simp] theorem State.modSegment_ttRuns : (s.modSegment j f).ttRuns = s.ttRuns := rfl
@[simp] theorem State.modSegment_bus : (s.modSegment j f).bus = s.bus := rfl
@[simp] theorem State.modSegment_ext : (s.modSegment j f).ext = s.ext := rfl
@[simp] theorem State.modSegment_win : (s.modSegment j f).win = s.win := rfl
@[simp] theorem State.modSegment_vmem : (s.modSegment j f).vmem = s.vmem := rfl
@[simp] theorem State.modSegment_pad : (s.modSegment j f).pad = s.pad := rfl
@[simp] theorem State.modSegment_cap : (s.modSegment j f).cap = s.cap := rfl
@[simp] theorem State.modSegment_seqs : (s.modSegment j f).seqs = s.seqs := rfl
@[simp] theorem State.modSegment_chans : (s.modSegment j f).chans = s.chans := rfl
@[simp] theorem State.modSegment_groups : (s.modSegment j f).groups = s.groups := rfl
@[simp] theorem State.modSegment_mbx : (s.modSegment j f).mbx = s.mbx := rfl
@[simp] theorem State.modSegment_link : (s.modSegment j f).link = s.link := rfl
@[simp] theorem State.modSegment_tias : (s.modSegment j f).tias = s.tias := rfl
@[simp] theorem State.modSegment_prism : (s.modSegment j f).prism = s.prism := rfl
@[simp] theorem State.modSegment_cal : (s.modSegment j f).cal = s.cal := rfl
@[simp] theorem State.modSegment_faults : (s.modSegment j f).faults = s.faults := rfl
@[simp] theorem State.modSegment_mem : (s.modSegment j f).mem = s.mem := rfl
@[simp] theorem State.modSegment_ring : (s.modSegment j f).ring = s.ring := rfl
@[simp] theorem State.modSegment_clk : (s.modSegment j f).clk = s.clk := rfl
@[simp] theorem State.modSegment_sec : (s.modSegment j f).sec = s.sec := rfl
@[simp] theorem State.modSegment_vpe : (s.modSegment j f).vpe = s.vpe := rfl
@[simp] theorem State.modSegment_latch : (s.modSegment j f).latch = s.latch := rfl
@[simp] theorem State.modSegment_rd (fld : Field) (a b : Nat) : (s.modSegment j f).rd fld a b = s.rd fld a b := rfl
end

section
variable (f : Prism → Prism)
@[simp] theorem State.modPrism_prism : (s.modPrism f).prism = f s.prism := rfl
@[simp] theorem State.modPrism_pending : (s.modPrism f).pending = s.pending := rfl
@[simp] theorem State.modPrism_regs : (s.modPrism f).regs = s.regs := rfl
@[simp] theorem State.modPrism_free : (s.modPrism f).free = s.free := rfl
@[simp] theorem State.modPrism_tt : (s.modPrism f).tt = s.tt := rfl
@[simp] theorem State.modPrism_epoch : (s.modPrism f).epoch = s.epoch := rfl
@[simp] theorem State.modPrism_ttRuns : (s.modPrism f).ttRuns = s.ttRuns := rfl
@[simp] theorem State.modPrism_bus : (s.modPrism f).bus = s.bus := rfl
@[simp] theorem State.modPrism_ext : (s.modPrism f).ext = s.ext := rfl
@[simp] theorem State.modPrism_win : (s.modPrism f).win = s.win := rfl
@[simp] theorem State.modPrism_vmem : (s.modPrism f).vmem = s.vmem := rfl
@[simp] theorem State.modPrism_pad : (s.modPrism f).pad = s.pad := rfl
@[simp] theorem State.modPrism_cap : (s.modPrism f).cap = s.cap := rfl
@[simp] theorem State.modPrism_seqs : (s.modPrism f).seqs = s.seqs := rfl
@[simp] theorem State.modPrism_chans : (s.modPrism f).chans = s.chans := rfl
@[simp] theorem State.modPrism_groups : (s.modPrism f).groups = s.groups := rfl
@[simp] theorem State.modPrism_mbx : (s.modPrism f).mbx = s.mbx := rfl
@[simp] theorem State.modPrism_link : (s.modPrism f).link = s.link := rfl
@[simp] theorem State.modPrism_tias : (s.modPrism f).tias = s.tias := rfl
@[simp] theorem State.modPrism_loupe : (s.modPrism f).loupe = s.loupe := rfl
@[simp] theorem State.modPrism_cal : (s.modPrism f).cal = s.cal := rfl
@[simp] theorem State.modPrism_faults : (s.modPrism f).faults = s.faults := rfl
@[simp] theorem State.modPrism_mem : (s.modPrism f).mem = s.mem := rfl
@[simp] theorem State.modPrism_ring : (s.modPrism f).ring = s.ring := rfl
@[simp] theorem State.modPrism_clk : (s.modPrism f).clk = s.clk := rfl
@[simp] theorem State.modPrism_sec : (s.modPrism f).sec = s.sec := rfl
@[simp] theorem State.modPrism_vpe : (s.modPrism f).vpe = s.vpe := rfl
@[simp] theorem State.modPrism_latch : (s.modPrism f).latch = s.latch := rfl
@[simp] theorem State.modPrism_rd (fld : Field) (a b : Nat) : (s.modPrism f).rd fld a b = s.rd fld a b := rfl
end

section
variable (g : Nat) (f : CalGroup → CalGroup)
@[simp] theorem State.modCal_pending : (s.modCal g f).pending = s.pending := rfl
@[simp] theorem State.modCal_regs : (s.modCal g f).regs = s.regs := rfl
@[simp] theorem State.modCal_free : (s.modCal g f).free = s.free := rfl
@[simp] theorem State.modCal_tt : (s.modCal g f).tt = s.tt := rfl
@[simp] theorem State.modCal_epoch : (s.modCal g f).epoch = s.epoch := rfl
@[simp] theorem State.modCal_ttRuns : (s.modCal g f).ttRuns = s.ttRuns := rfl
@[simp] theorem State.modCal_bus : (s.modCal g f).bus = s.bus := rfl
@[simp] theorem State.modCal_ext : (s.modCal g f).ext = s.ext := rfl
@[simp] theorem State.modCal_win : (s.modCal g f).win = s.win := rfl
@[simp] theorem State.modCal_vmem : (s.modCal g f).vmem = s.vmem := rfl
@[simp] theorem State.modCal_pad : (s.modCal g f).pad = s.pad := rfl
@[simp] theorem State.modCal_cap : (s.modCal g f).cap = s.cap := rfl
@[simp] theorem State.modCal_seqs : (s.modCal g f).seqs = s.seqs := rfl
@[simp] theorem State.modCal_chans : (s.modCal g f).chans = s.chans := rfl
@[simp] theorem State.modCal_groups : (s.modCal g f).groups = s.groups := rfl
@[simp] theorem State.modCal_mbx : (s.modCal g f).mbx = s.mbx := rfl
@[simp] theorem State.modCal_link : (s.modCal g f).link = s.link := rfl
@[simp] theorem State.modCal_tias : (s.modCal g f).tias = s.tias := rfl
@[simp] theorem State.modCal_loupe : (s.modCal g f).loupe = s.loupe := rfl
@[simp] theorem State.modCal_prism : (s.modCal g f).prism = s.prism := rfl
@[simp] theorem State.modCal_faults : (s.modCal g f).faults = s.faults := rfl
@[simp] theorem State.modCal_mem : (s.modCal g f).mem = s.mem := rfl
@[simp] theorem State.modCal_ring : (s.modCal g f).ring = s.ring := rfl
@[simp] theorem State.modCal_clk : (s.modCal g f).clk = s.clk := rfl
@[simp] theorem State.modCal_sec : (s.modCal g f).sec = s.sec := rfl
@[simp] theorem State.modCal_vpe : (s.modCal g f).vpe = s.vpe := rfl
@[simp] theorem State.modCal_latch : (s.modCal g f).latch = s.latch := rfl
@[simp] theorem State.modCal_rd (fld : Field) (a b : Nat) : (s.modCal g f).rd fld a b = s.rd fld a b := rfl
end

section
variable (f : Collector → Collector)
@[simp] theorem State.modFaults_faults : (s.modFaults f).faults = f s.faults := rfl
@[simp] theorem State.modFaults_pending : (s.modFaults f).pending = s.pending := rfl
@[simp] theorem State.modFaults_regs : (s.modFaults f).regs = s.regs := rfl
@[simp] theorem State.modFaults_free : (s.modFaults f).free = s.free := rfl
@[simp] theorem State.modFaults_tt : (s.modFaults f).tt = s.tt := rfl
@[simp] theorem State.modFaults_epoch : (s.modFaults f).epoch = s.epoch := rfl
@[simp] theorem State.modFaults_ttRuns : (s.modFaults f).ttRuns = s.ttRuns := rfl
@[simp] theorem State.modFaults_bus : (s.modFaults f).bus = s.bus := rfl
@[simp] theorem State.modFaults_ext : (s.modFaults f).ext = s.ext := rfl
@[simp] theorem State.modFaults_win : (s.modFaults f).win = s.win := rfl
@[simp] theorem State.modFaults_vmem : (s.modFaults f).vmem = s.vmem := rfl
@[simp] theorem State.modFaults_pad : (s.modFaults f).pad = s.pad := rfl
@[simp] theorem State.modFaults_cap : (s.modFaults f).cap = s.cap := rfl
@[simp] theorem State.modFaults_seqs : (s.modFaults f).seqs = s.seqs := rfl
@[simp] theorem State.modFaults_chans : (s.modFaults f).chans = s.chans := rfl
@[simp] theorem State.modFaults_groups : (s.modFaults f).groups = s.groups := rfl
@[simp] theorem State.modFaults_mbx : (s.modFaults f).mbx = s.mbx := rfl
@[simp] theorem State.modFaults_link : (s.modFaults f).link = s.link := rfl
@[simp] theorem State.modFaults_tias : (s.modFaults f).tias = s.tias := rfl
@[simp] theorem State.modFaults_loupe : (s.modFaults f).loupe = s.loupe := rfl
@[simp] theorem State.modFaults_prism : (s.modFaults f).prism = s.prism := rfl
@[simp] theorem State.modFaults_cal : (s.modFaults f).cal = s.cal := rfl
@[simp] theorem State.modFaults_mem : (s.modFaults f).mem = s.mem := rfl
@[simp] theorem State.modFaults_ring : (s.modFaults f).ring = s.ring := rfl
@[simp] theorem State.modFaults_clk : (s.modFaults f).clk = s.clk := rfl
@[simp] theorem State.modFaults_sec : (s.modFaults f).sec = s.sec := rfl
@[simp] theorem State.modFaults_vpe : (s.modFaults f).vpe = s.vpe := rfl
@[simp] theorem State.modFaults_latch : (s.modFaults f).latch = s.latch := rfl
@[simp] theorem State.modFaults_rd (fld : Field) (a b : Nat) : (s.modFaults f).rd fld a b = s.rd fld a b := rfl
end

section
variable (f : Link → Link)
@[simp] theorem State.modLink_link : (s.modLink f).link = f s.link := rfl
@[simp] theorem State.modLink_pending : (s.modLink f).pending = s.pending := rfl
@[simp] theorem State.modLink_regs : (s.modLink f).regs = s.regs := rfl
@[simp] theorem State.modLink_free : (s.modLink f).free = s.free := rfl
@[simp] theorem State.modLink_tt : (s.modLink f).tt = s.tt := rfl
@[simp] theorem State.modLink_epoch : (s.modLink f).epoch = s.epoch := rfl
@[simp] theorem State.modLink_ttRuns : (s.modLink f).ttRuns = s.ttRuns := rfl
@[simp] theorem State.modLink_bus : (s.modLink f).bus = s.bus := rfl
@[simp] theorem State.modLink_ext : (s.modLink f).ext = s.ext := rfl
@[simp] theorem State.modLink_win : (s.modLink f).win = s.win := rfl
@[simp] theorem State.modLink_vmem : (s.modLink f).vmem = s.vmem := rfl
@[simp] theorem State.modLink_pad : (s.modLink f).pad = s.pad := rfl
@[simp] theorem State.modLink_cap : (s.modLink f).cap = s.cap := rfl
@[simp] theorem State.modLink_seqs : (s.modLink f).seqs = s.seqs := rfl
@[simp] theorem State.modLink_chans : (s.modLink f).chans = s.chans := rfl
@[simp] theorem State.modLink_groups : (s.modLink f).groups = s.groups := rfl
@[simp] theorem State.modLink_mbx : (s.modLink f).mbx = s.mbx := rfl
@[simp] theorem State.modLink_tias : (s.modLink f).tias = s.tias := rfl
@[simp] theorem State.modLink_loupe : (s.modLink f).loupe = s.loupe := rfl
@[simp] theorem State.modLink_prism : (s.modLink f).prism = s.prism := rfl
@[simp] theorem State.modLink_cal : (s.modLink f).cal = s.cal := rfl
@[simp] theorem State.modLink_faults : (s.modLink f).faults = s.faults := rfl
@[simp] theorem State.modLink_mem : (s.modLink f).mem = s.mem := rfl
@[simp] theorem State.modLink_ring : (s.modLink f).ring = s.ring := rfl
@[simp] theorem State.modLink_clk : (s.modLink f).clk = s.clk := rfl
@[simp] theorem State.modLink_sec : (s.modLink f).sec = s.sec := rfl
@[simp] theorem State.modLink_vpe : (s.modLink f).vpe = s.vpe := rfl
@[simp] theorem State.modLink_latch : (s.modLink f).latch = s.latch := rfl
@[simp] theorem State.modLink_rd (fld : Field) (a b : Nat) : (s.modLink f).rd fld a b = s.rd fld a b := rfl
end

section
variable (f : Ring → Ring)
@[simp] theorem State.modRing_ring : (s.modRing f).ring = f s.ring := rfl
@[simp] theorem State.modRing_pending : (s.modRing f).pending = s.pending := rfl
@[simp] theorem State.modRing_regs : (s.modRing f).regs = s.regs := rfl
@[simp] theorem State.modRing_free : (s.modRing f).free = s.free := rfl
@[simp] theorem State.modRing_tt : (s.modRing f).tt = s.tt := rfl
@[simp] theorem State.modRing_epoch : (s.modRing f).epoch = s.epoch := rfl
@[simp] theorem State.modRing_ttRuns : (s.modRing f).ttRuns = s.ttRuns := rfl
@[simp] theorem State.modRing_bus : (s.modRing f).bus = s.bus := rfl
@[simp] theorem State.modRing_ext : (s.modRing f).ext = s.ext := rfl
@[simp] theorem State.modRing_win : (s.modRing f).win = s.win := rfl
@[simp] theorem State.modRing_vmem : (s.modRing f).vmem = s.vmem := rfl
@[simp] theorem State.modRing_pad : (s.modRing f).pad = s.pad := rfl
@[simp] theorem State.modRing_cap : (s.modRing f).cap = s.cap := rfl
@[simp] theorem State.modRing_seqs : (s.modRing f).seqs = s.seqs := rfl
@[simp] theorem State.modRing_chans : (s.modRing f).chans = s.chans := rfl
@[simp] theorem State.modRing_groups : (s.modRing f).groups = s.groups := rfl
@[simp] theorem State.modRing_mbx : (s.modRing f).mbx = s.mbx := rfl
@[simp] theorem State.modRing_link : (s.modRing f).link = s.link := rfl
@[simp] theorem State.modRing_tias : (s.modRing f).tias = s.tias := rfl
@[simp] theorem State.modRing_loupe : (s.modRing f).loupe = s.loupe := rfl
@[simp] theorem State.modRing_prism : (s.modRing f).prism = s.prism := rfl
@[simp] theorem State.modRing_cal : (s.modRing f).cal = s.cal := rfl
@[simp] theorem State.modRing_faults : (s.modRing f).faults = s.faults := rfl
@[simp] theorem State.modRing_mem : (s.modRing f).mem = s.mem := rfl
@[simp] theorem State.modRing_clk : (s.modRing f).clk = s.clk := rfl
@[simp] theorem State.modRing_sec : (s.modRing f).sec = s.sec := rfl
@[simp] theorem State.modRing_vpe : (s.modRing f).vpe = s.vpe := rfl
@[simp] theorem State.modRing_latch : (s.modRing f).latch = s.latch := rfl
@[simp] theorem State.modRing_rd (fld : Field) (a b : Nat) : (s.modRing f).rd fld a b = s.rd fld a b := rfl
end

section
variable (f : Security → Security)
@[simp] theorem State.modSec_sec : (s.modSec f).sec = f s.sec := rfl
@[simp] theorem State.modSec_pending : (s.modSec f).pending = s.pending := rfl
@[simp] theorem State.modSec_regs : (s.modSec f).regs = s.regs := rfl
@[simp] theorem State.modSec_free : (s.modSec f).free = s.free := rfl
@[simp] theorem State.modSec_tt : (s.modSec f).tt = s.tt := rfl
@[simp] theorem State.modSec_epoch : (s.modSec f).epoch = s.epoch := rfl
@[simp] theorem State.modSec_ttRuns : (s.modSec f).ttRuns = s.ttRuns := rfl
@[simp] theorem State.modSec_bus : (s.modSec f).bus = s.bus := rfl
@[simp] theorem State.modSec_ext : (s.modSec f).ext = s.ext := rfl
@[simp] theorem State.modSec_win : (s.modSec f).win = s.win := rfl
@[simp] theorem State.modSec_vmem : (s.modSec f).vmem = s.vmem := rfl
@[simp] theorem State.modSec_pad : (s.modSec f).pad = s.pad := rfl
@[simp] theorem State.modSec_cap : (s.modSec f).cap = s.cap := rfl
@[simp] theorem State.modSec_seqs : (s.modSec f).seqs = s.seqs := rfl
@[simp] theorem State.modSec_chans : (s.modSec f).chans = s.chans := rfl
@[simp] theorem State.modSec_groups : (s.modSec f).groups = s.groups := rfl
@[simp] theorem State.modSec_mbx : (s.modSec f).mbx = s.mbx := rfl
@[simp] theorem State.modSec_link : (s.modSec f).link = s.link := rfl
@[simp] theorem State.modSec_tias : (s.modSec f).tias = s.tias := rfl
@[simp] theorem State.modSec_loupe : (s.modSec f).loupe = s.loupe := rfl
@[simp] theorem State.modSec_prism : (s.modSec f).prism = s.prism := rfl
@[simp] theorem State.modSec_cal : (s.modSec f).cal = s.cal := rfl
@[simp] theorem State.modSec_faults : (s.modSec f).faults = s.faults := rfl
@[simp] theorem State.modSec_mem : (s.modSec f).mem = s.mem := rfl
@[simp] theorem State.modSec_ring : (s.modSec f).ring = s.ring := rfl
@[simp] theorem State.modSec_clk : (s.modSec f).clk = s.clk := rfl
@[simp] theorem State.modSec_vpe : (s.modSec f).vpe = s.vpe := rfl
@[simp] theorem State.modSec_latch : (s.modSec f).latch = s.latch := rfl
@[simp] theorem State.modSec_rd (fld : Field) (a b : Nat) : (s.modSec f).rd fld a b = s.rd fld a b := rfl
end

section
variable (id : Nat) (f : Job → Job)
@[simp] theorem State.modJob_pending : (s.modJob id f).pending = s.pending := rfl
@[simp] theorem State.modJob_regs : (s.modJob id f).regs = s.regs := rfl
@[simp] theorem State.modJob_free : (s.modJob id f).free = s.free := rfl
@[simp] theorem State.modJob_tt : (s.modJob id f).tt = s.tt := rfl
@[simp] theorem State.modJob_epoch : (s.modJob id f).epoch = s.epoch := rfl
@[simp] theorem State.modJob_ttRuns : (s.modJob id f).ttRuns = s.ttRuns := rfl
@[simp] theorem State.modJob_bus : (s.modJob id f).bus = s.bus := rfl
@[simp] theorem State.modJob_ext : (s.modJob id f).ext = s.ext := rfl
@[simp] theorem State.modJob_win : (s.modJob id f).win = s.win := rfl
@[simp] theorem State.modJob_vmem : (s.modJob id f).vmem = s.vmem := rfl
@[simp] theorem State.modJob_pad : (s.modJob id f).pad = s.pad := rfl
@[simp] theorem State.modJob_cap : (s.modJob id f).cap = s.cap := rfl
@[simp] theorem State.modJob_seqs : (s.modJob id f).seqs = s.seqs := rfl
@[simp] theorem State.modJob_chans : (s.modJob id f).chans = s.chans := rfl
@[simp] theorem State.modJob_groups : (s.modJob id f).groups = s.groups := rfl
@[simp] theorem State.modJob_link : (s.modJob id f).link = s.link := rfl
@[simp] theorem State.modJob_tias : (s.modJob id f).tias = s.tias := rfl
@[simp] theorem State.modJob_loupe : (s.modJob id f).loupe = s.loupe := rfl
@[simp] theorem State.modJob_prism : (s.modJob id f).prism = s.prism := rfl
@[simp] theorem State.modJob_cal : (s.modJob id f).cal = s.cal := rfl
@[simp] theorem State.modJob_faults : (s.modJob id f).faults = s.faults := rfl
@[simp] theorem State.modJob_mem : (s.modJob id f).mem = s.mem := rfl
@[simp] theorem State.modJob_ring : (s.modJob id f).ring = s.ring := rfl
@[simp] theorem State.modJob_clk : (s.modJob id f).clk = s.clk := rfl
@[simp] theorem State.modJob_sec : (s.modJob id f).sec = s.sec := rfl
@[simp] theorem State.modJob_vpe : (s.modJob id f).vpe = s.vpe := rfl
@[simp] theorem State.modJob_latch : (s.modJob id f).latch = s.latch := rfl
@[simp] theorem State.modJob_rd (fld : Field) (a b : Nat) : (s.modJob id f).rd fld a b = s.rd fld a b := rfl
end

section
variable (t : Nat)
@[simp] theorem State.reach_tt : (s.reach t).tt = max s.tt t := rfl
@[simp] theorem State.reach_epoch : (s.reach t).epoch = s.epoch := rfl
@[simp] theorem State.reach_pending : (s.reach t).pending = s.pending := rfl
@[simp] theorem State.reach_regs : (s.reach t).regs = s.regs := rfl
@[simp] theorem State.reach_free : (s.reach t).free = s.free := rfl
@[simp] theorem State.reach_ttRuns : (s.reach t).ttRuns = s.ttRuns := rfl
@[simp] theorem State.reach_bus : (s.reach t).bus = s.bus := rfl
@[simp] theorem State.reach_ext : (s.reach t).ext = s.ext := rfl
@[simp] theorem State.reach_win : (s.reach t).win = s.win := rfl
@[simp] theorem State.reach_vmem : (s.reach t).vmem = s.vmem := rfl
@[simp] theorem State.reach_pad : (s.reach t).pad = s.pad := rfl
@[simp] theorem State.reach_cap : (s.reach t).cap = s.cap := rfl
@[simp] theorem State.reach_seqs : (s.reach t).seqs = s.seqs := rfl
@[simp] theorem State.reach_chans : (s.reach t).chans = s.chans := rfl
@[simp] theorem State.reach_groups : (s.reach t).groups = s.groups := rfl
@[simp] theorem State.reach_mbx : (s.reach t).mbx = s.mbx := rfl
@[simp] theorem State.reach_link : (s.reach t).link = s.link := rfl
@[simp] theorem State.reach_tias : (s.reach t).tias = s.tias := rfl
@[simp] theorem State.reach_loupe : (s.reach t).loupe = s.loupe := rfl
@[simp] theorem State.reach_prism : (s.reach t).prism = s.prism := rfl
@[simp] theorem State.reach_cal : (s.reach t).cal = s.cal := rfl
@[simp] theorem State.reach_faults : (s.reach t).faults = s.faults := rfl
@[simp] theorem State.reach_mem : (s.reach t).mem = s.mem := rfl
@[simp] theorem State.reach_ring : (s.reach t).ring = s.ring := rfl
@[simp] theorem State.reach_clk : (s.reach t).clk = s.clk := rfl
@[simp] theorem State.reach_sec : (s.reach t).sec = s.sec := rfl
@[simp] theorem State.reach_vpe : (s.reach t).vpe = s.vpe := rfl
@[simp] theorem State.reach_latch : (s.reach t).latch = s.latch := rfl
@[simp] theorem State.reach_rd (fld : Field) (a b : Nat) : (s.reach t).rd fld a b = s.rd fld a b := rfl
end

section
@[simp] theorem State.draw_free : s.draw.2.free = s.free + 1 := rfl
@[simp] theorem State.draw_epoch : s.draw.2.epoch = s.epoch := rfl
@[simp] theorem State.draw_pending : s.draw.2.pending = s.pending := rfl
@[simp] theorem State.draw_regs : s.draw.2.regs = s.regs := rfl
@[simp] theorem State.draw_tt : s.draw.2.tt = s.tt := rfl
@[simp] theorem State.draw_ttRuns : s.draw.2.ttRuns = s.ttRuns := rfl
@[simp] theorem State.draw_bus : s.draw.2.bus = s.bus := rfl
@[simp] theorem State.draw_ext : s.draw.2.ext = s.ext := rfl
@[simp] theorem State.draw_win : s.draw.2.win = s.win := rfl
@[simp] theorem State.draw_vmem : s.draw.2.vmem = s.vmem := rfl
@[simp] theorem State.draw_pad : s.draw.2.pad = s.pad := rfl
@[simp] theorem State.draw_cap : s.draw.2.cap = s.cap := rfl
@[simp] theorem State.draw_seqs : s.draw.2.seqs = s.seqs := rfl
@[simp] theorem State.draw_chans : s.draw.2.chans = s.chans := rfl
@[simp] theorem State.draw_groups : s.draw.2.groups = s.groups := rfl
@[simp] theorem State.draw_mbx : s.draw.2.mbx = s.mbx := rfl
@[simp] theorem State.draw_link : s.draw.2.link = s.link := rfl
@[simp] theorem State.draw_tias : s.draw.2.tias = s.tias := rfl
@[simp] theorem State.draw_loupe : s.draw.2.loupe = s.loupe := rfl
@[simp] theorem State.draw_prism : s.draw.2.prism = s.prism := rfl
@[simp] theorem State.draw_cal : s.draw.2.cal = s.cal := rfl
@[simp] theorem State.draw_faults : s.draw.2.faults = s.faults := rfl
@[simp] theorem State.draw_mem : s.draw.2.mem = s.mem := rfl
@[simp] theorem State.draw_ring : s.draw.2.ring = s.ring := rfl
@[simp] theorem State.draw_clk : s.draw.2.clk = s.clk := rfl
@[simp] theorem State.draw_sec : s.draw.2.sec = s.sec := rfl
@[simp] theorem State.draw_vpe : s.draw.2.vpe = s.vpe := rfl
@[simp] theorem State.draw_latch : s.draw.2.latch = s.latch := rfl
@[simp] theorem State.draw_rd (fld : Field) (a b : Nat) : s.draw.2.rd fld a b = s.rd fld a b := rfl
end

section
variable (n : Nat)
@[simp] theorem State.drawBytes_free : (s.drawBytes n).2.free = s.free + 1 := rfl
@[simp] theorem State.drawBytes_epoch : (s.drawBytes n).2.epoch = s.epoch := rfl
@[simp] theorem State.drawBytes_pending : (s.drawBytes n).2.pending = s.pending := rfl
@[simp] theorem State.drawBytes_regs : (s.drawBytes n).2.regs = s.regs := rfl
@[simp] theorem State.drawBytes_tt : (s.drawBytes n).2.tt = s.tt := rfl
@[simp] theorem State.drawBytes_ttRuns : (s.drawBytes n).2.ttRuns = s.ttRuns := rfl
@[simp] theorem State.drawBytes_bus : (s.drawBytes n).2.bus = s.bus := rfl
@[simp] theorem State.drawBytes_ext : (s.drawBytes n).2.ext = s.ext := rfl
@[simp] theorem State.drawBytes_win : (s.drawBytes n).2.win = s.win := rfl
@[simp] theorem State.drawBytes_vmem : (s.drawBytes n).2.vmem = s.vmem := rfl
@[simp] theorem State.drawBytes_pad : (s.drawBytes n).2.pad = s.pad := rfl
@[simp] theorem State.drawBytes_cap : (s.drawBytes n).2.cap = s.cap := rfl
@[simp] theorem State.drawBytes_seqs : (s.drawBytes n).2.seqs = s.seqs := rfl
@[simp] theorem State.drawBytes_chans : (s.drawBytes n).2.chans = s.chans := rfl
@[simp] theorem State.drawBytes_groups : (s.drawBytes n).2.groups = s.groups := rfl
@[simp] theorem State.drawBytes_mbx : (s.drawBytes n).2.mbx = s.mbx := rfl
@[simp] theorem State.drawBytes_link : (s.drawBytes n).2.link = s.link := rfl
@[simp] theorem State.drawBytes_tias : (s.drawBytes n).2.tias = s.tias := rfl
@[simp] theorem State.drawBytes_loupe : (s.drawBytes n).2.loupe = s.loupe := rfl
@[simp] theorem State.drawBytes_prism : (s.drawBytes n).2.prism = s.prism := rfl
@[simp] theorem State.drawBytes_cal : (s.drawBytes n).2.cal = s.cal := rfl
@[simp] theorem State.drawBytes_faults : (s.drawBytes n).2.faults = s.faults := rfl
@[simp] theorem State.drawBytes_mem : (s.drawBytes n).2.mem = s.mem := rfl
@[simp] theorem State.drawBytes_ring : (s.drawBytes n).2.ring = s.ring := rfl
@[simp] theorem State.drawBytes_clk : (s.drawBytes n).2.clk = s.clk := rfl
@[simp] theorem State.drawBytes_sec : (s.drawBytes n).2.sec = s.sec := rfl
@[simp] theorem State.drawBytes_vpe : (s.drawBytes n).2.vpe = s.vpe := rfl
@[simp] theorem State.drawBytes_latch : (s.drawBytes n).2.latch = s.latch := rfl
@[simp] theorem State.drawBytes_rd (fld : Field) (a b : Nat) : (s.drawBytes n).2.rd fld a b = s.rd fld a b := rfl
end

section
variable (type : Nat) (payload : Bytes)
@[simp] theorem State.sendControl_pending : (s.sendControl type payload).pending = s.pending := rfl
@[simp] theorem State.sendControl_regs : (s.sendControl type payload).regs = s.regs := rfl
@[simp] theorem State.sendControl_free : (s.sendControl type payload).free = s.free := rfl
@[simp] theorem State.sendControl_tt : (s.sendControl type payload).tt = s.tt := rfl
@[simp] theorem State.sendControl_epoch : (s.sendControl type payload).epoch = s.epoch := rfl
@[simp] theorem State.sendControl_ttRuns : (s.sendControl type payload).ttRuns = s.ttRuns := rfl
@[simp] theorem State.sendControl_bus : (s.sendControl type payload).bus = s.bus := rfl
@[simp] theorem State.sendControl_ext : (s.sendControl type payload).ext = s.ext := rfl
@[simp] theorem State.sendControl_win : (s.sendControl type payload).win = s.win := rfl
@[simp] theorem State.sendControl_vmem : (s.sendControl type payload).vmem = s.vmem := rfl
@[simp] theorem State.sendControl_pad : (s.sendControl type payload).pad = s.pad := rfl
@[simp] theorem State.sendControl_cap : (s.sendControl type payload).cap = s.cap := rfl
@[simp] theorem State.sendControl_seqs : (s.sendControl type payload).seqs = s.seqs := rfl
@[simp] theorem State.sendControl_chans : (s.sendControl type payload).chans = s.chans := rfl
@[simp] theorem State.sendControl_groups : (s.sendControl type payload).groups = s.groups := rfl
@[simp] theorem State.sendControl_mbx : (s.sendControl type payload).mbx = s.mbx := rfl
@[simp] theorem State.sendControl_tias : (s.sendControl type payload).tias = s.tias := rfl
@[simp] theorem State.sendControl_loupe : (s.sendControl type payload).loupe = s.loupe := rfl
@[simp] theorem State.sendControl_prism : (s.sendControl type payload).prism = s.prism := rfl
@[simp] theorem State.sendControl_cal : (s.sendControl type payload).cal = s.cal := rfl
@[simp] theorem State.sendControl_faults : (s.sendControl type payload).faults = s.faults := rfl
@[simp] theorem State.sendControl_mem : (s.sendControl type payload).mem = s.mem := rfl
@[simp] theorem State.sendControl_ring : (s.sendControl type payload).ring = s.ring := rfl
@[simp] theorem State.sendControl_clk : (s.sendControl type payload).clk = s.clk := rfl
@[simp] theorem State.sendControl_sec : (s.sendControl type payload).sec = s.sec := rfl
@[simp] theorem State.sendControl_vpe : (s.sendControl type payload).vpe = s.vpe := rfl
@[simp] theorem State.sendControl_latch : (s.sendControl type payload).latch = s.latch := rfl
@[simp] theorem State.sendControl_rd (fld : Field) (a b : Nat) : (s.sendControl type payload).rd fld a b = s.rd fld a b := rfl
end

section
variable (t v : Nat)
@[simp] theorem State.setRf_pending : (s.setRf t v).pending = s.pending := rfl
@[simp] theorem State.setRf_free : (s.setRf t v).free = s.free := rfl
@[simp] theorem State.setRf_tt : (s.setRf t v).tt = s.tt := rfl
@[simp] theorem State.setRf_epoch : (s.setRf t v).epoch = s.epoch := rfl
@[simp] theorem State.setRf_ttRuns : (s.setRf t v).ttRuns = s.ttRuns := rfl
@[simp] theorem State.setRf_bus : (s.setRf t v).bus = s.bus := rfl
@[simp] theorem State.setRf_ext : (s.setRf t v).ext = s.ext := rfl
@[simp] theorem State.setRf_win : (s.setRf t v).win = s.win := rfl
@[simp] theorem State.setRf_vmem : (s.setRf t v).vmem = s.vmem := rfl
@[simp] theorem State.setRf_pad : (s.setRf t v).pad = s.pad := rfl
@[simp] theorem State.setRf_cap : (s.setRf t v).cap = s.cap := rfl
@[simp] theorem State.setRf_seqs : (s.setRf t v).seqs = s.seqs := rfl
@[simp] theorem State.setRf_chans : (s.setRf t v).chans = s.chans := rfl
@[simp] theorem State.setRf_groups : (s.setRf t v).groups = s.groups := rfl
@[simp] theorem State.setRf_mbx : (s.setRf t v).mbx = s.mbx := rfl
@[simp] theorem State.setRf_link : (s.setRf t v).link = s.link := rfl
@[simp] theorem State.setRf_tias : (s.setRf t v).tias = s.tias := rfl
@[simp] theorem State.setRf_loupe : (s.setRf t v).loupe = s.loupe := rfl
@[simp] theorem State.setRf_prism : (s.setRf t v).prism = s.prism := rfl
@[simp] theorem State.setRf_cal : (s.setRf t v).cal = s.cal := rfl
@[simp] theorem State.setRf_faults : (s.setRf t v).faults = s.faults := rfl
@[simp] theorem State.setRf_mem : (s.setRf t v).mem = s.mem := rfl
@[simp] theorem State.setRf_clk : (s.setRf t v).clk = s.clk := rfl
@[simp] theorem State.setRf_sec : (s.setRf t v).sec = s.sec := rfl
@[simp] theorem State.setRf_vpe : (s.setRf t v).vpe = s.vpe := rfl
@[simp] theorem State.setRf_latch : (s.setRf t v).latch = s.latch := rfl
end

section
variable (v : Nat)
@[simp] theorem State.setXown_pending : (s.setXown v).pending = s.pending := rfl
@[simp] theorem State.setXown_free : (s.setXown v).free = s.free := rfl
@[simp] theorem State.setXown_tt : (s.setXown v).tt = s.tt := rfl
@[simp] theorem State.setXown_epoch : (s.setXown v).epoch = s.epoch := rfl
@[simp] theorem State.setXown_ttRuns : (s.setXown v).ttRuns = s.ttRuns := rfl
@[simp] theorem State.setXown_bus : (s.setXown v).bus = s.bus := rfl
@[simp] theorem State.setXown_ext : (s.setXown v).ext = s.ext := rfl
@[simp] theorem State.setXown_win : (s.setXown v).win = s.win := rfl
@[simp] theorem State.setXown_vmem : (s.setXown v).vmem = s.vmem := rfl
@[simp] theorem State.setXown_pad : (s.setXown v).pad = s.pad := rfl
@[simp] theorem State.setXown_cap : (s.setXown v).cap = s.cap := rfl
@[simp] theorem State.setXown_seqs : (s.setXown v).seqs = s.seqs := rfl
@[simp] theorem State.setXown_chans : (s.setXown v).chans = s.chans := rfl
@[simp] theorem State.setXown_groups : (s.setXown v).groups = s.groups := rfl
@[simp] theorem State.setXown_mbx : (s.setXown v).mbx = s.mbx := rfl
@[simp] theorem State.setXown_link : (s.setXown v).link = s.link := rfl
@[simp] theorem State.setXown_tias : (s.setXown v).tias = s.tias := rfl
@[simp] theorem State.setXown_loupe : (s.setXown v).loupe = s.loupe := rfl
@[simp] theorem State.setXown_cal : (s.setXown v).cal = s.cal := rfl
@[simp] theorem State.setXown_faults : (s.setXown v).faults = s.faults := rfl
@[simp] theorem State.setXown_mem : (s.setXown v).mem = s.mem := rfl
@[simp] theorem State.setXown_ring : (s.setXown v).ring = s.ring := rfl
@[simp] theorem State.setXown_clk : (s.setXown v).clk = s.clk := rfl
@[simp] theorem State.setXown_sec : (s.setXown v).sec = s.sec := rfl
@[simp] theorem State.setXown_vpe : (s.setXown v).vpe = s.vpe := rfl
@[simp] theorem State.setXown_latch : (s.setXown v).latch = s.latch := rfl
end

section
@[simp] theorem State.newSyncPhase_pending : (s.newSyncPhase).pending = s.pending := rfl
@[simp] theorem State.newSyncPhase_regs : (s.newSyncPhase).regs = s.regs := rfl
@[simp] theorem State.newSyncPhase_tt : (s.newSyncPhase).tt = s.tt := rfl
@[simp] theorem State.newSyncPhase_epoch : (s.newSyncPhase).epoch = s.epoch := rfl
@[simp] theorem State.newSyncPhase_ttRuns : (s.newSyncPhase).ttRuns = s.ttRuns := rfl
@[simp] theorem State.newSyncPhase_bus : (s.newSyncPhase).bus = s.bus := rfl
@[simp] theorem State.newSyncPhase_ext : (s.newSyncPhase).ext = s.ext := rfl
@[simp] theorem State.newSyncPhase_win : (s.newSyncPhase).win = s.win := rfl
@[simp] theorem State.newSyncPhase_vmem : (s.newSyncPhase).vmem = s.vmem := rfl
@[simp] theorem State.newSyncPhase_pad : (s.newSyncPhase).pad = s.pad := rfl
@[simp] theorem State.newSyncPhase_cap : (s.newSyncPhase).cap = s.cap := rfl
@[simp] theorem State.newSyncPhase_seqs : (s.newSyncPhase).seqs = s.seqs := rfl
@[simp] theorem State.newSyncPhase_chans : (s.newSyncPhase).chans = s.chans := rfl
@[simp] theorem State.newSyncPhase_groups : (s.newSyncPhase).groups = s.groups := rfl
@[simp] theorem State.newSyncPhase_mbx : (s.newSyncPhase).mbx = s.mbx := rfl
@[simp] theorem State.newSyncPhase_link : (s.newSyncPhase).link = s.link := rfl
@[simp] theorem State.newSyncPhase_tias : (s.newSyncPhase).tias = s.tias := rfl
@[simp] theorem State.newSyncPhase_loupe : (s.newSyncPhase).loupe = s.loupe := rfl
@[simp] theorem State.newSyncPhase_prism : (s.newSyncPhase).prism = s.prism := rfl
@[simp] theorem State.newSyncPhase_cal : (s.newSyncPhase).cal = s.cal := rfl
@[simp] theorem State.newSyncPhase_faults : (s.newSyncPhase).faults = s.faults := rfl
@[simp] theorem State.newSyncPhase_mem : (s.newSyncPhase).mem = s.mem := rfl
@[simp] theorem State.newSyncPhase_ring : (s.newSyncPhase).ring = s.ring := rfl
@[simp] theorem State.newSyncPhase_sec : (s.newSyncPhase).sec = s.sec := rfl
@[simp] theorem State.newSyncPhase_vpe : (s.newSyncPhase).vpe = s.vpe := rfl
@[simp] theorem State.newSyncPhase_latch : (s.newSyncPhase).latch = s.latch := rfl
@[simp] theorem State.newSyncPhase_rd (fld : Field) (a b : Nat) : (s.newSyncPhase).rd fld a b = s.rd fld a b := rfl
end

/-- Where a branch decides between two states, a field that both keep is kept. -/
theorem State.ite_field {α : Type} (p : Prop) [Decidable p] (a b : State) (f : State → α) (x : α) (ha : f a = x) (hb : f b = x) :
    f (if p then a else b) = x := by
  split <;> assumption

end Sys2Proof.Machine
end

