-- ==== Sys2Proof/Laws/Ops.lean ====
section
/-!
SUPPORT. What the shared operations do, said once: how the relations of Safety compose, what sending, reporting and
answering leave alone, and what a response reads as.
-/
namespace Sys2Proof.Machine

/-! ## How "as before" composes -/

theorem State.sameMemory_refl (s : State) : s.sameMemory s := ⟨fun _ => rfl, fun _ => rfl, fun _ => rfl⟩

theorem State.sameMemory_of_eq {s t : State} (hv : t.vmem = s.vmem) (hp : t.pad = s.pad) (hc : t.cap = s.cap) : t.sameMemory s := by
  simp [State.sameMemory, hv, hp, hc]

theorem State.sameMemory_trans {s t u : State} (h1 : u.sameMemory t) (h2 : t.sameMemory s) : u.sameMemory s :=
  ⟨fun a => (h1.1 a).trans (h2.1 a), fun a => (h1.2.1 a).trans (h2.2.1 a), fun a => (h1.2.2 a).trans (h2.2.2 a)⟩

theorem State.sameRegs_refl (s : State) (l : List Nat) : s.sameRegs s l := fun _ _ => rfl

theorem State.sameRegs_of_eq {s t : State} (l : List Nat) (h : t.regs = s.regs) : t.sameRegs s l := fun _ _ => by rw [h]

theorem State.sameRegs_trans {s t u : State} {l : List Nat} (h1 : u.sameRegs t l) (h2 : t.sameRegs s l) : u.sameRegs s l :=
  fun k hk => (h1 k hk).trans (h2 k hk)

theorem State.sameRegs_mono {s t : State} {l m : List Nat} (h : t.sameRegs s l) (hm : ∀ k ∈ l, k ∈ m) : t.sameRegs s m :=
  fun k hk => h k (fun hl => hk (hm k hl))

/-- A write changes its own key only. -/
theorem State.sameRegs_wr (s : State) (f : Field) (v i k : Nat) (l : List Nat) (h : f.key i k ∈ l) : (s.wr f v i k).sameRegs s l := by
  intro key hk
  exact Tab.find_set_ne _ _ _ (fun e => hk (e ▸ h))

/-- The same registers under another name. -/
theorem State.sameRegs_congr {s t u : State} {l : List Nat} (e : u.regs = t.regs) (h : t.sameRegs s l) : u.sameRegs s l :=
  fun k hk => by rw [e]; exact h k hk

/-- A field whose key is not listed reads as before. -/
theorem State.sameRegs_rd {s t : State} {l : List Nat} (h : t.sameRegs s l) (f : Field) (i k : Nat) (hk : f.key i k ∉ l) :
    t.rd f i k = s.rd f i k := by
  simp [State.rd, Tab.get, h _ hk]

theorem State.sameUnits_refl (s : State) : s.sameUnits s := ⟨rfl, rfl, rfl, rfl, rfl⟩

theorem State.sameUnits_trans {s t u : State} (h1 : u.sameUnits t) (h2 : t.sameUnits s) : u.sameUnits s :=
  ⟨h1.1.trans h2.1, h1.2.1.trans h2.2.1, h1.2.2.1.trans h2.2.2.1, h1.2.2.2.1.trans h2.2.2.2.1, h1.2.2.2.2.trans h2.2.2.2.2⟩

/-! ## Frames to the host -/

/-- Sending a frame changes the host link's state only. -/
theorem State.send_eq (s : State) (type tag : Nat) (payload : Bytes) :
    ∃ l, s.send type tag payload = { s with link := l } := by
  unfold State.send
  extract_lets f
  split <;> exact ⟨_, rfl⟩

theorem State.notify_eq (s : State) (kind ctx index : Nat) : ∃ l, s.notify kind ctx index = { s with link := l } :=
  State.send_eq s _ _ _

/-- Data to host memory change the host link's state only. -/
theorem State.dmaWrite_eq (fuel : Nat) (s : State) (haddr : Nat) (data : Bytes) :
    ∃ l, s.dmaWrite haddr fuel data = { s with link := l } := by
  induction fuel generalizing s haddr data with
  | zero => exact ⟨s.link, rfl⟩
  | succ fuel ih =>
    unfold State.dmaWrite
    split
    · exact ⟨s.link, rfl⟩
    · obtain ⟨l, hl⟩ := State.send_eq s 0x10 0 (toLe 8 haddr ++ data.take 4096)
      rw [hl]
      obtain ⟨m, hm⟩ := ih { s with link := l } (haddr + 4096) (data.drop 4096)
      exact ⟨m, hm⟩

/-! ## Responses -/

@[simp] theorem length_response (op : Nat) (d : Desc) (status rflags jobid : Nat) (result : Bytes) :
    (response op d status rflags jobid result).length = 32 := by simp [response]

/-- The slot of the response ring that the context's next response takes, written. -/
def State.putResponse (s : State) (c : Nat) (r : Bytes) : State :=
  { s with win := s.win.writeN (0x18000 + c * 0x800 + 32 * (s.rd HW_RSP_PROD.PROD 0 c % 64)) r }

/-- A response is written to its slot of the response ring, the producer index advances, and only the host link changes
besides (R46). -/
theorem State.respond_eq (s : State) (op : Nat) (d : Desc) (status rflags jobid : Nat) (result : Bytes) :
    ∃ l, s.respond op d status rflags jobid result =
      { (s.putResponse d.ctx.val (response op d status rflags jobid result)).wr HW_RSP_PROD.PROD
          (s.rd HW_RSP_PROD.PROD 0 d.ctx.val + 1) 0 d.ctx.val with link := l } := by
  unfold State.respond State.putResponse response
  exact State.notify_eq _ _ _ _

/-- What a response leaves alone. -/
theorem State.respond_frame (s : State) (op : Nat) (d : Desc) (status rflags jobid : Nat) (result : Bytes) :
    let t := s.respond op d status rflags jobid result
    t.sameMemory s ∧ t.sameUnits s ∧ t.seqs = s.seqs ∧ t.sameRegs s [HW_RSP_PROD.PROD.key 0 d.ctx] ∧ t.tt = s.tt
      ∧ t.mbx = s.mbx ∧ t.cal = s.cal ∧ t.ring = s.ring ∧ t.sec = s.sec ∧ t.mem = s.mem ∧ t.clk = s.clk ∧ t.faults = s.faults
      ∧ t.pending = s.pending ∧ t.free = s.free ∧ t.bus = s.bus ∧ t.ext = s.ext := by
  obtain ⟨l, hl⟩ := State.respond_eq s op d status rflags jobid result
  intro t
  have ht : t = _ := hl
  refine ⟨State.sameMemory_of_eq ?_ ?_ ?_, ⟨?_, ?_, ?_, ?_, ?_⟩, ?_, ?_, ?_, ?_, ?_, ?_, ?_, ?_, ?_, ?_, ?_, ?_, ?_, ?_⟩
  case refine_10 =>
    have h := State.sameRegs_wr (s.putResponse d.ctx.val (response op d status rflags jobid result)) HW_RSP_PROD.PROD
      (s.rd HW_RSP_PROD.PROD 0 d.ctx.val + 1) 0 d.ctx.val [HW_RSP_PROD.PROD.key 0 d.ctx] (by simp)
    exact State.sameRegs_congr (by rw [ht]) (State.sameRegs_trans h (State.sameRegs_of_eq _ rfl))
  all_goals simp only [ht, State.wr, State.putResponse]

/-- The last response of the context reads as just written. -/
theorem State.respond_last (s : State) (op : Nat) (d : Desc) (status rflags jobid : Nat) (result : Bytes) :
    (s.respond op d status rflags jobid result).lastResponse d.ctx.val = response op d status rflags jobid result := by
  obtain ⟨l, hl⟩ := State.respond_eq s op d status rflags jobid result
  simp only [State.lastResponse, hl]
  generalize hp : s.rd HW_RSP_PROD.PROD 0 d.ctx.val = p at *
  have hr : ∀ (t : State), (({ t.wr HW_RSP_PROD.PROD (p + 1) 0 d.ctx.val with link := l } : State)).rd HW_RSP_PROD.PROD 0 d.ctx.val
      = (p + 1) % 65536 := fun t => State.rd_wr_self t HW_RSP_PROD.PROD (p + 1) 0 d.ctx.val
  rw [hr]
  have hi : ((p + 1) % 65536 + 65535) % 65536 % 64 = p % 64 := by omega
  rw [hi]
  have := Mem.readN_writeN s.win (0x18000 + d.ctx.val * 0x800 + 32 * (p % 64)) (response op d status rflags jobid result)
  rw [length_response] at this
  simp only [State.wr_win, State.putResponse, hp]
  exact this

/-! ## Events -/

/-- An event changes the event ring, its indices and counters, its numbering and the host link (R49). -/
theorem State.event_frame (s : State) (code source time : Nat) (data : Bytes) :
    let t := s.event code source time data
    t.sameMemory s ∧ t.sameUnits s ∧ t.seqs = s.seqs ∧ t.tt = s.tt
      ∧ t.sameRegs s [HW_EVT_PROD.PROD.key 0 0, HW_EVT_CONS.CONS.key 0 0, HW_EVT_LOST.LOST.key 0 0]
      ∧ t.mbx.jobs = s.mbx.jobs ∧ t.mbx.imm = s.mbx.imm ∧ t.cal = s.cal ∧ t.ring = s.ring ∧ t.sec = s.sec ∧ t.mem = s.mem
      ∧ t.clk = s.clk ∧ t.faults = s.faults ∧ t.pending = s.pending ∧ t.free = s.free := by
  unfold State.event
  split
  · exact ⟨State.sameMemory_refl s, State.sameUnits_refl s, rfl, rfl, State.sameRegs_refl s _, rfl, rfl, rfl, rfl, rfl, rfl, rfl,
      rfl, rfl, rfl⟩
  · unfold State.putEvent
    extract_lets prod full rec_ a m b c t
    obtain ⟨l, hl⟩ : ∃ l, t = { c with link := l } := State.notify_eq c 1 0xFF ((prod + 1) % 65536)
    rw [hl]
    have ha : a.sameRegs s [HW_EVT_PROD.PROD.key 0 0, HW_EVT_CONS.CONS.key 0 0, HW_EVT_LOST.LOST.key 0 0]
        ∧ ∃ r, a = { s with regs := r } := by
      simp only [a]
      split
      · exact ⟨State.sameRegs_trans (t := s.bump HW_EVT_CONS.CONS)
          (State.sameRegs_wr _ HW_EVT_LOST.LOST (satAdd _ (State.rd _ HW_EVT_LOST.LOST 0 0) 1) 0 0 _ (by simp))
          (State.sameRegs_wr s HW_EVT_CONS.CONS (s.rd HW_EVT_CONS.CONS 0 0 + 1) 0 0 _ (by simp)), ⟨_, rfl⟩⟩
      · exact ⟨State.sameRegs_refl s _, ⟨s.regs, rfl⟩⟩
    obtain ⟨hr, r, ha⟩ := ha
    have hc : c.sameRegs s [HW_EVT_PROD.PROD.key 0 0, HW_EVT_CONS.CONS.key 0 0, HW_EVT_LOST.LOST.key 0 0] :=
      State.sameRegs_trans (State.sameRegs_wr b HW_EVT_PROD.PROD (prod + 1) 0 0 _ (by simp)) hr
    have hm : m = s.mbx := by simp only [m, ha]
    have hf : c.vmem = s.vmem ∧ c.pad = s.pad ∧ c.cap = s.cap ∧ c.chans = s.chans ∧ c.groups = s.groups ∧ c.tias = s.tias
        ∧ c.loupe = s.loupe ∧ c.prism = s.prism ∧ c.seqs = s.seqs ∧ c.tt = s.tt ∧ c.mbx.jobs = s.mbx.jobs ∧ c.mbx.imm = s.mbx.imm
        ∧ c.cal = s.cal ∧ c.ring = s.ring ∧ c.sec = s.sec ∧ c.mem = s.mem ∧ c.clk = s.clk ∧ c.faults = s.faults
        ∧ c.pending = s.pending ∧ c.free = s.free := by
      refine ⟨?_, ?_, ?_, ?_, ?_, ?_, ?_, ?_, ?_, ?_, ?_, ?_, ?_, ?_, ?_, ?_, ?_, ?_, ?_, ?_⟩ <;> simp only [c, State.wr, b, ha, hm]
    clear_value c
    obtain ⟨h1, h2, h3, h4, h5, h6, h7, h8, h9, h10, h11, h12, h13, h14, h15, h16, h17, h18, h19, h20⟩ := hf
    exact ⟨State.sameMemory_of_eq h1 h2 h3, ⟨h4, h5, h6, h7, h8⟩, h9, h10, State.sameRegs_congr rfl hc, h11, h12, h13, h14, h15, h16,
      h17, h18, h19, h20⟩

/-! ## The job queue -/

/-- Changing a job changes no JOBID, if the change keeps it. -/
theorem State.modJob_ids (s : State) (id : Nat) (f : Job → Job) (hf : ∀ j, (f j).id = j.id) :
    (s.modJob id f).mbx.jobs.map Job.id = s.mbx.jobs.map Job.id := by
  simp only [State.modJob, List.map_map]
  apply List.map_congr_left
  intro j _
  by_cases h : j.id = id <;> simp [h, hf]

/-- A job that is dropped is no longer in the queue. -/
theorem State.dropJob_jobs (s : State) (id : Nat) : (s.dropJob id).mbx.jobs = s.mbx.jobs.filter (fun x => x.id != id) := by
  unfold State.dropJob
  extract_lets act t
  split <;> rfl

/-- Dropping a job keeps memory, the units' inner state, and every register but SC_STAT.SESSION. -/
theorem State.dropJob_frame (s : State) (id : Nat) :
    (s.dropJob id).sameMemory s ∧ (s.dropJob id).sameUnits s ∧ (s.dropJob id).tt = s.tt
      ∧ (s.dropJob id).sameRegs s [SC_STAT.SESSION.key 0 0] := by
  obtain ⟨t, ht, h⟩ : ∃ t, (t.vmem = s.vmem ∧ t.pad = s.pad ∧ t.cap = s.cap ∧ t.sameUnits s ∧ t.tt = s.tt ∧ t.regs = s.regs)
      ∧ (s.dropJob id = t ∨ s.dropJob id = t.wr SC_STAT.SESSION 2) := by
    unfold State.dropJob
    extract_lets
    split
    · refine ⟨_, ?_, .inr rfl⟩
      exact ⟨rfl, rfl, rfl, ⟨rfl, rfl, rfl, rfl, rfl⟩, rfl, rfl⟩
    · refine ⟨_, ?_, .inl rfl⟩
      exact ⟨rfl, rfl, rfl, ⟨rfl, rfl, rfl, rfl, rfl⟩, rfl, rfl⟩
  obtain ⟨hv, hp, hc, hu, htt, hr⟩ := ht
  obtain h | h := h <;> rw [h]
  · exact ⟨State.sameMemory_of_eq hv hp hc, hu, htt, State.sameRegs_of_eq _ hr⟩
  · exact ⟨State.sameMemory_of_eq hv hp hc, hu, htt, State.sameRegs_trans
      (State.sameRegs_wr t SC_STAT.SESSION 2 0 0 _ (by simp)) (State.sameRegs_of_eq _ hr)⟩

/-! ## Commands carried out -/

/-- A command that the step carries out is the one named; carrying it out starts from the same state but for the mailbox's own
bookkeeping. -/
theorem State.serves_eq {s u : State} {op : Nat} {d : Desc} {c : Consumed} (h : s.serves op d c u) :
    (∃ m, u = { s with mbx := m } ∧ m.jobs = s.mbx.jobs ∧ m.reqs = s.mbx.reqs ∧ m.replay = s.mbx.replay)
      ∧ c.op = op ∧ c.d.ctx = d.ctx ∧ c.d.seq = d.seq := by
  unfold State.serves State.due at h
  split at h
  case h_1 c' hf =>
    have hi := List.find?_some hf
    simp only [Consumed.isFor, Bool.and_eq_true, beq_iff_eq] at hi
    split at h
    · simp only [Due.go.injEq, true_and] at h
      obtain ⟨rfl, hu⟩ := h
      exact ⟨⟨_, hu.symm, rfl, rfl, rfl⟩, hi.1.1, hi.1.2, hi.2⟩
    · cases h
  case h_2 =>
    split at h
    · cases h
    · simp only [State.stamp] at h
      split at h
      · cases h
      · simp only [Due.go.injEq, true_and] at h
        obtain ⟨rfl, hu⟩ := h
        exact ⟨⟨_, hu.symm, rfl, rfl, rfl⟩, rfl, rfl, rfl⟩

/-- What serving a command comes to, once it is carried out and ends. -/
theorem State.serve_done {s u t : State} {op : Nat} {d : Desc} {c : Consumed} {act : Consumed → State → Act} {status : Nat}
    {result out : Bytes} (h : s.serves op d c u) (ha : act c u = .done status result out t) :
    s.serve op d act = t.answer c status result := by
  have h' : s.due op d = .go c [] u := h
  simp [State.serve, h', ha]

/-- What a job comes to, once it is carried out and ends. -/
theorem State.serveJob_done {s u t : State} {op : Nat} {d : Desc} {p q : Bytes} {j : Job}
    {act : Consumed → Nat → Bytes → State → Act} {status : Nat} {result out : Bytes} (h : s.carriesOut op d p j q u)
    (ha : act j.cmd j.id q u = .done status result out t) : s.serveJob op d p act = t.finishJob j status result out := by
  simp [State.serveJob, h.1, h.2, ha]

/-- What a job comes to that goes on after it has been carried out. -/
theorem State.serveJob_later {s u t : State} {op : Nat} {d : Desc} {p q : Bytes} {j : Job}
    {act : Consumed → Nat → Bytes → State → Act} (h : s.carriesOut op d p j q u) (ha : act j.cmd j.id q u = .later t) :
    s.serveJob op d p act = t.modJob j.id (fun j => { j with deferred := true }) := by
  simp [State.serveJob, h.1, h.2, ha]

/-! ## Facts about the whole machine -/

/-- The invariant rests on the memories, the register file and the job queue. -/
theorem State.inv_of_eq {s t : State} (h : s.Inv) (hw : t.win = s.win) (hv : t.vmem = s.vmem) (hp : t.pad = s.pad)
    (hc : t.cap = s.cap) (hs : t.sec = s.sec) (hr : t.regs = s.regs) (hj : t.mbx = s.mbx) : t.Inv := by
  simpa [State.Inv, State.memoriesWf, State.jobIdsDistinct, hw, hv, hp, hc, hs, hr, hj] using h

/-- A register write keeps the register file's form. -/
theorem State.sorted_wr (s : State) (f : Field) (v i k : Nat) (h : Tab.Sorted s.regs) : Tab.Sorted (s.wr f v i k).regs :=
  Tab.sorted_set _ _ h

end Sys2Proof.Machine
end

