-- ==== Sys2Proof/Tests/Setup.lean ====
section
/-!
SUPPORT. Small states and operands that the tests and the witnesses of the statements are built from.
-/
namespace Sys2Proof.Tests

open Sys2Proof Sys2Proof.Machine

/-- The block in service: the mailbox is ready and every clock domain is. -/
def up : State := (State.reset.wr HW_STATUS.MBRDY 1).wr CK_READY.READY (2 ^ 25 - 1)

/-- In service, with the host link ACTIVE. -/
def linked : State := up.wr HL_STAT.STAGE 4

/-- In service, on a ring of four chips that is up; this is chip 1. -/
def ringed : State := (((up.wr SY_CFG.N 4).wr SY_STAT.RINGUP 1).wr SY_CFG.CHIP_ID 1).wr SY_CFG.EN 1

/-- Command parameters: pairs of a descriptor byte (24–63) and the number that starts there. -/
def params (l : List (Nat × Nat)) : BitVec 320 := BitVec.ofNat 320 ((l.map (fun x => x.2 * 2 ^ (8 * (x.1 - 24)))).sum)

/-- The descriptor of a command without payload. -/
def cmd (l : List (Nat × Nat) := []) (site : BitVec 8 := 255) : Desc := { params := params l, site := site }

/-- The descriptor of a command with `n` bytes of payload. -/
def cmdN (n : Nat) (l : List (Nat × Nat) := []) (site : BitVec 8 := 255) : Desc :=
  { params := params l, site := site, length := BitVec.ofNat 32 n }

/-- In service, with a site in the given state and the channels of the given groups' first channel bound to it. -/
def withSite (site state : Nat) (chans : List Nat) : State :=
  chans.foldl (fun s n => s.wr SQ_CHMAP.MAP (setBits (s.rd SQ_CHMAP.MAP site (n / 32)) (n % 32) 1 1) site (n / 32))
    ((up.wr SQ_STATE.STATE state site).wr SQ_STATE.CHIPS 1 site)

/-! ## Data that meet the statements' hypotheses -/

/-- How an immediate command is carried out, and from which state. -/
def served (op : Nat) (d : Desc) (s : State) : Consumed × State :=
  match s.due op d with
  | .go c _ u => (c, u)
  | _ => (⟨0, {}, 0, 0⟩, s)

/-- How a job is carried out, with which payload, and from which state. -/
def carried (op : Nat) (d : Desc) (p : Bytes) (s : State) : Job × Bytes × State :=
  match s.dueJob op d p with
  | .go j q u => (j, q, u)
  | _ => ({ cmd := ⟨0, {}, 0, 0⟩, id := 0 }, [], s)

/-- A job that waits in the queue. -/
def waitingJob : Job := { cmd := ⟨0x0600, cmdN 80, 0, 0⟩, id := 0 }

/-- In service with one waiting job. -/
def oneJob : State := { up with mbx := { up.mbx with jobs := [waitingJob] } }

/-- One waiting job whose context has been disabled. -/
def stoppingJob : State := { up with mbx := { up.mbx with jobs := [waitingJob], stopAt := [(0, 3200000000)] } }

/-- The event ring is full and has lost records. -/
def eventsLost : State :=
  { ((up.wr HW_EVT_PROD.PROD 1025).wr HW_EVT_CONS.CONS 1).wr HW_EVT_LOST.LOST 5 with mbx := { up.mbx with evtOver := true } }

/-- A descriptor in slot 0 of context 0's command ring, with its index moved. -/
def posted (op : Nat) (site len : Nat) (pars : Bytes) (flags : Nat := 0) : State :=
  { up.wr HW_CMD_DB.PROD 1 with
    win := up.win.writeN 0x10000 (toLe 2 op ++ toLe 2 flags ++ toLe 4 1 ++ toLe 4 len ++ toLe 1 site ++ zeros 3 ++ zeros 8 ++ pars) }

/-- What that descriptor says. -/
def postedDesc (site len : Nat) (pars : BitVec 320 := 0) : Desc :=
  { ctx := 0, seq := 1, length := BitVec.ofNat 32 len, site := BitVec.ofNat 8 site, params := pars }

/-- The job queue holds 256 jobs of context 1. -/
def jobsFull (s : State) : State :=
  { s with mbx := { s.mbx with
    jobs := (List.range 256).map (fun k => { waitingJob with cmd := ⟨0x0600, { cmdN 80 with ctx := 1 }, 0, 0⟩, id := k }) } }

/-- An immediate command of context 0 awaits its response. -/
def immWaits (s : State) : State := { s with mbx := { s.mbx with imm := [⟨0x0101, cmd, 0, 0⟩], flowSeq := 1 } }

/-- The job of a STREAM_PUSH for site 0 with 5,000 bytes, and the state in which it waits. -/
def pushJob : Job := { cmd := ⟨0x0208, cmdN 5000 [] 0, 0, 0⟩, id := 0 }
def pushWaits : State := { withSite 0 2 [] with mbx := { up.mbx with jobs := [pushJob] } }

/-- The job of a RUN for site 0. -/
def runJob (abort : Bool) : Job := { cmd := ⟨0x0204, cmd [] 0, 0, 0⟩, id := 0, abort := abort }
def runJobState (abort : Bool) (state : Nat) : State :=
  { withSite 0 state [] with mbx := { up.mbx with jobs := [runJob abort] } }

/-- In service with the vector memory region of 4 KiB at address 0 allocated. -/
def withRegion : State := { up with mem := { up.mem with allocs := [⟨1, 0, 4096⟩], nextHandle := 2 } }

/-- An in-order frame header of the link. -/
def head0 : RxHead := {}

/-- The header of a sound frame of the link with this type, payload, sequence number and tag. -/
def headOf (type : Nat) (p : Bytes) (fseq tag : Nat := 0) : RxHead :=
  { len := BitVec.ofNat 16 p.length, fseq := BitVec.ofNat 16 fseq, tag := BitVec.ofNat 16 tag,
    crc := BitVec.ofNat 32 (crc32 (linkHead type 0 p.length fseq tag 0 ++ p)) }

/-- A pattern object with one PI and one stream: channel 0, narrow, from address 64. -/
def object1 : Bytes :=
  [1, 0] ++ toLe 2 24 ++ zeros 4 ++ toLe 4 1 ++ toLe 4 64 ++ toLe 8 0 ++ toLe 4 72 ++ toLe 4 32 ++ toLe 4 2500 ++ zeros 28
    ++ zeros 8 ++ toLe 5 1 ++ zeros 1 ++ toLe 2 1 ++ zeros 8 ++ toLe 2 0 ++ zeros 6 ++ toLe 8 64

/-- A customer image with one word, which only ends its routine; no opcode has a routine. -/
def image1 : Bytes :=
  toLe 2 1 ++ toLe 2 1 ++ zeros 12 ++ (List.replicate 4 (toLe 4 1048576)).flatten ++ (List.replicate 64 [0xFF, 0xFF, 0, 0]).flatten
    ++ toLe 24 (4 + parityOf 4 * 2 ^ 136)

/-- A signature block's header for a content of `n` bytes. -/
def signBlock (kind kclass n : Nat) : Bytes :=
  toLe 2 1 ++ toLe 1 kind ++ toLe 1 kclass ++ zeros 4 ++ toLe 4 n ++ toLe 4 1452 ++ zeros (96 + 1452)

/-- A patch set with its signature block. -/
def patch1 : Bytes := toLe 4 1 ++ zeros 1796 ++ signBlock 2 1 1800

/-- A LOADED site 0 on channel 0 whose vector memory is allocated. -/
def loaded0 (state : Nat) : State := { withSite 0 state [0] with mem := withRegion.mem }

/-- A stream ring of `frames` frames of 160 bytes is open for site 0, at address 0. -/
def ring0 (frames : Nat) : State :=
  (loaded0 stLoaded).wrs 0 [(SQ_SRSTAT.OPEN, 1), (SQ_SRSIZE.FRAMES, frames), (SQ_SRFLEN.FLEN, 160)]

/-- A frame of one vector for channel 0. -/
def frame0 : Bytes :=
  toLe 4 0 ++ toLe 2 1 ++ [1, 0] ++ zeros 8 ++ toLe 2 1 ++ zeros 2 ++ toLe 4 160 ++ zeros 8 ++ [1] ++ zeros 127

/-- A Facet image: 2 ns cycles, one drive edge at the last step. -/
def facet1 : Bytes := toLe 8 (2 * 2048) ++ [0, 0, 0, 1] ++ zeros 4 ++ toLe 8 (1 * 2048 + 1249) ++ zeros 56

/-- Site 63 in LOADED on channels 510 and 511, the latter away from its pad for a measurement. -/
def measuring63 : State :=
  let s := (withSite 63 2 [510, 511]).wr CA_GRP.CHAN 511 0 15
  { s with cal := { s.cal with groups := [(15, { stage := 4 })] } }

/-- A record waits in the buffer of channel 480, in CK_SEQ cycle 1. -/
def recordWaits : State := { up with tt := 4, chans := [(480, { pending := [(0, zeros 32)] })] }

/-- A group's queue with two records. -/
def twoRecords : State := up.modGroup 15 (fun q => { q with records := [zeros 32, zeros 32] })

/-- A SUPMON record waits in group 15. -/
def supWaits : State := up.modGroup 15 (fun q => { q with supPending := [(0, zeros 32)] })

/-- Site 63 may log: 64 records from address 0. -/
def logged : State :=
  { (withSite 63 stLoaded [0]).wr SQ_FLSIZE.SIZE 64 63 with mem := withRegion.mem }

/-- The log of site 63 is enabled and group 15 holds one record of it. -/
def logDue : State :=
  ((logged.wr SQ_FLCTL.EN 1 63).wr GR_FQCTL.DRAIN 1 15).modGroup 15
    (fun q => { q with records := [zeros 4 ++ [63] ++ List.replicate 27 7] })

/-- A run with dumps enabled. -/
def dumping : State :=
  (((withSite 63 stRunning [0]).wr PM_CTL.DUMPEN 1 63).wr PM_CTL.INTERVAL 10 63).modSeq 63 (fun q => { q with started := true })

/-- Straps with every field at its highest value. -/
def straps1 : Straps := ⟨7, 3, true, 63⟩

/-- Held in power-on reset until the oscillator is ready. -/
def starting : State := { State.reset with clk := { State.reset.clk with boot := 1 } }

/-- Boot has reached its last step. -/
def booting : State :=
  { (State.reset.wr HL_STAT.STAGE 4).wr CK_READY.READY (2 ^ 25 - 1) with clk := { State.reset.clk with boot := 10 } }

/-- CK_REF has been ready since the last reset. -/
def refSeen (s : State) : State := { s with clk := { s.clk with refSeen := true } }

/-- A close of island 18 waits. -/
def closing18 : State := { up with clk := { up.clk with closing := 2 ^ 18 } }

/-- Bring-up in a stage with lanes. -/
def bringup (stage lanes : Nat) : State :=
  { up.wr HL_STAT.STAGE stage with clk := { up.clk with boot := 6 }, link := { up.link with lanesIn := lanes } }
def capsDone : State := { bringup 3 65535 with link := { (bringup 3 65535).link with capsIn := true } }

/-- A CAPS frame's payload: version 1, rates up to 2, all lanes. -/
def capsIn : Bytes := [1, 0, 2, 2] ++ toLe 2 65535 ++ zeros 26

/-- Two frames wait for their acknowledgement. -/
def unacked : State :=
  { linked with link := { linked.link with unacked := [⟨0x20, 65535, 0, [], none⟩, ⟨0x20, 0, 0, [], none⟩], txSeq := 1 } }

/-- A started job waits for its payload under tag 63. -/
def payloadJob : Job := { cmd := ⟨0x0600, cmdN 4, 0, 0⟩, id := 0, started := true, want := 4 }
def payloadDue : State := { linked with mbx := { linked.mbx with jobs := [payloadJob], reqs := [⟨63, 0, 0, 4⟩] } }

/-- Unit `u` is fenced. -/
def fenced1 (u : Nat) : State := up.wr FC_UNIT.FENCED 1 0 u

/-- A message of the lowest severity that brings no reaction, and one of the highest such. -/
def msg0 : FaultMsg := { source := 735, kind := 0x12, sev := 3, address := 0xFFFFFFFFFF }

/-- Factory test boot with an injection message set. -/
def testBoot : State := ((up.wr SC_STAT.BOOT 2).wr FC_INJ.WORD (735 + 0x12 * 1024)).wr FC_INJ.WORD 0xFF 0 2

/-- A pseudo-channel whose delay code is to change. -/
def codeWanted : State := { up with mem := { up.mem with wantCode := [(63, 31)] } }

/-- Pseudo-channel 63 is out of the partition, unfenced and swept. -/
def rejoining : State := { up.wr MC_PC.FENCED 1 0 63 with mem := { up.mem with swept := [63] } }

/-- A key record for this die with its signature block: installs (1) or revokes (2). -/
def keyRecord (install revoked : Nat) : Bytes :=
  [1, BitVec.ofNat 8 install, 0, 0] ++ toLe 12 Config.dieId.toNat ++ zeros 4 ++ toLe 1 revoked ++ zeros 171

/-- An authorisation of the alarm policy with its signature block. -/
def policy2 : Bytes := [1, 2, 1, 0] ++ toLe 12 Config.dieId.toNat ++ toLe 4 0 ++ signBlock 5 2 20

/-- An owner key is present. -/
def owned : State := up.wr SC_STAT.OWNER 1

/-- A sealed record body for this die, 4,800 bytes. -/
def body1 : Bytes := [1, 0, 0, 0] ++ toLe 12 Config.dieId.toNat ++ zeros 4784

/-- The payload of a CAL_SEAL_WRITE that replaces record 0. -/
def seal1 : Bytes := body1 ++ toLe 4 0 ++ digest (withSealCount body1 0) ++ toLe 4 0 ++ signBlock 4 2 52

/-- A manifest of an image of one chunk of one byte. -/
def manifest1 : Bytes :=
  toLe 2 1 ++ toLe 2 0x0303 ++ zeros 1 ++ [0xB1] ++ zeros 12 ++ toLe 2 1 ++ toLe 4 1 ++ zeros 40 ++ zeros 48 ++ zeros 48 ++ signBlock 1 1 160

/-- An update session for the image of that manifest, opened by context 0. -/
def opened1 : State :=
  { up.wr SC_STAT.SESSION 1 with sec := { up.sec with session := some { img := manifestImage manifest1 } } }

/-- The image of one chunk of one byte, 7. -/
def image7 : Image := { fwver := 0x0303, nchunk := 1, ilen := 1, dig := digest [7], chunks := [digest [7]] }

/-- An update session for it, opened by context 0. -/
def staging7 : State := { up.wr SC_STAT.SESSION 1 with sec := { up.sec with session := some { img := image7 } } }

/-- Its image is staged. -/
def staged7 : State :=
  { up.wr SC_STAT.SESSION 2 with sec := { up.sec with
    session := some { img := image7, bitmap := 1 }, staging := up.sec.staging.write 0 7 } }

/-- The job of an activation, and the state in which it runs. -/
def activateJob : Job := { cmd := ⟨0x0704, cmd, 0, 0⟩, id := 0, started := true, deferred := true }
def activating (ready : Bool) : State :=
  { staged7.wr SC_STAT.SESSION 3 with
    mbx := { up.mbx with jobs := if ready then [] else [activateJob] }
    sec := { staged7.sec with act := some { job := 0, ready := ready } } }

/-- An arming of channel 511 with mode `m`, START 1 and one stop edge. -/
def armCmd (m : Nat) : Desc :=
  if m = 4 then cmd [(24, 511), (26, 4)] else cmd [(24, 511), (26, m), (28, if m = 1 then 0 else 1), (31, if m = 2 then 0 else 16), (34, 3), (36, 60000000), (48, if m = 2 then 1 else 0)]

/-- Unit `u` in measurement state `st`, with what was armed. -/
def tiaIn (u st : Nat) (t : Tia) : State := { up.wr CH_TIASTAT.STATE st u with tias := [(u, t)] }

/-- Calibration of group `g` in a stage, for the group's last channel. -/
def calAt (g : Nat) (c : CalGroup) : State := { (up.wr CA_STAT.SEALOK 1).wr CA_GRP.CHAN (32 * g + 31) 0 g with
  cal := { up.cal with groups := [(g, c)], refQ := [(g / 4, [g])] } }

/-- The same with channel 511 on site 63 in RUNNING; after a cycle with an edge in the last 150 steps. -/
def calRunning (c : CalGroup) : State := { withSite 63 3 [511] with regs :=
  ((((withSite 63 3 [511]).wr CA_STAT.SEALOK 1).wr CA_GRP.CHAN 511 0 15)).regs, cal := (calAt 15 c).cal }
def playedJust (c : CalGroup) : State :=
  { calRunning c with seqs := [(63, { started := true, cyc := 2500 })], chans := [(511, { drvEdges := [⟨4900, true⟩] })] }

/-- Fixture offsets of channels 511 and 0. -/
def fixture2 : Bytes :=
  toLe 2 1 ++ toLe 2 2 ++ zeros 12 ++ toLe 2 511 ++ toLe 2 4000 ++ toLe 2 (2 ^ 16 - 4000) ++ zeros 2 ++ zeros 8

/-- A calibration blob for this die without corrections. -/
def blobHead : Bytes := toLe 1 1 ++ zeros 3 ++ toLe 12 Config.dieId.toNat ++ toLe 4 0 ++ zeros 40
def blobRecord (n : Nat) : Bytes := toLe 2 n ++ [1, 0, 0x10, 1] ++ zeros 26
def blobBody : Bytes := (List.range 512).flatMap blobRecord
def blob : Bytes := blobHead ++ toLe 4 (crc32 (blobHead ++ zeros 4 ++ blobBody)) ++ blobBody

/-- A capture configuration of one signal, 511 L, in mode `m`. -/
def lpConfig (m : Nat) : Bytes :=
  [1, BitVec.ofNat 8 m, 0, 1] ++ toLe 2 1 ++ [0, 0] ++ toLe 4 1 ++ zeros 12 ++ toLe 8 3 ++ toLe 8 1 ++ List.replicate 8 255 ++ zeros 16 ++ toLe 2 1023

/-- Loupe in state `st` with that configuration, mode `m`. -/
def lpIn (st m : Nat) : State := { up.wr LP_STAT.STATE st with loupe := { cfg := loupeCfg (lpConfig m) } }

/-- Sampling, two units in the segment. -/
def twoUnits : Segment := { st := 1, pre := [⟨0x800, 4096, false, 1, zeros 1⟩, ⟨0x800, 8192, false, 1, zeros 1⟩] }
def lpArmed (rearmAt : Nat) : State :=
  { lpIn 2 0 with tt := 700, loupe := { cfg := loupeCfg (lpConfig 0), rearmAt := rearmAt, segs := [(0, twoUnits)] } }

/-- A completed capture of one byte. -/
def lpDone : State := { lpIn 4 0 with loupe := { cfg := loupeCfg (lpConfig 0), segs := [(0, { st := 3, post := [{ kind := 0x800, time := 4096, body := zeros 1 }] })] } }

/-- A capture of 64 KiB in wait of two extents, the first full. -/
def lpSpill : State :=
  let g : Segment := { st := 2, post := List.replicate 1024 ⟨0x800, 0, false, 1, zeros 64⟩ }
  let c : LoupeCfg := { extents := [(0, 65536), (0x100000, 65536)], post := 70000 }
  { lpIn 3 0 with loupe := { cfg := c, filled := [65536, 0], segs := [(0, g)] } }

/-- A free program whose level 0 goes to level 15 at once, all else empty; EDGE comparator 3 on the L line, both edges. -/
def pzProg : Bytes :=
  [1, 1, 255, 0] ++ zeros 4 ++ List.replicate 4 255 ++ zeros 52
    ++ (List.replicate 8 (zeros 16)).flatten ++ (List.replicate 8 (zeros 24)).flatten
    ++ zeros 96 ++ [1, 2, 1, 0] ++ zeros 28 ++ (List.replicate 12 [0, 0, 1, 0]).flatten
    ++ ([1, 0, 0x80, 15] ++ zeros 12) ++ zeros 1008

/-- Prism in state `st` with it. -/
def pzIn (st : Nat) : State := { up.wr PZ_STAT.STATE st with prism := { prog := pzProg, aligned := 5 } }

/-- Loupe holds the interpolators of channel 511 in TRANSITIONAL mode. -/
def lpHeld : State := (fun s => { s with loupe := { s.loupe with held := [511] } }) ((lpIn 3 1).wr CH_TIASTAT.OWNER 2 511)

/-- Prism running with a pulse of output `o` that ends at 60, and with its auto timer at 60. -/
def pzEnd (o : Nat) : State := { ((pzIn 2).wr PZ_OUT.XOWN 255).wr PZ_OUT.TOUT 15 with prism := { prog := pzProg, ends := [(o, 60)] } }
def pzAuto : State := { (pzIn 2).wr LP_STAT.STATE 2 with prism := { prog := pzProg, autoEnd := some 60 } }

/-- A trigger on its way to an armed capture. -/
def trig640 : PzTrigger := ⟨640 * 4096, false, false⟩
def lpTriggered : State := { lpArmed 0 with prism := { trigs := [trig640] } }

/-- The ring with changes of its protocol state. -/
def ringWith (r : Ring) : State := { ringed with ring := r }

/-- Chip 0 of the ring. -/
def ringed0 : State := ringed.wr SY_CFG.CHIP_ID 0

/-- The head of a sound ring frame of a chip with this type and payload. -/
def from_ (origin type : Nat) (p : Bytes) (txts : BitVec 32 := 0) : RingHead :=
  { origin := BitVec.ofNat 8 origin, txts := txts, crc := BitVec.ofNat 8 (frameCrc type origin 2 p) }

/-- A DISCOVER of chip 0 that has met chip 0 alone. -/
def disc0 : Discover := ⟨4, 1, [0], 2, 2⟩

/-- A site on four chips in state `st`, this chip at place 3 and home at 0, with a vector that waits for its vote. -/
def voting (st : Nat) : State :=
  let q : Seq := { started := true, vk := 1, own := [(0, false)], hist := [none] }
  { (((ringed.wr SQ_STATE.STATE st 63).wr SQ_STATE.CHIPS 4 63).wr SQ_XSITE.POS 3 63) with seqs := [(63, q)] }

/-- The same site at its start barrier, released at 500 or not. -/
def atStart (release : Nat) : State :=
  { (ringed.wr SQ_STATE.STATE stRunning 63).wr SQ_STATE.CHIPS 4 63 with
    seqs := [(63, { waitBarrier := true, barTime := 7 })]
    ring := { release := [(127, release)], part := [(127, [63])] } }

/-- Site 63, the only member of ring barrier 15, waits there on a ring, and is released at 500. -/
def syncWaits : State :=
  { (ringed.wrs 63 [(SQ_STATE.STATE, stRunning), (SQ_RBARMEM.MEMBER, 0x8000), (SQ_RBARSTAT.WAITING, 1), (SQ_RBARSTAT.BAR, 15)]) with
    seqs := [(63, { queue := [.sync true 15 9 none], arrived := true, barTime := 7 })]
    ring := { release := [(15, 501)], part := [(15, [63])] } }

/-- Parameters of a RING_CONFIG with an entry for site 63 and three unused ones. -/
def ringEntries : List (Nat × Nat) := [(24, 1), (32, 63), (33, 28), (36, 2500), (40, 255), (48, 255), (56, 255)]

/-- One timed frame waits; one frame of type 3 is out, resent `n` times; a GATHER and a RESET of this chip are out. -/
def timedOut : State := ringWith { timed := [⟨3, 7000, zeros 49⟩] }
def resent (n : Nat) : State := ringWith { sent := [⟨3, [1], 9, n, []⟩] }
def gatherSent : State := ringWith { sent := [⟨2, barPayload 128, 9, 0, []⟩, ⟨7, resetPayload none, 9, 0, []⟩] }

/-- Site 63 in state `st`, with its sequencer's state. -/
def at63 (st : Nat) (q : Seq) : State := { up.wr SQ_STATE.STATE st 63 with seqs := [(63, q)] }

/-- A sequencer at IA 0 and VA 0 of a pattern of 8 vectors and 16 PIs, Facet 0 defined. -/
def seq0 : Seq := { pat := { npi := 16, ns := 8, spans := [(8, 4)] }, facetsAtRun := 1 }

/-- 64 bundles. -/
def fullQueue : List Item := List.replicate 64 (.bundle .held 1 {} false none)

/-- Site 63 RUNNING with that sequencer changed. -/
def run63 (f : Seq → Seq := id) : State := at63 3 (f seq0)

/-- A microword with its parity. -/
def mw (w : Nat) : Nat := w + parityOf w * 2 ^ 136

/-- Site 63 in a customer routine at word 0xBFF, which is `w`. -/
def routine (w : Nat) : State :=
  (((run63 (fun q => { q with inRoutine := true, mstack := [0x801], u := [(3, 7)] })).wr SQ_UPC.UPC 0xBFF 63).wr SQ_CUST.WORD (mw w) 63 0x3FF)

/-- Site 63 with a PI of opcode `op` at its IA. -/
def piIs (op : Nat) : State := { at63 3 {} with vmem := { cells := [(7, BitVec.ofNat 8 op)] } }

/-- Channel 511 of site 63 in RUNNING waits for a granule. -/
def granWait : State := { withSite 63 3 [511] with chans := [(511, { reqs := [⟨0, 8, 2, 0⟩], fifo := [⟨0, 1, 0⟩] })] }

/-- A request of the engine of channel 480 came before channel 511's. -/
def granBehind : State :=
  { withSite 63 3 [511] with chans := [(480, { reqs := [⟨0, 8, 2, 0⟩] }), (511, { reqs := [⟨0, 8, 2, 1⟩] })] }

/-- Sites 0 and 63, members of in-chip barrier 15, wait in RUNNING, site 63 for up to `n` CK_SEQ cycles. -/
def barWait (n : Nat := 9) : State :=
  let s := [0, 63].foldl (fun s i => s.wrs i [(SQ_STATE.STATE, 3), (SQ_BARMEM.MEMBER, 0x8000), (SQ_BARSTAT.WAITING, 1), (SQ_BARSTAT.BAR, 15)]) up
  { s with seqs := [(0, { queue := [.sync false 15 9 none], arrived := true, barTime := 100 }), (63, { queue := [.sync false 15 n none], arrived := true, barTime := 90 })] }

/-- Site 63 waits at barrier 15, which site 0 has not reached. -/
def barAlone : State := { barWait.wr SQ_BARSTAT.WAITING 0 0 with seqs := barWait.seqs.drop 1 }

/-- Channel 511 of site 63 with a full stream ring. -/
def ringFull : State := { ((withSite 63 3 [511]).wr SQ_SRSTAT.OPEN 1 63).wr SQ_SRWR.WR 65536 63 with chans := [(511, {})] }

/-- Site 63 playing since tick 100, with `items` in its queue. -/
def playing (items : List Item) : State :=
  { withSite 63 3 [511] with seqs := [(63, { seq0 with started := true, cyc := 125000, queue := items })] }

end Sys2Proof.Tests
end

