-- ==== Sys2Proof/Tests/Signed.lean ====
section
/-!
SUPPORT. Setup's commands are carried out where a Bool says so; its signed objects pass the checks that depend on the die
identity, on digests and on check codes, whose values no proof knows.
-/
namespace Sys2Proof.Tests

set_option Elab.async false

open Sys2Proof Sys2Proof.Machine

/-! ## Commands that are carried out -/

/-- A command is carried out. -/
def goes {α : Type} (r : Due α) : Bool :=
  match r with
  | .go _ _ _ => true
  | _ => false

theorem served_ok {op : Nat} {d : Desc} {s : State} (h : goes (s.due op d) = true) :
    s.serves op d (served op d s).1 (served op d s).2 := by
  unfold State.serves served
  cases e : s.due op d with
  | go c p u =>
    have hp : p = [] := by
      unfold State.due at e
      split at e
      · split at e <;> simp_all
      · split at e
        · simp at e
        · split at e
          split at e <;> simp_all
    simp [hp]
  | wait => simp [e, goes] at h
  | refused => simp [e, goes] at h

theorem carried_ok {op : Nat} {d : Desc} {p : Bytes} {s : State} (h : goes (s.dueJob op d p) = true)
    (ha : (carried op d p s).1.abort = false) :
    s.carriesOut op d p (carried op d p s).1 (carried op d p s).2.1 (carried op d p s).2.2 := by
  refine ⟨?_, ha⟩
  unfold carried
  cases e : s.dueJob op d p with
  | go j q u => rfl
  | wait => simp [e, goes] at h
  | refused => simp [e, goes] at h

/-- A job that starts at once has the payload that came with it. -/
theorem carried_payload {op : Nat} {d : Desc} {p : Bytes} {s : State} (h : goes (s.dueJob op d p) = true)
    (hf : s.mbx.jobs = []) (hr : (cmdRow op).any (fun r => r.payload == .toDevice) = true) (hl : d.length.toNat = p.length) :
    (carried op d p s).2.1 = p := by
  have hp : payloadOf op d p = p := by simp [payloadOf, hr, fit, hl, zeros]
  unfold carried
  cases e : s.dueJob op d p with
  | go j q u =>
    unfold State.dueJob at e
    simp only [hf, List.find?_nil] at e
    split at e
    · simp at e
    · split at e
      · simp at e
      · split at e
        · simp only [Due.go.injEq] at e
          rw [← e.2.1, hp]
        · simp at e
  | wait => simp [e, goes] at h
  | refused => simp [e, goes] at h

/-! ## Records and policies -/

/-- A die identity field that holds this die's. -/
theorem dieId_field (a b : Bytes) (h : a.length = 4) : field (a ++ toLe 12 Config.dieId.toNat ++ b) 4 12 = Config.dieId.toNat := by
  rw [List.append_assoc, show (4 : Nat) = a.length + 0 by simp [h], field_append_right, field_toLe]
  exact Config.dieId.isLt

theorem keyRecord_dieId (install revoked : Nat) (b : Bytes) : dieIdOk (keyRecord install revoked ++ b) 4 = true := by
  have := dieId_field [1, BitVec.ofNat 8 install, 0, 0] (zeros 4 ++ toLe 1 revoked ++ zeros 171 ++ b) rfl
  simp only [List.append_assoc] at this
  simp only [dieIdOk, keyRecord, List.append_assoc, this, beq_self_eq_true]

theorem keyRecord_ok (s : State) (install revoked : Nat) (b : Bytes)
    (h : (let p := keyRecord install revoked ++ b; let t := field p 1 1; let rev := field p 20 1
      field p 0 1 == 1 && zeroAt p 2 2 && zeroAt p 21 3 && zeroAt p 177 15
      && (if t = 1 then rev == 0
        else t == 2 && field p 16 4 == 0 && decide (rev < 4) && zeroAt p 24 153
          && (List.range 4).any (fun k => k != rev && !bit (s.rd SC_STAT.REVOKED) k))) = true) :
    s.recordOk (keyRecord install revoked ++ b) = true := by
  simp only [State.recordOk, keyRecord_dieId, Bool.and_true]
  exact h

theorem policy2_dieId : dieIdOk policy2 4 = true := by
  have := dieId_field [1, 2, 1, 0] (toLe 4 0 ++ signBlock 5 2 20) rfl
  simp only [List.append_assoc] at this
  simp only [dieIdOk, policy2, List.append_assoc, this, beq_self_eq_true]

theorem body1_dieId : dieIdOk body1 4 = true := by
  simp only [dieIdOk, body1, dieId_field [1, 0, 0, 0] (zeros 4784) rfl, beq_self_eq_true]

theorem length_body1 : body1.length = 4800 := by simp [body1]

/-- What follows the body in the payload. -/
theorem seal1_eq : seal1 = body1 ++ (toLe 4 0 ++ (digest (withSealCount body1 0) ++ (toLe 4 0 ++ signBlock 4 2 52))) := by
  simp [seal1]

theorem seal1_take : seal1.take 4800 = body1 := by rw [seal1_eq, ← length_body1, List.take_left]

theorem seal1_drop : seal1.drop 4804 = digest (withSealCount body1 0) ++ (toLe 4 0 ++ signBlock 4 2 52) := by
  rw [seal1_eq, ← List.append_assoc body1, show 4804 = (body1 ++ toLe 4 0).length by simp [length_body1], List.drop_left]

theorem seal1_content : (seal1.drop 4804).take 52 = digest (withSealCount body1 0) ++ toLe 4 0 := by
  rw [seal1_drop, ← List.append_assoc, show 52 = (digest (withSealCount body1 0) ++ toLe 4 0).length by simp, List.take_left]

theorem seal1_block : (seal1.drop 4804).drop 52 = signBlock 4 2 52 := by
  rw [seal1_drop, ← List.append_assoc, show 52 = (digest (withSealCount body1 0) ++ toLe 4 0).length by simp, List.drop_left]

theorem length_signBlock (kind kclass n : Nat) : (signBlock kind kclass n).length = 1564 := by simp [signBlock]

theorem length_seal1 : seal1.length = 6420 := by simp [seal1_eq, length_body1, length_signBlock]

theorem seal1_verify : owned.verify (seal1.drop 4804) 52 4 2 ⟨true, true⟩ = none := by
  have hl : (seal1.drop 4804).length = 52 + 112 + 1452 := by rw [List.length_drop, length_seal1]
  have h : field (signBlock 4 2 52) 12 4 = 1452 := by decide +kernel
  unfold State.verify
  simp only [seal1_block, hl, h]
  decide +kernel

theorem body1_ok : bodyOk body1 = true := by
  simp only [bodyOk, body1_dieId, Bool.and_true]
  decide +kernel

/-! ## The blob of CAL_WRITE_ALL -/

theorem length_blobRecord (n : Nat) : (blobRecord n).length = 32 := by simp [blobRecord]

theorem length_blobHead : blobHead.length = 60 := by simp [blobHead]

theorem length_blobBody : blobBody.length = 16384 := by
  have : ∀ k, ((List.range k).flatMap blobRecord).length = 32 * k := by
    intro k
    induction k with
    | zero => rfl
    | succ k ih => simp [List.range_succ, ih, length_blobRecord]; omega
  exact this 512

theorem length_blob : blob.length = 16448 := by simp [blob, length_blobHead, length_blobBody]

theorem blob_crc : field blob 60 4 = crc32 (blob.take 60 ++ zeros 4 ++ blob.drop 64) := by
  have h1 : blob.take 60 = blobHead := by rw [blob, List.append_assoc, ← length_blobHead, List.take_left]
  have h2 : blob.drop 64 = blobBody := by
    rw [blob, show 64 = (blobHead ++ toLe 4 (crc32 (blobHead ++ zeros 4 ++ blobBody))).length by simp [length_blobHead],
      List.drop_left]
  rw [h1, h2, blob, List.append_assoc, show (60 : Nat) = blobHead.length + 0 by simp [length_blobHead], field_append_right,
    field_toLe _ (crc32_lt _)]

/-- A field of the record of channel `n` in the blob. -/
theorem blob_field {n k l : Nat} (hn : n < 512) (hk : k + l ≤ 32) : field blob (64 + 32 * n + k) l = field (blobRecord n) k l := by
  have : 64 + 32 * n + k = (blobHead ++ toLe 4 (crc32 (blobHead ++ zeros 4 ++ blobBody))).length + (32 * n + k) := by
    simp [length_blobHead]; omega
  rw [this, blob, field_append_right]
  exact field_records blobRecord 32 512 n k l length_blobRecord hn hk

theorem blob_records : ∀ n < 512, calRecordOk blob n = true := by
  intro n hn
  have f0 : field blob (64 + 32 * n) 2 = n := by
    rw [← Nat.add_zero (64 + 32 * n), blob_field hn (by omega), blobRecord, List.append_assoc, field_toLe _ (by omega)]
  have f2 := blob_field (k := 2) (l := 1) hn (by omega)
  have f3 := blob_field (k := 3) (l := 1) hn (by omega)
  have fk : ∀ k < 10, field blob (64 + 32 * n + (6 + 2 * k)) 2 = 0 := by
    intro k hk
    rw [blob_field hn (by omega), blobRecord, show 6 + 2 * k = (toLe 2 n ++ [1, 0, 0x10, 1]).length + 2 * k by simp,
      field_append_right]
    exact (by decide : ∀ k < 10, field (zeros 26) (2 * k) 2 = 0) k hk
  have z : zeroAt blob (64 + 32 * n + 24) 8 = true := by
    have e : 64 + 32 * n + 24 = (blobHead ++ toLe 4 (crc32 (blobHead ++ zeros 4 ++ blobBody))).length + (32 * n + 24) := by
      simp [length_blobHead]; omega
    rw [e, blob, zeroAt_append_right]
    obtain ⟨rest, hr⟩ := drop_records blobRecord 32 length_blobRecord n 0 512 hn
    have hb : blobBody.drop (32 * n) = blobRecord n ++ rest := by simpa [blobBody, List.range_eq_range'] using hr
    have : zeroAt blobBody (32 * n + 24) 8 = zeroAt (blobBody.drop (32 * n)) 24 8 := by simp [zeroAt]
    rw [this, hb]
    rfl
  have e2 : field (blobRecord n) 2 1 = 1 := rfl
  have e3 : field (blobRecord n) 3 1 = 0 := rfl
  have fk' : ∀ k ∈ List.range 6, (decide (-4096 ≤ sgn 16 (field blob (64 + 32 * n + (6 + 2 * k)) 2)
      ∧ sgn 16 (field blob (64 + 32 * n + (6 + 2 * k)) 2) ≤ 4095)) = true := by
    intro k hk
    rw [fk k (by have := List.mem_range.mp hk; omega)]
    decide
  have a6 := fk 6 (by omega)
  have a7 := fk 7 (by omega)
  have a8 := fk 8 (by omega)
  simp only [calRecordOk, f0, f2, e2, f3, e3, z, Bool.and_true, List.all_eq_true.mpr fk']
  simp only [show 6 + 2 * 6 = 18 from rfl, show 6 + 2 * 7 = 20 from rfl, show 6 + 2 * 8 = 22 from rfl] at a6 a7 a8
  simp [a6, a7, a8, sgn]

theorem blob_head : field blob 0 1 = 1 ∧ zeroAt blob 1 3 = true ∧ zeroAt blob 28 32 = true ∧ field blob 4 12 = Config.dieId.toNat
    ∧ field blob 16 4 = 0 := by
  refine ⟨rfl, rfl, rfl, ?_, rfl⟩
  have := dieId_field (toLe 1 1 ++ zeros 3) (toLe 4 0 ++ zeros 40 ++ toLe 4 (crc32 (blobHead ++ zeros 4 ++ blobBody)) ++ blobBody) rfl
  simpa [blob, blobHead, List.append_assoc] using this

/-! ## Chunks -/

theorem staged7_chunks : staged7.badChunks image7 = [] := by
  have h : staged7.sec.staging.readN (65536 * 0) (image7.chunkLen 0) = [7] := by decide +kernel
  show [0].filter (fun k => digest (staged7.sec.staging.readN (65536 * k) (image7.chunkLen k)) != image7.chunks.getD k []) = []
  rw [List.filter_cons_of_neg, List.filter_nil]
  rw [h]
  exact Bool.eq_false_iff.mp (bne_self_eq_false _)

theorem staged7_digest : digest (staged7.sec.staging.readN 0 image7.ilen) = image7.dig := by
  have h : staged7.sec.staging.readN 0 image7.ilen = [7] := by decide +kernel
  rw [h]; rfl

end Sys2Proof.Tests
end

