-- ==== Sys2Proof/WellFormed.lean ====
section
/-!
DEFINITION. Well-formed commands: operands as the block's surroundings can present them. A command's host data are LENGTH
bytes (Table 2-2); frames carry what Table 15-6 and R361 let them carry; measured lists have one value per measured quantity.
The meanings do not ask for it: they answer for every operand.
-/
namespace Sys2Proof

/-- The operands agree with each other and with the formats of the specification. -/
def Instr.wf : Instr → Bool
  | .siteBind d p | .patternLoad d p | .microcodeLoad d p _ | .streamPush d p | .facetWrite d p
  | .wavetableWrite d p | .cmsWrite d p | .loupeConfig d p | .prismLoad d p | .calWriteAll d p
  | .calSealWrite d p _ | .fixtureOffsets d p | .updateOpen d p _ | .updateChunk d p | .keyProvision d p _
  | .alarmPolicy d p _ | .timedFrame d p => p.length == d.length.toNat
  | .memWrite d p clash => p.length == d.length.toNat && clash.all (· < p.length)
  | .memRead d bad => bad.all (· < d.length.toNat)
  | .hwwr _ _ data => decide (4 ≤ data.length ∧ data.length ≤ 256 ∧ data.length % 4 = 0)
  | .hwrd _ _ len => decide (4 ≤ len.toNat ∧ len.toNat ≤ 256 ∧ len.toNat % 4 = 0)
  | .dmacpl _ data => decide (1 ≤ data.length ∧ data.length ≤ 4096)
  | .discover _ n _ ids lo hi _ => decide (1 ≤ n.toNat ∧ n.toNat ≤ 64 ∧ ids.length ≤ 64 ∧ lo.toNat ≤ hi.toNat)
  | .timed _ _ rest => decide (rest.length ≤ 42 ∧ rest.length % 7 = 0)
  | .csScrub _ kind addr _ => kind == .word || decide (addr.toNat < if kind = .entry then 256 else 64)
  | .measurementEnd _ errors _ => errors.length == 6
  | .matchDone _ pairs offsets => pairs.length == 4 && offsets.length == 4 && offsets.all (fun x => decide (-4096 ≤ x ∧ x ≤ 4095))
  | .faultMessage ms => !ms.isEmpty && ms.all (fun m => decide (m.source.toNat < 736))
  | .registerWrite .. | .busTimeout .. | .hwCmdDb .. | .hwRspCons .. | .hwEvtCons .. | .contextEnable ..
  | .contextReset .. | .contextStopTimeout .. | .descriptorConsume | .jobStart | .ident .. | .status ..
  | .deviceReset .. | .peek .. | .poke .. | .attest .. | .timeGet .. | .peSerial .. | .siteUnbind .. | .run ..
  | .halt .. | .siteStatus .. | .streamOpen .. | .streamClose .. | .failRead .. | .failFlush .. | .facetRead ..
  | .tiaArm .. | .tiaRead .. | .loupeArm .. | .loupeForce .. | .loupeStop .. | .loupeRead .. | .calRun ..
  | .calReadAll .. | .calPolicy .. | .calSealRead .. | .faultRead .. | .faultClear .. | .faultUnfence ..
  | .faultPolicy .. | .perfConfig .. | .tempRead .. | .selftest .. | .updateStatus .. | .updateAbandon ..
  | .updateActivate .. | .memAlloc .. | .memFree .. | .ringConfig .. | .syncArm .. | .collimate ..
  | .barrierTest .. | .snapshot .. | .linkStatus .. | .eyeScan .. | .linkRate .. | .haltreq .. | .failLogEnable ..
  | .failLogReadAdvance .. | .drainModeWrite .. | .loupeJump .. | .prismGo | .prismStop | .ringFlagsWrite ..
  | .inboxPop | .testerTimeLatch | .counterLatchRead .. | .dumpReadAdvance .. | .laneSlip .. | .laneSymlock ..
  | .laneCountClear .. | .clockSelect .. | .ctlDividerWrite .. | .freqCountStart | .freqCountDone ..
  | .gateClose .. | .gateOpen .. | .gateHandshakeIdle .. | .gateForceTimeout .. | .regulatorWrite ..
  | .faultInject .. | .powerOnReset .. | .powerFail | .resetPin .. | .oscillatorReady .. | .pllLock ..
  | .mailboxReady | .refLoss .. | .clockHoldExit | .trimRunEnd .. | .linkBringupStage .. | .linkStageTimeout
  | .linkRecoveryRestart | .referenceLaneFail | .linkRetrain | .retrainTimeout | .rateStepTimeout | .dmaTimeout ..
  | .caps .. | .rate .. | .ack .. | .resendTimeout | .frameMark | .markGap | .ringLinkTrain .. | .discoverSend
  | .ringupTimeout | .ringFrameResend .. | .gather .. | .release .. | .ringBarrierRelease .. | .flags ..
  | .ringFlagsApply | .trigger .. | .snapshotFrame .. | .snapshotLatch | .reset .. | .ringResetRelease | .leave ..
  | .timecheck .. | .timeCheckPeriodic | .collect .. | .timedFrameLaunch | .syncPulse .. | .voteWord .. | .runStart ..
  | .microword .. | .waitBoundExpiry .. | .issueStallEnd .. | .vec .. | .vecA .. | .rpt .. | .loop ..
  | .endl .. | .jmp .. | .call .. | .ret .. | .brc .. | .matchPi .. | .waitx .. | .sync .. | .tsw .. | .cap ..
  | .flag .. | .strm .. | .haltPi .. | .xop .. | .barrierRelease .. | .syncTimeout .. | .bundleDelivery ..
  | .granuleArrival .. | .streamSegmentRead .. | .vectorCycle .. | .haltCause .. | .siteHalted .. | .recordTake ..
  | .queuePointer .. | .failLogDrain .. | .supmonRecord .. | .tiaEdge .. | .tiaTimeStart .. | .tiaTimeout ..
  | .tiaGateEnd .. | .tiaRearm .. | .tiaPreemptTimeout .. | .loupeUnit .. | .loupeTransitionEdge .. | .loupeTrigger
  | .rearmWindowEnd | .spillDrain | .prismTick .. | .edgeComparatorCrossing .. | .outputPulseEnd .. | .autoTrigger
  | .tempReading .. | .calibrationStart .. | .shadowCopyDone .. | .shadowStart .. | .takeOver ..
  | .takeOverAbandon .. | .handBack .. | .slewInterval | .tableStep | .perfDump .. | .refresh .. | .memScrub ..
  | .delaySweep .. | .pcRejoin .. | .quietExpiry .. | .selfcheckDone .. | .coreFail .. | .alarmTrip ..
  | .poweredTimeStore | .sessionExpiry | .activateStandbyReady | .activateCommit | .activateFailed
  | .piFetchArrival .. | .startBarrierArrival .. | .vpeEntersRange | .vpeBelowRange | .recoveryCountAgeOut ..
  | .standbyRestartDone => true

end Sys2Proof
end

