-- ==== Sys2Proof/Tests/Slice0.lean ====
section
/-!
SUPPORT. The model's own tests. Expected values come from the specification's worked examples and tables; the comment of
each test names the place. First the smoke test of well-formedness: an ill-formed command for each check.
-/
namespace Sys2Proof.Tests

set_option Elab.async false

open Sys2Proof Sys2Proof.Machine

/-! ## Well-formedness: one ill-formed command per check -/

theorem test_wf_payload : (Instr.facetWrite (cmdN 80) (zeros 79)).wf = false ∧ (Instr.facetWrite (cmdN 80) (zeros 80)).wf = true := by
  decide +kernel

theorem test_wf_memWrite : (Instr.memWrite (cmdN 4) (zeros 4) (some 4)).wf = false ∧ (Instr.memWrite (cmdN 4) (zeros 3) none).wf = false := by
  decide +kernel

theorem test_wf_memRead : (Instr.memRead (cmdN 4) (some 4)).wf = false := by decide +kernel

theorem test_wf_hwwr : (Instr.hwwr {} 0 (zeros 6)).wf = false ∧ (Instr.hwwr {} 0 (zeros 260)).wf = false := by decide +kernel

theorem test_wf_hwrd : (Instr.hwrd {} 0 0).wf = false ∧ (Instr.hwrd {} 0 256).wf = true := by decide +kernel

theorem test_wf_dmacpl : (Instr.dmacpl {} []).wf = false := by decide +kernel

theorem test_wf_discover : (Instr.discover {} 65 1 [] 0 1 false).wf = false := by decide +kernel

theorem test_wf_timed : (Instr.timed {} 0 (zeros 8)).wf = false := by decide +kernel

theorem test_wf_csScrub : (Instr.csScrub 0 .entry 256 1).wf = false ∧ (Instr.csScrub 0 .matchReg 64 1).wf = false := by decide +kernel

theorem test_wf_measurementEnd : (Instr.measurementEnd 0 [1] 0).wf = false := by decide +kernel

theorem test_wf_matchDone : (Instr.matchDone 0 [8, 8, 8, 8] [0, 0, 0, 4096]).wf = false := by decide +kernel

theorem test_wf_faultMessage : (Instr.faultMessage []).wf = false ∧ (Instr.faultMessage [{ source := 736, kind := 1, sev := 0 }]).wf = false := by
  decide +kernel

/-! ## Numbers and codes -/

/-- R385: the check value of the reflected CRC-32 with that polynomial over the digits 1 to 9. -/
theorem test_crc32 : crc32 [0x31, 0x32, 0x33, 0x34, 0x35, 0x36, 0x37, 0x38, 0x39] = 0xCBF43926 := by decide +kernel

/-- 07, example of R202: 1.95 ns is 7,800 steps, time word 0x312C. -/
theorem test_timeWord : timeWord 0x312C = some 7800 ∧ ofSteps 7800 = 0x312C := by decide +kernel

/-- 05, worked customer opcode: the function bits of word 0x802 have parity 0b1011_1111. -/
theorem test_parity :
    parityOf ([39, 42, 48, 49, 51, 55, 88, 92, 93, 95, 96, 97, 98, 99, 103].map (2 ^ ·)).sum = 0xBF := by decide +kernel

/-! ## Mailbox: the example session of 02 -/

/-- The RUN descriptor of the example, SEQ 5, SITE 3, bit 0 of byte 28 set. -/
def runBytes : Bytes := [0x04, 0x02, 0, 0, 5, 0, 0, 0, 0, 0, 0, 0, 3] ++ zeros 15 ++ [1] ++ zeros 35

theorem test_descriptor : descOf 0 runBytes = (0x0204, { seq := 5, site := 3, params := params [(28, 1)] }) := by decide +kernel

/-- IDENT answers stepping 0xB1, interface 3, firmware 0x0302 (Table 2-12, step 1). -/
theorem test_ident : (match identCmd ⟨0x0100, {}, 0, 0⟩ up with | .done st r _ _ => (st, r.take 4) | _ => (1, []))
    = (0, [0xB1, 0x03, 0x02, 0x03]) := by decide +kernel

/-! ## Sites: the example of 03 for D -/

/-- A SITE_BIND of site 20 to CH128–CH143 and one more channel, with P_min. -/
def bind20 (chan k pmin : Nat) : Nat :=
  let p := toLe 64 ((2 ^ 16 - 1) * 2 ^ 128 + 2 ^ chan)
  let s : State := { up.wr CK_GATESTAT.OPEN (2 ^ 19 - 1) with ring := { entries := if k = 1 then [] else [(20, { k := k, pmin := pmin })] } }
  ((s.wr SY_CFG.N k).serveJob 0x0200 (cmdN 64 [(24, pmin), (28, k)] 20) p siteBind).rd SQ_DLAT.D 20

theorem test_latency_one_quadrant : bind20 200 1 2500 = 24 := by decide +kernel
theorem test_latency_two_quadrants : bind20 300 1 2500 = 32 := by decide +kernel
theorem test_latency_three_chips : bind20 200 3 5000 = 84 := by decide +kernel

/-! ## Vector memory: the example of 06 -/

/-- Channel 389 with base 0x9_0000_4000, the byte at 0x9_0000_41F4 and the burst byte at offset 0x43E8 − 0x4000. -/
def stream389 (burst : Nat) : State :=
  { ((up.wr CH_STRMBASE.BASE (0x900004000 / 64) 389).wr CH_STRMCFG.WIDTH burst 389) with
    vmem := { cells := [(0x9000041F4, 0xA5), (0x9000043E8, 0x3C)] } }

theorem test_code_full : (stream389 0).codeAt 389 1000 = 5 ∧ (stream389 0).codeAt 389 1001 = 10 := by decide +kernel
theorem test_code_burst : (stream389 1).codeAt 389 1000 = 0x3C := by decide +kernel

/-! ## Facets and edges: the examples of 07 -/

/-- Burst code 0xA5 from slot 0 with BOFF 100: transitions at 25, 103.125, 181.25, 259.375, 415.625, 493.75 and 571.875 ps, which
are multiples of half a step. -/
theorem test_burst :
    ((up.wr CH_BURSTCFG.BOFF 100 200).driveBurst ⟨200, 200, 0, 2500, true, []⟩ { period := 2500, burst := true, bdir := 1 } 0xA5 |>.chan 200).drvEdges
      = [⟨200, true⟩, ⟨825, false⟩, ⟨1450, true⟩, ⟨2075, false⟩, ⟨3325, true⟩, ⟨3950, false⟩, ⟨4575, true⟩] := by decide +kernel

/-- Facets 2 and 3 of the worked example. -/
def exTable : List Nat := [0, 0, 2, 6, 0x103, 0x203, 0, 0, 0, 0, 0, 0, 0, 0, 0, 0]
def facet2 : Facet := { period := 5000, en := 0x13, de := [0, 2500, 0, 0], ce := [3750, 0, 0, 0], table := exTable }
def facet3 : Facet := { period := 7800, en := 0x11, de := [400, 0, 0, 0], ce := [6000, 0, 0, 0], table := exTable }

/-- Channel 70 after vectors 0–3 of the worked example, no comparator moves. -/
def afterFour : State :=
  [(2, facet2, 2, 0), (2, facet2, 3, 5000), (3, facet3, 4, 10000), (2, facet2, 2, 17800)].foldl
    (fun s v => (s.playVector ⟨70, 70, v.2.2.2, v.2.1.period, true, []⟩ v.1 v.2.1 v.2.2.1).2) (up.wr CH_ENTIME.ENOFF 100 70)

/-- Table 7-7: PE_EN rises at 0, falls at 2.625 ns, rises at 4.450 ns (35,600 half steps). -/
theorem test_enable_edges : (afterFour.chan 70).enEdges.getLast? = some ⟨35600, true⟩ ∧ (afterFour.chan 70).enCmd = true := by decide +kernel

/-- Table 7-7: in vector 1 PE_DRV falls at 1.875 ns, the drive 1 at DE0 finding it at 1. -/
theorem test_drive_fall :
    ((((up.wr CH_PELIVE.DRV 1 70).driveEntry ⟨70, 70, 5000, 5000, true, []⟩ facet2 6).chan 70).drvEdges) = [⟨15000, false⟩] := by decide +kernel

/-! ## Interval measurement: the example of 09 -/

/-- Unit 45 with r1 = 8,000 and r2 = 16,192 on interpolator 0, running since 2,000,000 ticks + 2,048 frac. -/
def unit45 : State :=
  { (((up.wr CH_TIACAL.R1 8000 45 0).wr CH_TIACAL.R2 16192 45 0).wr CH_TIASTAT.STATE 3 45).wr CH_TIASTAT.REMAIN 1 45 with
    tt := 2000000
    tias := [(45, { start := 1, pedge := 8, nstop := 1, startAt := some (2000000 * 4096 + 2048), sawLow := true })] }

/-- 625 steps after tick 2,000,000 is frac 2,048. -/
theorem test_start_stamp : fracOfHalfSteps (2 * (2000000 * 1250 + 625)) = 2000000 * 4096 + 2048 := by decide +kernel

/-- Code 13,736 at tick 2,000,013 stamps 2,000,011 ticks + 1,228 frac. -/
theorem test_stamp : (unit45.stampEdge 45 0 2000013 13736).1 = 2000011 * 4096 + 1228 := by decide +kernel

/-- The result: STATUS 0, NVAL 1, VALUE0 44,236 frac. -/
theorem test_delay :
    ((unit45.tiaEdge 45 false true 0 2000013 13736).tia 45).records.map (fun r => (field r 1 1, field r 2 1, field r 32 8)) = [(0, 1, 44236)] := by
  decide +kernel

/-! ## Loupe: the example of 10 -/

/-- W = 256 gives slots of 32 bytes; PRE takes 8 MiB of them. -/
theorem test_loupe_slot :
    let c : LoupeCfg := { pre := 262144, post := 500000000, signals := (List.range 256).map (· + 256) }
    c.slot = 32 ∧ c.pre * c.slot = 8 * 1048576 ∧ (c.pre + c.post) * c.slot = 16008388608 := by decide +kernel

/-! ## Calibration: the example of 12 -/

/-- Channel 70 is calibrated at 45.0 °C. -/
def cal70 : State := ((up.wr CH_CALSTAT.TCAL (45 * 16) 70).wr CH_CALSTAT.VALID 1 70).wr CA_STAT.SEALOK 1

/-- A reading of 47.1875 °C makes it due: a change of 35/16 °C exceeds the threshold of 2.0 °C. -/
theorem test_due : (cal70.tempReading 2 755).rd CH_CALSTAT.DUE 70 = 1 ∧ (cal70.tempReading 2 752).rd CH_CALSTAT.DUE 70 = 0 := by decide +kernel

/-! ## The ring: the example of 13 -/

/-- Samples of a closed ring of three chips: θ of 3,412.5, −4,660.5 and 1,250 ps as sums of 4,096 doubled offsets in frac
(2 × 4,096 × 4,096 / 312.5 per ps). -/
def sample (halfPs : Int) : LinkSample := { sum := halfPs * 4096 * 4096 * 2 / 625 }
def three : State :=
  { (((up.wr SY_CFG.N 3).wr SY_CFG.EN 1).wr SY_STAT.RINGUP 1) with ring := { collate := some 0, collSum := (sample 6825).sum } }

/-- The report gives O_1 = 13,647 steps and O_2 = −4,997 steps (DATA of the job's DMAWR frame). -/
theorem test_collimator :
    let job : Job := { cmd := ⟨0x0902, cmdN 96, 0, 0⟩, id := 0, started := true, deferred := true }
    let s := { three with mbx := { three.mbx with jobs := [job] } }
    let t := s.collimated false [sample (-9321), sample 2500]
    t.link.waiting.head?.map (fun f => ((List.range 3).map (fun c => sgn 32 (field f.payload (8 + 32 + 16 * c + 8) 4)))) = some [0, 13647, -4997] := by
  decide +kernel

/-! ## Microcode: the worked customer opcode of 05 -/

/-- Word 0 of SETTH: ALU 1, RA U12, RD U2, RDWE. Word 1: ALU 1, RA U0, RD U1, RDWE, SFN 1, SFARG 4, FETCH. Word 1 of VECC:
ALU 3, RA U1, RB U2. Word 2 of VECC: SFN 2, SFARG 4, CSEL 2, FETCH. -/
def setth0 : Nat := 1 * 2 ^ 38 + 12 * 2 ^ 42 + 2 * 2 ^ 51 + 2 ^ 55
def setth1 : Nat := 4 + 1 * 2 ^ 38 + 1 * 2 ^ 51 + 2 ^ 55 + 1 * 2 ^ 104 + 4 * 2 ^ 110
def vecc1 : Nat := 3 * 2 ^ 38 + 1 * 2 ^ 42 + 2 * 2 ^ 46
def vecc2 : Nat := 4 + 2 * 2 ^ 15 + 2 * 2 ^ 104 + 4 * 2 ^ 110

/-- A routine of site 63 at word 0x800 with these registers and flags. -/
def word (w : Nat) (u : Tab Nat) (c : Bool) (f : Nat) : State :=
  let s := ((at63 3 { seq0 with inRoutine := true, u := u, cf := c }).wr SQ_UPC.UPC 0x800 63).wr SQ_CUST.WORD (mw w) 63 0
  s.wr SQ_FLAGS.F f 63

/-- The state after the word. -/
def ran (s : State) : State := match exec (.microword 63 {} 0 0) s with | .next t => t | _ => {}

theorem test_setth0 : ((ran (word setth0 [(12, 1000)] false 0)).seq 63).ureg 2 = 1000 := by decide +kernel
theorem test_setth1 :
    let t := ran (word setth1 [(1, 5), (12, 1000)] false 0xFF)
    (t.seq 63).ureg 1 = 0 ∧ t.rd SQ_FLAGS.F 63 = 0xEF ∧ (t.seq 63).inRoutine = false := by decide +kernel
theorem test_vecc1 : ((ran (word vecc1 [(1, 600), (2, 1000)] false 0)).seq 63).cf = false
    ∧ ((ran (word vecc1 [(1, 1200), (2, 1000)] false 0)).seq 63).cf = true := by decide +kernel
theorem test_vecc2 : (ran (word vecc2 [] true 0)).rd SQ_FLAGS.F 63 = 0x10 ∧ (ran (word vecc2 [] false 0x10)).rd SQ_FLAGS.F 63 = 0 := by
  decide +kernel

end Sys2Proof.Tests
end

