-- ==== Sys2Proof/Tests/Witness.lean ====
section
/-!
SUPPORT. For every statement with hypotheses, data that meet them together, clause by clause, at boundary values.
-/
namespace Sys2Proof.Tests

set_option Elab.async false

open Sys2Proof Sys2Proof.Machine

/-- Data that meet the hypotheses of `IdleStepIsOneTick`, clause by clause. -/
theorem witness_IdleStepIsOneTick :
    (let s : State := up; s.pending = []) ∧
    (let s : State := ({ up with ttRuns := true, ring := { zeroAt := some 1 } }); s.pending = []) := by
  refine ⟨?_, ?_⟩ <;> decide +kernel

/-- Data that meet the hypotheses of `InvariantKeptByEveryStep`, clause by clause. -/
theorem witness_InvariantKeptByEveryStep :
    (let s : State := (State.reset); let t : State := (State.reset.tick); s.Inv ∧ step s = Host.Outcome.next t) := by
  exact ⟨by unfold State.Inv; decide +kernel, rfl⟩

/-- Data that meet the hypotheses of `CommandsLeaveTheQueue`, clause by clause. -/
theorem witness_CommandsLeaveTheQueue :
    (let c : Instr := (.prismStop); let s : State := (State.reset); let t : State := (State.reset);
     exec c s = Host.Outcome.next t) := by
  exact rfl

/-- Data that meet the hypotheses of `IndexWritesFollowR50`, clause by clause. -/
theorem witness_IndexWritesFollowR50 :
    (let c : Fin 8 := 7; let v : BitVec 16 := 64; let s : State := up; let cons : Nat := s.rd HW_CMD_CONS.CONS 0 ↑c;
     ahead v.toNat cons ≤ 64 ∧ ahead (s.rd HW_CMD_DB.PROD 0 ↑c) cons ≤ ahead v.toNat cons) ∧
    (let c : Fin 8 := 7; let v : BitVec 16 := 65; let s : State := up; let cons : Nat := s.rd HW_CMD_CONS.CONS 0 ↑c;
     ¬(ahead v.toNat cons ≤ 64 ∧ ahead (s.rd HW_CMD_DB.PROD 0 ↑c) cons ≤ ahead v.toNat cons)) ∧
    (let c : Fin 8 := 7; let v : BitVec 16 := 0; let s : State := up; let cons : Nat := s.rd HW_RSP_CONS.CONS 0 ↑c;
     ahead v.toNat cons ≤ ahead (s.rd HW_RSP_PROD.PROD 0 ↑c) cons) ∧
    (let c : Fin 8 := 7; let v : BitVec 16 := 1; let s : State := up; let cons : Nat := s.rd HW_RSP_CONS.CONS 0 ↑c;
     ¬ahead v.toNat cons ≤ ahead (s.rd HW_RSP_PROD.PROD 0 ↑c) cons) ∧
    (let v : BitVec 16 := 0; let s : State := up; let cons : Nat := s.rd HW_EVT_CONS.CONS;
     ahead v.toNat cons ≤ ahead (s.rd HW_EVT_PROD.PROD) cons) ∧
    (let v : BitVec 16 := 1; let s : State := up; let cons : Nat := s.rd HW_EVT_CONS.CONS;
     ¬ahead v.toNat cons ≤ ahead (s.rd HW_EVT_PROD.PROD) cons) := by
  refine ⟨?_, ?_, ?_, ?_, ?_, ?_⟩ <;> decide +kernel

/-- Data that meet the hypotheses of `EventPopsReportLosses`, clause by clause. -/
theorem witness_EventPopsReportLosses :
    (let v : BitVec 16 := 1; let s : State := (up.wr HW_EVT_PROD.PROD 1);
     ahead v.toNat (s.rd HW_EVT_CONS.CONS) ≤ ahead (s.rd HW_EVT_PROD.PROD) (s.rd HW_EVT_CONS.CONS)) ∧
    (let v : BitVec 16 := 2; let s : State := eventsLost;
     ahead v.toNat (s.rd HW_EVT_CONS.CONS) ≤ ahead (s.rd HW_EVT_PROD.PROD) (s.rd HW_EVT_CONS.CONS)) := by
  refine ⟨?_, ?_⟩ <;> decide +kernel

/-- Data that meet the hypotheses of `DisabledContextStopsItsJobs`, clause by clause. -/
theorem witness_DisabledContextStopsItsJobs :
    (let c : Fin 8 := 0; let s : State := stoppingJob; let T : Nat := 3200000000; Tab.find s.mbx.stopAt ↑c = some T ∧
     s.jobIdsDistinct) ∧
    (let c : Fin 8 := 0; let s : State := up; Tab.find s.mbx.stopAt ↑c = none) := by
  refine ⟨?_, ?_⟩ <;> decide +kernel

/-- Data that meet the hypotheses of `VisitsConsumeOrShowStall`, clause by clause. -/
theorem witness_VisitsConsumeOrShowStall :
    (let s : State := (State.reset.wr HW_CMD_DB.PROD 1); let c : Fin 8 := 0;
     let cons : Nat := s.rd HW_CMD_CONS.CONS 0 ↑c; (s.on HW_STATUS.MBRDY = false ∨ s.on HW_STATUS.HANDOVER = true) ∧
     cons ≠ s.rd HW_CMD_DB.PROD 0 ↑c ∧ s.on HW_CTX_CTRL.EN 0 ↑c = true) ∧
    (let s : State := up; let c : Fin 8 := 0; let cons : Nat := s.rd HW_CMD_CONS.CONS 0 ↑c;
     s.on HW_STATUS.MBRDY = true ∧ s.on HW_STATUS.HANDOVER = false ∧ s.mbx.visit = ↑c ∧
     (cons = s.rd HW_CMD_DB.PROD 0 ↑c ∨ s.on HW_CTX_CTRL.EN 0 ↑c = false)) ∧
    (let s : State := ((up.wr HW_CMD_DB.PROD 1).wr HW_RSP_PROD.PROD 63); let c : Fin 8 := 0;
     let cons : Nat := s.rd HW_CMD_CONS.CONS 0 ↑c; s.on HW_STATUS.MBRDY = true ∧ s.on HW_STATUS.HANDOVER = false ∧
     s.mbx.visit = ↑c ∧ cons ≠ s.rd HW_CMD_DB.PROD 0 ↑c ∧ s.on HW_CTX_CTRL.EN 0 ↑c = true ∧
     s.rspFree ↑c < s.ctxJobs ↑c + 2) ∧
    (let s : State := (posted 0x0600 255 80 (zeros 40) |> jobsFull); let c : Fin 8 := 0; let op : Nat := 0x0600;
     let d : Desc := (postedDesc 255 80); let cons : Nat := s.rd HW_CMD_CONS.CONS 0 ↑c;
     let job : Bool := Option.any CmdRow.job (cmdRow op); s.on HW_STATUS.MBRDY = true ∧
     s.on HW_STATUS.HANDOVER = false ∧ s.mbx.visit = ↑c ∧ cons ≠ s.rd HW_CMD_DB.PROD 0 ↑c ∧
     s.on HW_CTX_CTRL.EN 0 ↑c = true ∧ s.ctxJobs ↑c + 2 ≤ s.rspFree ↑c ∧
     descOf c (s.win.readN (65536 + ↑c * 4096 + 64 * (cons % 64)) 64) = (op, d) ∧ job = true ∧
     s.checkConsumed op d = none ∧ 256 ≤ s.mbx.jobs.length) ∧
    (let s : State := (posted 0x0101 255 0 (zeros 40) 2 |> immWaits); let c : Fin 8 := 0; let op : Nat := 0x0101;
     let d : Desc := ({ postedDesc 255 0 with flags := 2 }); let cons : Nat := s.rd HW_CMD_CONS.CONS 0 ↑c;
     let cmd : Consumed := { op := op, d := d, dbTime := 0, seqNo := s.mbx.flowSeq };
     let job : Bool := Option.any CmdRow.job (cmdRow op); s.on HW_STATUS.MBRDY = true ∧
     s.on HW_STATUS.HANDOVER = false ∧ s.mbx.visit = ↑c ∧ cons ≠ s.rd HW_CMD_DB.PROD 0 ↑c ∧
     s.on HW_CTX_CTRL.EN 0 ↑c = true ∧ s.ctxJobs ↑c + 2 ≤ s.rspFree ↑c ∧
     descOf c (s.win.readN (65536 + ↑c * 4096 + 64 * (cons % 64)) 64) = (op, d) ∧ (cmdRow op).isSome = true ∧
     job = false ∧ ordered d = true ∧ s.earlier cmd = true) ∧
    (let s : State := (posted 0 255 0 (zeros 40)); let c : Fin 8 := 0; let op : Nat := 0;
     let d : Desc := (postedDesc 255 0); let cons : Nat := s.rd HW_CMD_CONS.CONS 0 ↑c;
     let cmd : Consumed := { op := op, d := d, dbTime := 0, seqNo := s.mbx.flowSeq };
     let job : Bool := Option.any CmdRow.job (cmdRow op); let e : Nat := badOpcode; s.on HW_STATUS.MBRDY = true ∧
     s.on HW_STATUS.HANDOVER = false ∧ s.mbx.visit = ↑c ∧ cons ≠ s.rd HW_CMD_DB.PROD 0 ↑c ∧
     s.on HW_CTX_CTRL.EN 0 ↑c = true ∧ s.ctxJobs ↑c + 2 ≤ s.rspFree ↑c ∧
     descOf c (s.win.readN (65536 + ↑c * 4096 + 64 * (cons % 64)) 64) = (op, d) ∧ s.checkConsumed op d = some e ∧
     ((cmdRow op).isSome = false ∨ job = true ∨ ordered d = false ∨ s.earlier cmd = false)) ∧
    (let s : State := (posted 0x0101 255 0 (zeros 40)); let c : Fin 8 := 0; let op : Nat := 0x0101;
     let d : Desc := (postedDesc 255 0); let cons : Nat := s.rd HW_CMD_CONS.CONS 0 ↑c;
     let cmd : Consumed := { op := op, d := d, dbTime := 0, seqNo := s.mbx.flowSeq };
     let job : Bool := Option.any CmdRow.job (cmdRow op); s.on HW_STATUS.MBRDY = true ∧
     s.on HW_STATUS.HANDOVER = false ∧ s.mbx.visit = ↑c ∧ cons ≠ s.rd HW_CMD_DB.PROD 0 ↑c ∧
     s.on HW_CTX_CTRL.EN 0 ↑c = true ∧ s.ctxJobs ↑c + 2 ≤ s.rspFree ↑c ∧
     descOf c (s.win.readN (65536 + ↑c * 4096 + 64 * (cons % 64)) 64) = (op, d) ∧ s.checkConsumed op d = none ∧
     (cmdRow op).isSome = true ∧ job = false ∧ (ordered d = false ∨ s.earlier cmd = false)) ∧
    (let s : State := (posted 0x0600 255 80 (zeros 40)); let c : Fin 8 := 0; let op : Nat := 0x0600;
     let d : Desc := (postedDesc 255 80); let cons : Nat := s.rd HW_CMD_CONS.CONS 0 ↑c;
     let job : Bool := Option.any CmdRow.job (cmdRow op); s.on HW_STATUS.MBRDY = true ∧
     s.on HW_STATUS.HANDOVER = false ∧ s.mbx.visit = ↑c ∧ cons ≠ s.rd HW_CMD_DB.PROD 0 ↑c ∧
     s.on HW_CTX_CTRL.EN 0 ↑c = true ∧ s.ctxJobs ↑c + 2 ≤ s.rspFree ↑c ∧
     descOf c (s.win.readN (65536 + ↑c * 4096 + 64 * (cons % 64)) 64) = (op, d) ∧ s.checkConsumed op d = none ∧
     job = true ∧ s.mbx.jobs.length < 256) := by
  refine ⟨?_, ?_, ?_, ?_, ?_, ?_, ?_, ?_⟩ <;> decide +kernel

/-- Data that meet the hypotheses of `DescriptorChecksAndJobStart`, clause by clause. -/
theorem witness_DescriptorChecksAndJobStart :
    (let s : State := up; s.oldestJob = none) ∧
    (let s : State := (runJobState true 2); let j : Job := (runJob true); s.oldestJob = some j) ∧
    (let s : State := (runJobState true 2); let j : Job := (runJob true); s.oldestJob = some j ∧ j.abort = true) ∧
    (let s : State := (runJobState false 0); let j : Job := (runJob false); s.oldestJob = some j ∧ j.abort = false ∧
     s.stateRule j.cmd.op j.cmd.d = false) ∧
    (let s : State := (runJobState false 2); let j : Job := (runJob false); s.oldestJob = some j ∧ j.abort = false ∧
     s.stateRule j.cmd.op j.cmd.d = true) ∧
    (let s : State := pushWaits; let j : Job := pushJob; s.oldestJob = some j ∧ j.abort = false ∧
     s.stateRule j.cmd.op j.cmd.d = true) ∧
    (let op : Nat := 0x0A03; cmdRow op = none) ∧
    (let op : Nat := 0x0101; let d : Desc := ({ cmd with flags := 4 });
     let r : CmdRow := (((cmdRow 0x0101).getD ⟨false, .none, [], .none, 1, 1⟩));
     let unused : Prop := (d.rsv ≠ 0 ∨ 4 ≤ d.flags.toNat ∨ ∃ i, i < 40 ∧
     (∀ (p : Nat × Nat), p ∈ r.params → 24 + i < p.fst ∨ p.snd ≤ 24 + i) ∧ bits d.params.toNat (8 * i) 8 ≠ 0);
     cmdRow op = some r ∧ unused) ∧
    (let op : Nat := 0x0600; let d : Desc := (cmdN 16777217);
     let r : CmdRow := ((cmdRow 0x0600).getD ⟨false, .none, [], .none, 1, 1⟩);
     let unused : Prop := (d.rsv ≠ 0 ∨ 4 ≤ d.flags.toNat ∨ ∃ i, i < 40 ∧
     (∀ (p : Nat × Nat), p ∈ r.params → 24 + i < p.fst ∨ p.snd ≤ 24 + i) ∧ bits d.params.toNat (8 * i) 8 ≠ 0);
     let range : Prop := (r.payload = Payload.none ∧ (d.haddr ≠ 0 ∨ d.length ≠ 0) ∨ r.payload ≠ Payload.none ∧
     (d.haddr.toNat % 8 ≠ 0 ∨ d.length = 0 ∨ 16777216 < d.length.toNat)); cmdRow op = some r ∧ (¬unused) ∧ range) ∧
    (let op : Nat := 0x0206; let d : Desc := (cmd [] 64);
     let r : CmdRow := ((cmdRow 0x0206).getD ⟨false, .none, [], .none, 1, 1⟩);
     let unused : Prop := (d.rsv ≠ 0 ∨ 4 ≤ d.flags.toNat ∨ ∃ i, i < 40 ∧
     (∀ (p : Nat × Nat), p ∈ r.params → 24 + i < p.fst ∨ p.snd ≤ 24 + i) ∧ bits d.params.toNat (8 * i) 8 ≠ 0);
     let range : Prop := (r.payload = Payload.none ∧ (d.haddr ≠ 0 ∨ d.length ≠ 0) ∨ r.payload ≠ Payload.none ∧
     (d.haddr.toNat % 8 ≠ 0 ∨ d.length = 0 ∨ 16777216 < d.length.toNat));
     let named : Prop := (r.site = SiteRule.site ∨ r.site = SiteRule.timing ∧ par d 24 2 = 65535) ∧
     d.site.toNat < 64 ∨ (r.site = SiteRule.none ∨ r.site = SiteRule.timing ∧ par d 24 2 ≠ 65535) ∧ d.site = 255;
     cmdRow op = some r ∧ (¬unused) ∧ (¬range) ∧ (¬named)) ∧
    (let op : Nat := 0x0206; let d : Desc := (cmd [] 63);
     let r : CmdRow := ((cmdRow 0x0206).getD ⟨false, .none, [], .none, 1, 1⟩);
     let unused : Prop := (d.rsv ≠ 0 ∨ 4 ≤ d.flags.toNat ∨ ∃ i, i < 40 ∧
     (∀ (p : Nat × Nat), p ∈ r.params → 24 + i < p.fst ∨ p.snd ≤ 24 + i) ∧ bits d.params.toNat (8 * i) 8 ≠ 0);
     let range : Prop := (r.payload = Payload.none ∧ (d.haddr ≠ 0 ∨ d.length ≠ 0) ∨ r.payload ≠ Payload.none ∧
     (d.haddr.toNat % 8 ≠ 0 ∨ d.length = 0 ∨ 16777216 < d.length.toNat));
     let named : Prop := (r.site = SiteRule.site ∨ r.site = SiteRule.timing ∧ par d 24 2 = 65535) ∧
     d.site.toNat < 64 ∨ (r.site = SiteRule.none ∨ r.site = SiteRule.timing ∧ par d 24 2 ≠ 65535) ∧ d.site = 255;
     cmdRow op = some r ∧ (¬unused) ∧ (¬range) ∧ named) := by
  refine ⟨?_, ?_, ?_, ?_, ?_, ?_, ?_, ?_, ?_, ?_, ?_⟩ <;> decide +kernel

/-- Data that meet the hypotheses of `HostWindowWritesFollowAccessCodes`, clause by clause. -/
theorem witness_HostWindowWritesFollowAccessCodes :
    (let s : State := up; let a : Nat := 0x20; (s.ready 24 || s.ready 25) = true ∧ a ∈ [0, 4, 16, 24, 32]) ∧
    (let s : State := up; (s.ready 24 || s.ready 25) = true) ∧
    (let s : State := up; let o : Nat := 0x2FFF; (s.ready 24 || s.ready 25) = true ∧ o < 12288) := by
  refine ⟨?_, ?_, ?_⟩ <;> decide +kernel

/-- Data that meet the hypotheses of `LockedFieldsKeepTheirValue`, clause by clause. -/
theorem witness_LockedFieldsKeepTheirValue :
    (let s : State := up; let n : Fin 512 := 511; s.ready (3 + groupOf ↑n) = true ∧ s.gated (groupOf ↑n) = false) ∧
    (let s : State := (withSite 0 3 [511]); let n : Fin 512 := 511; s.ready (3 + groupOf ↑n) = true ∧
     s.gated (groupOf ↑n) = false) := by
  refine ⟨?_, ?_⟩ <;> decide +kernel

/-- Data that meet the hypotheses of `BusErrorsByCause`, clause by clause. -/
theorem witness_BusErrorsByCause :
    (let size : BitVec 8 := 4; let a : BitVec 32 := 1; let p : Spot := spotAt a.toNat;
     sizeOk p a.toNat size.toNat = false) ∧
    (let size : BitVec 8 := 4; let a : BitVec 32 := 0xFFFFFFFC; let p : Spot := spotAt a.toNat;
     sizeOk p a.toNat size.toNat = true ∧ p = Spot.reserved) ∧
    (let m : BitVec 8 := 0x20; let size : BitVec 8 := 4; let a : BitVec 32 := 0x01200000;
     let p : Spot := spotAt a.toNat; sizeOk p a.toNat size.toNat = true ∧ p ≠ Spot.reserved ∧
     reaches m.toNat p a.toNat = false) ∧
    (let s : State := (up.wr CK_GATESTAT.OPEN 0); let m : BitVec 8 := 1; let size : BitVec 8 := 4;
     let a : BitVec 32 := 0x03000000; let p : Spot := spotAt a.toNat; sizeOk p a.toNat size.toNat = true ∧
     p ≠ Spot.reserved ∧ reaches m.toNat p a.toNat = true ∧ s.stopped p = true) ∧
    (let s : State := (up.wr CK_GATESTAT.OPEN 0); let m : BitVec 8 := 1; let a : BitVec 32 := 0x03000000;
     let p : Spot := spotAt a.toNat; sizeOk p a.toNat 4 = true ∧ p ≠ Spot.reserved ∧
     reaches m.toNat p a.toNat = true ∧ s.stopped p = true) := by
  refine ⟨?_, ?_, ?_, ?_, ?_⟩ <;> decide +kernel

/-- Data that meet the hypotheses of `PeekAndPokeAnswer`, clause by clause. -/
theorem witness_PeekAndPokeAnswer :
    (let d : Desc := (cmd [(28, 1)]); let c : Consumed := (served 0x0103 (cmd [(28, 1)]) up).1; let s : State := up;
     let u : State := (served 0x0103 (cmd [(28, 1)]) up).2; s.serves 259 d c u ∧ par c.d 24 4 % 4 = 0 ∧
     1 ≤ par c.d 28 1 ∧ par c.d 28 1 ≤ 4 ∧
     (∀ (k : Nat), k < par c.d 28 1 → spotAt (par c.d 24 4 + 4 * k) ≠ Spot.reserved ∧
     blockOf (par c.d 24 4 + 4 * k) = blockOf (par c.d 24 4))) ∧
    (let d : Desc := (cmd [(24, 0x1C), (28, 0xFFFFFFFF)]);
     let c : Consumed := (served 0x0104 (cmd [(24, 0x1C), (28, 0xFFFFFFFF)]) up).1; let s : State := up;
     let u : State := (served 0x0104 (cmd [(24, 0x1C), (28, 0xFFFFFFFF)]) up).2; s.serves 260 d c u ∧
     s.rd HW_STATUS.ACTIVE < 2 ∧ (s.ready 24 || s.ready 25) = true ∧ par c.d 24 4 = 28) ∧
    (let d : Desc := (cmd [(24, 0x02001000)]); let c : Consumed := (served 0x0104 (cmd [(24, 0x02001000)]) up).1;
     let s : State := up; let u : State := (served 0x0104 (cmd [(24, 0x02001000)]) up).2; s.serves 260 d c u ∧
     par c.d 24 4 % 4 = 0 ∧ 33558528 ≤ par c.d 24 4 ∧ par c.d 24 4 < 33619968) := by
  refine ⟨?_, ?_, ?_⟩ <;> decide +kernel

/-- Data that meet the hypotheses of `HostWindowFramesAct`, clause by clause. -/
theorem witness_HostWindowFramesAct :
    (let s : State := linked; let h : RxHead := (headOf 1 (toLe 4 0x17FFC ++ toLe 4 0x12345678));
     let w : BitVec 32 := 0x12345678; let o : Fin 8192 := 0x1FFF;
     let off : BitVec 32 := BitVec.ofNat 32 (65536 + 4 * ↑o); s.linkUp = true ∧ h.fseq.toNat = s.link.rxSeq ∧
     (s.ready 24 || s.ready 25) = true ∧ headClean h 1 (toLe 4 off.toNat ++ toLe 4 w.toNat) = true ∧
     headFormed h (toLe 4 off.toNat ++ toLe 4 w.toNat) = true) ∧
    (let s : State := linked; let h : RxHead := (headOf 2 (toLe 4 0x17FFC ++ toLe 4 4)); let o : Fin 8192 := 0x1FFF;
     let off : BitVec 32 := BitVec.ofNat 32 (65536 + 4 * ↑o); s.linkUp = true ∧ h.fseq.toNat = s.link.rxSeq ∧
     (s.ready 24 || s.ready 25) = true ∧ headClean h 2 (toLe 4 off.toNat ++ toLe 4 4) = true ∧
     headFormed h (toLe 4 off.toNat ++ toLe 4 4) = true ∧ s.link.waiting = [] ∧ s.link.unacked = []) := by
  refine ⟨?_, ?_⟩ <;> decide +kernel

/-- Data that meet the hypotheses of `DeviceCommandsAnswer`, clause by clause. -/
theorem witness_DeviceCommandsAnswer :
    (let d : Desc := cmd; let s : State := up; let r := served 0x0100 d s; let c : Consumed := r.1;
     let u : State := r.2; s.serves 256 d c u) ∧
    (let d : Desc := cmd; let s : State := up; let r := served 0x0101 d s; let c : Consumed := r.1;
     let u : State := r.2; s.serves 257 d c u) ∧
    (let d : Desc := cmd; let s : State := up; let r := served 0x0106 d s; let c : Consumed := r.1;
     let u : State := r.2; s.serves 262 d c u) ∧
    (let d : Desc := (cmd [(24, 23)]); let s : State := up; let r := served 0x0605 d s; let c : Consumed := r.1;
     let u : State := r.2; s.serves 1541 d c u ∧ par c.d 24 1 < 24) ∧
    (let d : Desc := (cmd [] 63); let s : State := up; let r := served 0x0206 d s; let c : Consumed := r.1;
     let u : State := r.2; s.serves 518 d c u) ∧
    (let d : Desc := cmd; let s : State := up; let r := served 0x0A00 d s; let c : Consumed := r.1;
     let u : State := r.2; s.serves 2560 d c u) ∧
    (let d : Desc := (cmd [(24, 15), (25, 3), (26, 1000), (28, 128)]); let s : State := up;
     let r := carried 0x0107 d ([]) s; let j : Job := r.1; let q : Bytes := r.2.1; let u : State := r.2.2;
     let p : Desc := j.cmd.d; s.carriesOut 263 d [] j q u ∧ par p 24 1 < 16 ∧ par p 25 1 < 4 ∧ 20 ≤ par p 26 2 ∧
     par p 26 2 ≤ 1000 ∧ 8 ≤ par p 28 1 ∧ par p 28 1 ≤ 128 ∧ s.fenced (716 + par p 24 1) = false ∧ s.gated 18 = false) ∧
    (let d : Desc := (cmdN 100); let s : State := up; let r := carried 0x0606 d ([]) s; let j : Job := r.1;
     let q : Bytes := r.2.1; let u : State := r.2.2; s.carriesOut 1542 d [] j q u ∧
     (∀ (i : Nat), i < 64 → s.site i ≠ stRunning)) := by
  refine ⟨?_, ?_, ?_, ?_, ?_, ?_, ?_, ?_⟩ <;> decide +kernel

/-- Data that meet the hypotheses of `DeviceResetClears`, clause by clause. -/
theorem witness_DeviceResetClears :
    (let d : Desc := (cmd [(24, 1)]); let s : State := up; let r := served 0x0102 d s; let c : Consumed := r.1;
     let u : State := r.2; s.serves 258 d c u ∧ (par c.d 25 1 = 1 ∨ par c.d 25 1 = 0 ∧
     ∀ (i : Nat), i < 64 → s.busySite i = false) ∧ par c.d 24 1 = 1) ∧
    (let d : Desc := (cmd [(24, 2), (25, 1)]); let s : State := (up.wr CK_READY.READY 0); let r := served 0x0102 d s;
     let c : Consumed := r.1; let u : State := r.2; s.serves 258 d c u ∧ (par c.d 25 1 = 1 ∨ par c.d 25 1 = 0 ∧
     ∀ (i : Nat), i < 64 → s.busySite i = false) ∧ par c.d 24 1 = 2) := by
  refine ⟨?_, ?_⟩ <;> decide +kernel

/-- Data that meet the hypotheses of `MemoryCommandsAct`, clause by clause. -/
theorem witness_MemoryCommandsAct :
    (let d : Desc := (cmdN 3 [(28, 0xBFFFFFFFD)]); let p : Bytes := ([1,2,3]); let s : State := up;
     let r := carried 0x0800 d p s; let j : Job := r.1; let q : Bytes := r.2.1; let u : State := r.2.2;
     let k : Nat := par j.cmd.d 24 1; let a : Nat := par j.cmd.d 28 8; let n : Nat := j.cmd.d.length.toNat; k ≤ 2 ∧
     s.spaceOk k a n = true ∧ s.carriesOut 2048 d p j q u ∧ (k = 2 → s.loupeActive = false)) ∧
    (let d : Desc := (cmdN 3 [(24, 1), (28, 0x3FFFFD)]); let p : Bytes := ([1,2,3]); let s : State := up;
     let o : Nat := 2; let r := carried 0x0800 d p s; let j : Job := r.1; let q : Bytes := r.2.1;
     let u : State := r.2.2; let k : Nat := par j.cmd.d 24 1; let a : Nat := par j.cmd.d 28 8;
     let n : Nat := j.cmd.d.length.toNat; k ≤ 2 ∧ s.spaceOk k a n = true ∧ o < n ∧ s.carriesOut 2048 d p j q u ∧
     k ≠ 0 ∧ (k = 2 → s.loupeActive = false)) ∧
    (let d : Desc := (cmdN 3 [(24, 2), (28, 0x1FFFFFD)]); let p : Bytes := ([]); let s : State := up;
     let r := carried 0x0801 d p s; let j : Job := r.1; let q : Bytes := r.2.1; let u : State := r.2.2;
     let k : Nat := par j.cmd.d 24 1; let a : Nat := par j.cmd.d 28 8; let n : Nat := j.cmd.d.length.toNat; k ≤ 2 ∧
     s.spaceOk k a n = true ∧ s.carriesOut 2049 d [] j q u) ∧
    (let d : Desc := (cmdN 3 [(24, 0), (28, 0x1FFFFFD)]); let p : Bytes := ([]); let s : State := up;
     let o : Nat := 2; let r := carried 0x0801 d p s; let j : Job := r.1; let q : Bytes := r.2.1;
     let u : State := r.2.2; let k : Nat := par j.cmd.d 24 1; let a : Nat := par j.cmd.d 28 8;
     let n : Nat := j.cmd.d.length.toNat; k ≤ 2 ∧ s.spaceOk k a n = true ∧ o < n ∧ s.carriesOut 2049 d [] j q u) ∧
    (let d : Desc := (cmd [(24, 4096), (33, 8)]); let s : State := withRegion; let a : Nat := 4096;
     let r := served 0x0802 d s; let c : Consumed := r.1; let u : State := r.2; s.serves 2050 d c u ∧
     0 < par c.d 24 8 ∧ par c.d 24 8 ≤ 3221225472 ∧ par c.d 32 1 < 16 ∧ 8 ≤ par c.d 33 1 ∧ par c.d 33 1 ≤ 30 ∧
     s.place70 (par c.d 32 1) (par c.d 24 8) (par c.d 33 1) = some a) ∧
    (let d : Desc := (cmd [(24, 1)]); let s : State := withRegion; let x : Alloc := (⟨1, 0, 4096⟩);
     let r := served 0x0803 d s; let c : Consumed := r.1; let u : State := r.2; s.serves 2051 d c u ∧
     List.find? (fun a => a.handle == par c.d 24 4) s.mem.allocs = some x ∧ s.inUse x = false) ∧
    (let s : State := withRegion; let g : Nat := 0; let size : Nat := 4096; let log2 : Nat := 8; let a : Nat := 4096;
     s.place70 g size log2 = some a) := by
  refine ⟨?_, ?_, ?_, ?_, ?_, ?_, ?_⟩ <;> decide +kernel

/-- Data that meet the hypotheses of `SiteBindAndUnbindAct`, clause by clause. -/
theorem witness_SiteBindAndUnbindAct :
    (let d : Desc := (cmdN 64 [(24, 2500), (28, 1)] 63); let p : Bytes := (toLe 64 (2^511)); let s : State := up;
     let r := carried 0x0200 d p s; let j : Job := r.1; let q : Bytes := r.2.1; let u : State := r.2.2;
     let i : Nat := siteByte j.cmd.d; let ns : List Nat := mapChannels (le q); let pmin : Nat := par j.cmd.d 24 4;
     let k : Nat := par j.cmd.d 28 1; s.carriesOut 512 d p j q u ∧ i < 64 ∧ s.site i = stUnbound ∧
     j.cmd.d.length = 64 ∧ ns ≠ [] ∧ 2500 ≤ pmin ∧ 1 ≤ k ∧ k ≤ 4 ∧ (k = 1 ∨ (Tab.get { } s.ring.entries i).k = k ∧
     (Tab.get { } s.ring.entries i).pmin = pmin) ∧ s.fenced (532 + i) = false ∧
     (∀ (n : Nat), n ∈ ns → s.fenced n = false ∧ s.siteOf n = none ∧ s.gated (groupOf n) = false)) ∧
    (let d : Desc := (cmd [] 63); let s : State := (withSite 63 5 [511]); let r := served 0x0201 d s;
     let c : Consumed := r.1; let u : State := r.2; s.serves 513 d c u ∧ siteByte c.d < 64 ∧
     s.busySite (siteByte c.d) = false ∧ s.siteJob (siteByte c.d) [] = false) := by
  refine ⟨?_, ?_⟩ <;> decide +kernel

/-- Data that meet the hypotheses of `LoadsPutProgramsInPlace`, clause by clause. -/
theorem witness_LoadsPutProgramsInPlace :
    (let d : Desc := (cmdN 104 [] 0); let p : Bytes := object1; let s : State := (loaded0 stIdle);
     let r := carried 0x0202 d p s; let j : Job := r.1; let q : Bytes := r.2.1; let u : State := r.2.2;
     let i : Nat := siteByte j.cmd.d; let es : List StreamEntry := streamEntries q (field q 24 4);
     let base : Nat := field q 16 8; let npi : Nat := field q 8 4; s.carriesOut 514 d p j q u ∧ i < 64 ∧
     par j.cmd.d 24 1 ≤ 1 ∧ (s.site i = stIdle ∨ par j.cmd.d 24 1 = 1 ∧
     [stLoaded, stDone, stHalted, stInvalid].contains (s.site i) = true) ∧ objectOk q = true ∧
     s.allocated base (8 * npi) = true ∧ es.length = (s.channels i).length ∧
     (∀ (n : Nat), n ∈ s.channels i → ∃ x, x ∈ es ∧ x.chan = n) ∧
     (∀ (x : StreamEntry), x ∈ es → s.streamPlaced x (field q (field q 24 4) 5) = true) ∧
     (s.on SQ_SRSTAT.OPEN i = false ∨ ∀ (x : StreamEntry), x ∈ es → s.rd CH_STRMCFG.WIDTH x.chan = x.mode)) ∧
    (let d : Desc := (cmdN 312 [(24, 1)] 63); let p : Bytes := image1; let s : State := up;
     let r := carried 0x0203 d p s; let j : Job := r.1; let q : Bytes := r.2.1; let u : State := r.2.2;
     let i : Nat := siteByte j.cmd.d; s.carriesOut 515 d p j q u ∧ i < 64 ∧ s.busySite i = false ∧
     par j.cmd.d 24 1 = 1 ∧ headerOk q = true ∧ loaderVerdict q = none) ∧
    (let d : Desc := (cmdN 3364 [(24, 2)] 63); let p : Bytes := patch1; let v : Verdict := (⟨true, true⟩);
     let s : State := up; let r := carried 0x0203 d p s; let j : Job := r.1; let q : Bytes := r.2.1;
     let u : State := r.2.2; let i : Nat := siteByte j.cmd.d; s.carriesOut 515 d p j q u ∧ i < 64 ∧
     s.busySite i = false ∧ par j.cmd.d 24 1 = 2 ∧ s.verify q 1800 2 1 v = none ∧
     field q 4 2 = s.rd SQ_UROMID.ROMID i ∧ s.sec.active.patchver ≤ field q 0 4 ∧ field q 0 4 ≠ 0 ∧
     zeroAt q 6 2 = true) := by
  refine ⟨?_, ?_, ?_⟩ <;> decide +kernel

/-- Data that meet the hypotheses of `RunStartsTheSite`, clause by clause. -/
theorem witness_RunStartsTheSite :
    (let d : Desc := (cmd [] 63); let s : State := (withSite 63 2 []); let r := carried 0x0204 d [] s;
     let j : Job := r.1; let q : Bytes := r.2.1; let u : State := r.2.2; let i : Nat := siteByte j.cmd.d;
     s.carriesOut 516 d [] j q u ∧ i < 64 ∧ [stLoaded, stDone, stHalted].contains (s.site i) = true ∧
     s.runRefusal i (par j.cmd.d 28 1) = none ∧ s.runWaits i = false) ∧
    (let d : Desc := (cmd [] 63); let s : State := ((withSite 63 2 []).wr SY_STAT.COLLBUSY 1);
     let r := carried 0x0204 d [] s; let j : Job := r.1; let q : Bytes := r.2.1; let u : State := r.2.2;
     let i : Nat := siteByte j.cmd.d; s.carriesOut 516 d [] j q u ∧ i < 64 ∧
     [stLoaded, stDone, stHalted].contains (s.site i) = true ∧ s.runRefusal i (par j.cmd.d 28 1) = none ∧
     s.runWaits i = true) := by
  refine ⟨?_, ?_⟩ <;> decide +kernel

/-- Data that meet the hypotheses of `HaltsPostAndArrive`, clause by clause. -/
theorem witness_HaltsPostAndArrive :
    (let d : Desc := (cmd [] 63); let s : State := (withSite 63 3 [511]); let r := served 0x0205 d s;
     let c : Consumed := r.1; let u : State := r.2; s.serves 517 d c u ∧ siteByte c.d < 64 ∧
     s.site (siteByte c.d) = stRunning) ∧
    (let d : Desc := (cmd [] 63); let s : State := (withSite 63 4 [511]); let r := served 0x0205 d s;
     let c : Consumed := r.1; let u : State := r.2; s.serves 517 d c u ∧ siteByte c.d < 64 ∧
     s.site (siteByte c.d) ≠ stRunning) ∧
    (let site : Fin 64 := 63; let s : State := (withSite 63 3 [511]); s.site ↑site = stRunning) ∧
    (let site : Fin 64 := 63; let s : State := up; s.site ↑site ≠ stRunning) ∧
    (let site : Fin 64 := 63; let s : State := (withSite 63 3 [511]); let cause : Fin 5 := 4;
     s.site ↑site = stRunning ∧ ↑cause ≠ 3) ∧
    (let site : Fin 64 := 63; let s : State := (withSite 63 4 [511]); s.busySite ↑site = true) ∧
    (let site : Fin 64 := 63; let s : State := ((withSite 63 4 [511]).modSeq 63 (fun q => { q with vecEnd := true }));
     s.site ↑site = stHalting ∧ (s.seq ↑site).vecEnd = true ∧ (s.seq ↑site).inRoutine = false ∧
     (s.seq ↑site).stall = none) ∧
    (let site : Fin 64 := 63; let s : State := (withSite 63 4 [511]); s.site ↑site = stHalting ∧
     (s.seq ↑site).vecEnd = false ∧ (s.seq ↑site).draining = false ∧ (s.seq ↑site).stall = none) := by
  refine ⟨?_, ?_, ?_, ?_, ?_, ?_, ?_, ?_⟩ <;> decide +kernel

/-- Data that meet the hypotheses of `StreamRingLifeCycle`, clause by clause. -/
theorem witness_StreamRingLifeCycle :
    (let d : Desc := (cmd [(24, 0), (32, 320)] 0); let s : State := (loaded0 stLoaded); let r := served 0x0207 d s;
     let c : Consumed := r.1; let u : State := r.2; let i : Nat := siteByte c.d; let fb : Nat := s.frameBytes i;
     s.serves 519 d c u ∧ i < 64 ∧ [stLoaded, stRunning, stDone, stHalted].contains (s.site i) = true ∧
     s.on SQ_SRSTAT.OPEN i = false ∧ par c.d 24 8 % 256 = 0 ∧ par c.d 32 4 % fb = 0 ∧ 2 ≤ par c.d 32 4 / fb ∧
     par c.d 32 4 / fb ≤ 65536 ∧ par c.d 32 4 ≤ 2 ^ 30 ∧ par c.d 36 1 ≤ 1 ∧
     s.allocated (par c.d 24 8) (par c.d 32 4) = true) ∧
    (let d : Desc := (cmdN 160 [] 0); let p : Bytes := frame0; let s : State := (ring0 2);
     let r := carried 0x0208 d p s; let j : Job := r.1; let q : Bytes := r.2.1; let u : State := r.2.2;
     let i : Nat := siteByte j.cmd.d; let fb : Nat := s.rd SQ_SRFLEN.FLEN i; s.carriesOut 520 d p j q u ∧ i < 64 ∧
     s.on SQ_SRSTAT.OPEN i = true ∧ s.on SQ_SRSTAT.STALE i = false ∧ 0 < fb ∧ List.length q % fb = 0 ∧
     (∀ (k : Nat), k < List.length q / fb → s.frameOk i (s.rd SQ_SRWR.WR i + k) (List.take fb (List.drop (k * fb) q)) = true) ∧
     List.length q ≤ s.ringFree i) ∧
    (let d : Desc := (cmd [] 0); let s : State := (ring0 2); let r := served 0x0209 d s; let c : Consumed := r.1;
     let u : State := r.2; s.serves 521 d c u ∧ siteByte c.d < 64 ∧ s.on SQ_SRSTAT.OPEN (siteByte c.d) = true ∧
     s.on SQ_NEST.STRM (siteByte c.d) = false ∧ s.siteJob (siteByte c.d) [520] = false) := by
  refine ⟨?_, ?_, ?_⟩ <;> decide +kernel

/-- Data that meet the hypotheses of `FacetAndCmsCommandsAct`, clause by clause. -/
theorem witness_FacetAndCmsCommandsAct :
    (let d : Desc := (cmdN 80 [(24, 511), (26, 31)]); let p : Bytes := facet1; let s : State := up;
     let f : Facet := ((facetOf80 facet1).getD {}); let r := carried 0x0300 d p s; let j : Job := r.1;
     let q : Bytes := r.2.1; let u : State := r.2.2; let n : Nat := par j.cmd.d 24 2; let k : Nat := par j.cmd.d 26 1;
     let ns : List Nat := s.timingChannels j.cmd.d; k < 32 ∧ (n < 512 ∨ n = 65535 ∧ siteByte j.cmd.d < 64 ∧
     s.site (siteByte j.cmd.d) ≠ stUnbound) ∧ s.carriesOut 768 d p j q u ∧ facetOf80 q = some f ∧
     (∀ (m : Nat), m ∈ ns → s.copying m = false) ∧ (f.burst = true ∨ ∀ (m : Nat), m ∈ ns → s.edgesOk m f = true) ∧
     s.breaksR76 ns k f.period = false ∧
     (∀ (m : Nat), m ∈ ns → s.running m = false ∨ (s.facet m k).period = f.period ∧ (s.facet m k).burst = f.burst ∧
     (s.facet m k).bdir = f.bdir)) ∧
    (let d : Desc := (cmdN 80 [(24, 0xFFFF), (26, 31)] 63); let p : Bytes := facet1; let s : State := measuring63;
     let f : Facet := ((facetOf80 facet1).getD {}); let r := carried 0x0300 d p s; let j : Job := r.1;
     let q : Bytes := r.2.1; let u : State := r.2.2; let n : Nat := par j.cmd.d 24 2; let k : Nat := par j.cmd.d 26 1;
     let ns : List Nat := s.timingChannels j.cmd.d; k < 32 ∧ (n < 512 ∨ n = 65535 ∧ siteByte j.cmd.d < 64 ∧
     s.site (siteByte j.cmd.d) ≠ stUnbound) ∧ s.carriesOut 768 d p j q u ∧ facetOf80 q = some f ∧
     (∀ (m : Nat), m ∈ ns → s.copying m = false) ∧ (f.burst = true ∨ ∀ (m : Nat), m ∈ ns → s.edgesOk m f = true) ∧
     s.breaksR76 ns k f.period = false ∧
     (∀ (m : Nat), m ∈ ns → s.running m = false ∨ (s.facet m k).period = f.period ∧ (s.facet m k).burst = f.burst ∧
     (s.facet m k).bdir = f.bdir)) ∧
    (let d : Desc := (cmdN 64 [(24, 511), (26, 31)]); let p : Bytes := ((List.replicate 16 (toLe 4 0xDB6FF)).flatten);
     let s : State := up; let r := carried 0x0302 d p s; let j : Job := r.1; let q : Bytes := r.2.1;
     let u : State := r.2.2; let n : Nat := par j.cmd.d 24 2; let k : Nat := par j.cmd.d 26 1; k < 32 ∧
     (n < 512 ∨ n = 65535 ∧ siteByte j.cmd.d < 64 ∧ s.site (siteByte j.cmd.d) ≠ stUnbound) ∧
     s.carriesOut 770 d p j q u ∧ j.cmd.d.length = 64 ∧ (∀ (i : Nat), i < 16 → field q (4 * i) 4 < 2 ^ 20 ∧
     ∀ (m : Nat), m < 4 → bits (field q (4 * i) 4) (8 + 3 * m) 3 ≠ 7)) ∧
    (let d : Desc := (cmdN 64 [(24, 0xFFFF), (26, 31)] 63);
     let p : Bytes := ((List.replicate 16 (toLe 4 0xDB6FF)).flatten); let s : State := measuring63;
     let r := carried 0x0302 d p s; let j : Job := r.1; let q : Bytes := r.2.1; let u : State := r.2.2;
     let n : Nat := par j.cmd.d 24 2; let k : Nat := par j.cmd.d 26 1; k < 32 ∧ (n < 512 ∨ n = 65535 ∧
     siteByte j.cmd.d < 64 ∧ s.site (siteByte j.cmd.d) ≠ stUnbound) ∧ s.carriesOut 770 d p j q u ∧
     j.cmd.d.length = 64 ∧ (∀ (i : Nat), i < 16 → field q (4 * i) 4 < 2 ^ 20 ∧
     ∀ (m : Nat), m < 4 → bits (field q (4 * i) 4) (8 + 3 * m) 3 ≠ 7)) ∧
    (let d : Desc := (cmdN 144 [(24, 511), (26, 31)]); let p : Bytes := ([]); let s : State := up;
     let r := carried 0x0301 d p s; let j : Job := r.1; let q : Bytes := r.2.1; let u : State := r.2.2;
     let n : Nat := par j.cmd.d 24 2; let k : Nat := par j.cmd.d 26 1; k < 32 ∧ (n < 512 ∨ n = 65535 ∧
     siteByte j.cmd.d < 64 ∧ s.site (siteByte j.cmd.d) ≠ stUnbound) ∧ s.carriesOut 769 d [] j q u ∧ n < 512 ∧
     144 ≤ j.cmd.d.length.toNat) ∧
    (let d : Desc := (cmdN 64 [(24, 15)] 63); let p : Bytes := (toLe 64 (2^511));
     let s : State := (withSite 63 2 [510, 511]); let r := carried 0x0303 d p s; let j : Job := r.1;
     let q : Bytes := r.2.1; let u : State := r.2.2; let i : Nat := siteByte j.cmd.d; let k : Nat := par j.cmd.d 24 1;
     s.carriesOut 771 d p j q u ∧ i < 64 ∧ j.cmd.d.length = 64 ∧ k ≤ 15 ∧
     (∀ (n : Nat), n ∈ mapChannels (le q) → n ∈ s.channels i) ∧
     (∀ (n : Nat), n ∈ s.channels i → s.copying n = false) ∧ s.site i ≠ stUnbound ∧ s.site i ≠ stRunning) ∧
    (let d : Desc := (cmdN 64 [(24, 15)] 63); let p : Bytes := (toLe 64 (2^511));
     let s : State := (withSite 63 3 [510, 511]); let r := carried 0x0303 d p s; let j : Job := r.1;
     let q : Bytes := r.2.1; let u : State := r.2.2; let i : Nat := siteByte j.cmd.d; let k : Nat := par j.cmd.d 24 1;
     s.carriesOut 771 d p j q u ∧ i < 64 ∧ j.cmd.d.length = 64 ∧ k ≤ 15 ∧
     (∀ (n : Nat), n ∈ mapChannels (le q) → n ∈ s.channels i) ∧
     (∀ (n : Nat), n ∈ s.channels i → s.copying n = false) ∧ s.site i = stRunning) := by
  refine ⟨?_, ?_, ?_, ?_, ?_, ?_, ?_⟩ <;> decide +kernel

/-- Data that meet the hypotheses of `FailQueuesAct`, clause by clause. -/
theorem witness_FailQueuesAct :
    (let d : Desc := (cmdN 63 [(24, 15), (28, 5)] 0); let s : State := twoRecords; let r := carried 0x020A d ([]) s;
     let j : Job := r.1; let q : Bytes := r.2.1; let u : State := r.2.2; let g : Nat := par j.cmd.d 24 1;
     s.carriesOut 522 d [] j q u ∧ g < 16 ∧ s.on GR_FQCTL.DRAIN g = false ∧ 32 ≤ j.cmd.d.length.toNat) ∧
    (let d : Desc := (cmd [(24, 0x8000)] 0); let s : State := twoRecords; let r := served 0x020B d s;
     let c : Consumed := r.1; let u : State := r.2; s.serves 523 d c u) ∧
    (let g : Fin 16 := 15; let s : State := ({ supWaits with tt := 4 }); let r : Nat × Bytes := ((0, zeros 32));
     let rest : List (Nat × Bytes) := ([]); (s.group ↑g).supPending = r :: rest ∧ r.fst < s.tt / 4 ∧
     (s.group ↑g).moving = [] ∧ (s.group ↑g).records.length ≤ 1020) ∧
    (let g : Fin 16 := 15; let s : State := recordWaits; let r : Nat × Bytes := ((0, zeros 32));
     let rest : List (Nat × Bytes) := ([]); (s.group ↑g).supPending = [] ∧
     (s.chan (pendingUnit (↑g) (s.group ↑g).turn)).pending = r :: rest ∧ r.fst < s.tt / 4 ∧ (s.group ↑g).moving = [] ∧
     (s.group ↑g).records.length ≤ 1020) ∧
    (let x : Fin 546 := 15; ↑x < 16) ∧
    (let x : Fin 546 := 544; 17 ≤ ↑x ∧ ↑x < 545) ∧
    (let x : Fin 546 := 545; ↑x = 545) ∧
    (let x : Fin 546 := 16; ↑x = 16) := by
  refine ⟨?_, ?_, ?_, ?_, ?_, ?_, ?_, ?_⟩ <;> decide +kernel

/-- Data that meet the hypotheses of `FailLogAndSupmonRecord`, clause by clause. -/
theorem witness_FailLogAndSupmonRecord :
    (let s : State := logged; let site : Fin 64 := 63; s.busySite ↑site = false ∧ s.logOk ↑site = true) ∧
    (let s : State := logged; let site : Fin 64 := 63; s.busySite ↑site = false) ∧
    (let s : State := (withSite 63 3 [0]); let site : Fin 64 := 63; s.busySite ↑site = true) ∧
    (let s : State := logDue; let site : Fin 64 := 63; let g : Fin 16 := 15;
     let r : Bytes := (zeros 4 ++ [63] ++ List.replicate 27 7); let rest : List Bytes := ([]);
     ((s.group ↑g).settle s.tt).records = r :: rest ∧ List.length r = 32 ∧ field r 4 1 = ↑site ∧
     s.on GR_FQCTL.DRAIN ↑g = true ∧ s.on SQ_FLCTL.EN ↑site = true ∧
     (s.rd SQ_FLWR.WR ↑site + 2 ^ 32 - s.rd SQ_FLRD.RD ↑site) % 2 ^ 32 < s.rd SQ_FLSIZE.SIZE ↑site) ∧
    (let s : State := ((withSite 63 3 [511]).wr SQ_SUPCFG.ENA 128 63); let site : Fin 64 := 63; let line : Fin 8 := 7;
     let n : Nat := 511; let rest : List Nat := ([]); s.busySite ↑site = true ∧
     bit (s.rd SQ_SUPCFG.ENA ↑site) ↑line = true ∧ s.channels ↑site = n :: rest) ∧
    (let s : State := (withSite 63 3 [511]); let site : Fin 64 := 63; let line : Fin 8 := 7;
     s.busySite ↑site = false ∨ bit (s.rd SQ_SUPCFG.ENA ↑site) ↑line = false) := by
  refine ⟨?_, ?_, ?_, ?_, ?_, ?_⟩ <;> decide +kernel

/-- Data that meet the hypotheses of `SlotAccountingCommands`, clause by clause. -/
theorem witness_SlotAccountingCommands :
    (let d : Desc := (cmd [(32, 1)] 63); let s : State := up; let r := served 0x0604 d s; let c : Consumed := r.1;
     let u : State := r.2; let i : Nat := siteByte c.d; let flags : Nat := par c.d 32 1; let en : Bool := bit flags 1;
     s.serves 1540 d c u ∧ i < 64 ∧ s.busySite i = false ∧ (∀ (k : Nat), k < 8 → par c.d (24 + k) 1 ≤ 20) ∧
     flags < 16 ∧ par c.d 33 3 = 0 ∧ par c.d 52 12 = 0 ∧ (if en = true then 10 ≤ par c.d 36 4 ∧
     par c.d 36 4 ≤ 10000000 ∧ par c.d 40 8 % 128 = 0 ∧ 16 ≤ par c.d 48 4 ∧ par c.d 48 4 ≤ 1048576 ∧
     s.allocated (par c.d 40 8) (128 * par c.d 48 4) = true else par c.d 36 4 = 0 ∧ par c.d 40 8 = 0 ∧
     par c.d 48 4 = 0)) ∧
    (let s : State := dumping; let site : Fin 64 := 63; s.busySite ↑site = true ∧ (s.seq ↑site).started = true ∧
     s.on PM_CTL.DUMPEN ↑site = true) := by
  refine ⟨?_, ?_⟩ <;> decide +kernel

/-- Data that meet the hypotheses of `ResetsFromOutside`, clause by clause. -/
theorem witness_ResetsFromOutside :
    (let ns : Nat := 1000; let s : State := starting; s.clk.boot ≠ 0 ∧ 1000 ≤ ns) ∧
    (let ns : Nat := 100; let s : State := starting; s.clk.boot ≠ 0 ∧ 100 ≤ ns ∧ ns < 1000) ∧
    (let ns : Nat := 99; let s : State := up; s.clk.boot = 0 ∨ ns < 100) := by
  refine ⟨?_, ?_, ?_⟩ <;> decide +kernel

/-- Data that meet the hypotheses of `BootBringsMailboxService`, clause by clause. -/
theorem witness_BootBringsMailboxService :
    (let s : State := starting; s.on CK_MON.HOLD = false ∧ s.clk.boot = 1) ∧
    (let s : State := (up.wr CK_MON.HOLD 1); s.on CK_MON.HOLD = true) ∧
    (let s : State := (State.reset); s.on CK_MON.HOLD = false ∧ s.clk.boot = 0) ∧
    (let s : State := booting; s.on CK_MON.HOLD = false ∧ 2 ≤ s.clk.boot) ∧
    (let s : State := up; s.on CK_MON.HOLD = false) ∧
    (let s : State := booting; s.bootable = true) ∧
    (let s : State := up; s.bootable = false) := by
  refine ⟨?_, ?_, ?_, ?_, ?_, ?_, ?_⟩ <;> decide +kernel

/-- Data that meet the hypotheses of `ClocksComeAndGo`, clause by clause. -/
theorem witness_ClocksComeAndGo :
    (let s : State := up; let k : Fin 6 := 5; k ≠ 0 ∧ s.ready 1 = true) ∧
    (let s : State := up; let k : Fin 6 := 1; k ≠ 0 ∧ s.ready 1 = true) ∧
    (let s : State := (State.reset); let k : Fin 6 := 5; k ≠ 0 ∧ s.ready 1 = false) ∧
    (let s : State := linked; s.laneLocked = true) ∧
    (let s : State := (bringup 2 1 |> fun s => s.wr CK_READY.READY (2^24)); s.laneLocked = false ∧ s.ready 25 = true) ∧
    (let det : Bool := true; let edges : BitVec 8 := 0;
     let s : State := (refSeen (linked.wr CK_READY.READY (2^24 + 1))); s.rd HL_STAT.STAGE ≠ 6 ∧ s.newLoss = true ∧
     s.ready 25 = true ∧ (det = true ∨ edges.toNat < 98 ∨ 102 < edges.toNat)) ∧
    (let det : Bool := false; let edges : BitVec 8 := 103;
     let s : State := (refSeen (linked.wr CK_READY.READY (2^24 + 1))); s.rd HL_STAT.STAGE ≠ 6 ∧ s.newLoss = true ∧
     s.ready 25 = true ∧ (det = true ∨ edges.toNat < 98 ∨ 102 < edges.toNat)) ∧
    (let det : Bool := true; let s : State := (refSeen (linked.wr CK_READY.READY 1)); s.rd HL_STAT.STAGE ≠ 6 ∧
     s.newLoss = true ∧ s.ready 25 = false ∧ det = true) ∧
    (let det : Bool := false; let edges : BitVec 8 := 98;
     let s : State := (refSeen (linked.wr CK_READY.READY (2^24 + 1)));
     s.rd HL_STAT.STAGE = 6 ∨ s.newLoss = false ∨ det = false ∧ (s.ready 25 = false ∨ 98 ≤ edges.toNat ∧
     edges.toNat ≤ 102)) := by
  refine ⟨?_, ?_, ?_, ?_, ?_, ?_, ?_, ?_, ?_⟩ <;> decide +kernel

/-- Data that meet the hypotheses of `TrimAndClockControls`, clause by clause. -/
theorem witness_TrimAndClockControls :
    (let s : State := ((up.wr CK_OSC.TBUSY 1).wr CK_OSC.TRIM 255); s.on CK_OSC.TBUSY = true ∧ s.rd CK_OSC.TRIM < 256) ∧
    (let s : State := (up.wr CK_OSC.TBUSY 1); s.on CK_OSC.TBUSY = true ∧ s.rd CK_OSC.TRIM < 256) ∧
    (let s : State := up; s.on CK_OSC.TBUSY = false) ∧
    (let s : State := ({ linked with clk := { linked.clk with trim := some { t0 := 0 } }, tt := 320000000 });
     let due : Prop := (s.clk.trimWait = true ∨ ∃ p, s.clk.trim = some p ∧ p.due 320000000 ≤ s.age); s.linkUp = true ∧
     s.on CK_OSC.TBUSY = false ∧ due) ∧
    (let s : State := ({ linked with clk := { linked.clk with trimWait := true } });
     let due : Prop := (s.clk.trimWait = true ∨ ∃ p, s.clk.trim = some p ∧ p.due 320000000 ≤ s.age); s.linkUp = true ∧
     s.on CK_OSC.TBUSY = false ∧ due) ∧
    (let s : State := linked; let due : Prop := (s.clk.trimWait = true ∨ ∃ p, s.clk.trim = some p ∧
     p.due 320000000 ≤ s.age); s.linkUp = false ∨ s.on CK_OSC.TBUSY = true ∨ ¬due) ∧
    (let s : State := linked; s.linkUp = true) ∧
    (let s : State := up; s.linkUp = false) ∧
    (let s : State := up; let pll : Bool := true; s.ready (if pll = true then 24 else 25) = true) ∧
    (let s : State := (State.reset); let pll : Bool := true; s.ready (if pll = true then 24 else 25) = false) ∧
    (let s : State := (up.wr CK_OSC.TBUSY 1); s.on CK_OSC.TBUSY = true) ∧
    (let s : State := (up.wrs 0 [(CK_FCCTL.MEAS, 1), (CK_FCCTL.REF, 25)]); s.countable = true) ∧
    (let s : State := ((up.wr CK_READY.READY 0).wr CK_FCCTL.MEAS 1); s.countable = false) ∧
    (let s : State := up; s.clk.counting = false) := by
  refine ⟨?_, ?_, ?_, ?_, ?_, ?_, ?_, ?_, ?_, ?_, ?_, ?_, ?_, ?_⟩ <;> decide +kernel

/-- Data that meet the hypotheses of `IslandsAndRegulators`, clause by clause. -/
theorem witness_IslandsAndRegulators :
    (let i : Fin 19 := 18; let s : State := closing18; bit s.clk.closing ↑i = true) ∧
    (let i : Fin 19 := 18; let s : State := up; bit s.clk.closing ↑i = false) ∧
    (let p : Fin 7 := 6; p ≠ 0) ∧
    (let p : Fin 7 := 0; p = 0) := by
  refine ⟨?_, ?_, ?_, ?_⟩ <;> decide +kernel

/-- Data that meet the hypotheses of `LinkBringUpStages`, clause by clause. -/
theorem witness_LinkBringUpStages :
    (let pass : BitVec 16 := 0xFFFF; let s : State := (bringup 0 65535); let stage : Nat := s.rd HL_STAT.STAGE;
     let all : Prop := (∀ (l : Nat), l < 16 → bit s.link.lanesIn l = true → bit pass.toNat l = true); 6 ≤ s.clk.boot ∧
     s.on CK_MON.HOLD = false ∧ s.link.lanesIn < 65536 ∧ s.link.lanesIn ≠ 0 ∧ all ∧ stage = 0) ∧
    (let pass : BitVec 16 := 0xFFFF; let s : State := (bringup 1 1); let stage : Nat := s.rd HL_STAT.STAGE;
     let all : Prop := (∀ (l : Nat), l < 16 → bit s.link.lanesIn l = true → bit pass.toNat l = true); 6 ≤ s.clk.boot ∧
     s.on CK_MON.HOLD = false ∧ s.link.lanesIn < 65536 ∧ s.link.lanesIn ≠ 0 ∧ all ∧ stage = 1) ∧
    (let pass : BitVec 16 := 0xFFFF; let s : State := (bringup 2 8); let stage : Nat := s.rd HL_STAT.STAGE;
     let all : Prop := (∀ (l : Nat), l < 16 → bit s.link.lanesIn l = true → bit pass.toNat l = true);
     let l : Nat := 3; 6 ≤ s.clk.boot ∧ s.on CK_MON.HOLD = false ∧ s.link.lanesIn < 65536 ∧ s.link.lanesIn ≠ 0 ∧ all ∧
     stage = 2 ∧ s.chooseReference = some l) ∧
    (let pass : BitVec 16 := 0xFFFF; let s : State := (bringup 2 32); let stage : Nat := s.rd HL_STAT.STAGE;
     let all : Prop := (∀ (l : Nat), l < 16 → bit s.link.lanesIn l = true → bit pass.toNat l = true); 6 ≤ s.clk.boot ∧
     s.on CK_MON.HOLD = false ∧ s.link.lanesIn < 65536 ∧ s.link.lanesIn ≠ 0 ∧ all ∧ stage = 2 ∧
     s.chooseReference = none) ∧
    (let pass : BitVec 16 := 0; let s : State := (bringup 2 65535); let stage : Nat := s.rd HL_STAT.STAGE;
     6 ≤ s.clk.boot ∧ s.on CK_MON.HOLD = false ∧ s.link.lanesIn < 65536 ∧
     (∀ (l : Nat), l < 16 → bit s.link.lanesIn l = true → bit pass.toNat l = false) ∧ stage < 3) ∧
    (let s : State := capsDone; let stage : Nat := s.rd HL_STAT.STAGE; 6 ≤ s.clk.boot ∧ s.on CK_MON.HOLD = false ∧
     s.link.lanesIn < 65536 ∧ stage = 3 ∧ s.link.capsIn = true ∧ s.link.chosen = 0) ∧
    (let s : State := ({ capsDone with link := { capsDone.link with chosen := 2 } });
     let stage : Nat := s.rd HL_STAT.STAGE; 6 ≤ s.clk.boot ∧ s.on CK_MON.HOLD = false ∧ s.link.lanesIn < 65536 ∧
     stage = 3 ∧ s.link.capsIn = true ∧ s.link.chosen ≠ 0) ∧
    (let s : State := (bringup 3 1); let stage : Nat := s.rd HL_STAT.STAGE; 6 ≤ s.clk.boot ∧
     s.on CK_MON.HOLD = false ∧ s.link.lanesIn < 65536 ∧ stage = 3 ∧ s.link.capsIn = false) ∧
    (let pass : BitVec 16 := 0xFFFF; let s : State := (bringup 7 1); let stage : Nat := s.rd HL_STAT.STAGE;
     let all : Prop := (∀ (l : Nat), l < 16 → bit s.link.lanesIn l = true → bit pass.toNat l = true); 6 ≤ s.clk.boot ∧
     s.on CK_MON.HOLD = false ∧ s.link.lanesIn < 65536 ∧ (stage = 6 ∨ stage = 7) ∧
     bit pass.toNat (s.rd HL_STAT.REFLANE) = true ∧ all ∧ s.link.locking = false) ∧
    (let pass : BitVec 16 := 0xFFFF;
     let s : State := ({ bringup 6 1 with link := { (bringup 6 1).link with locking := true, newRate := 2 } });
     let stage : Nat := s.rd HL_STAT.STAGE;
     let all : Prop := (∀ (l : Nat), l < 16 → bit s.link.lanesIn l = true → bit pass.toNat l = true); 6 ≤ s.clk.boot ∧
     s.on CK_MON.HOLD = false ∧ s.link.lanesIn < 65536 ∧ (stage = 6 ∨ stage = 7) ∧
     bit pass.toNat (s.rd HL_STAT.REFLANE) = true ∧ all ∧ s.link.locking = true) ∧
    (let s : State := (bringup 3 1); let stage : Nat := s.rd HL_STAT.STAGE; 6 ≤ s.clk.boot ∧
     s.on CK_MON.HOLD = false ∧ s.link.lanesIn < 65536 ∧ stage ≤ 3) ∧
    (let s : State := (bringup 5 1); let stage : Nat := s.rd HL_STAT.STAGE; 6 ≤ s.clk.boot ∧
     s.on CK_MON.HOLD = false ∧ s.link.lanesIn < 65536 ∧ stage = 5) ∧
    (let s : State := (bringup 4 1); let stage : Nat := s.rd HL_STAT.STAGE; 6 ≤ s.clk.boot ∧
     s.on CK_MON.HOLD = false ∧ s.link.lanesIn < 65536 ∧ stage ≠ 5) := by
  refine ⟨?_, ?_, ?_, ?_, ?_, ?_, ?_, ?_, ?_, ?_, ?_, ?_, ?_⟩ <;> decide +kernel

/-- Data that meet the hypotheses of `LinkChangesAndCommands`, clause by clause. -/
theorem witness_LinkChangesAndCommands :
    (let h : RxHead := (headOf 0x30 (capsIn)); let s : State := (bringup 3 1); let stage : Nat := s.rd HL_STAT.STAGE;
     let ver : BitVec 16 := 1; let maxrate : BitVec 8 := 2; let rate : BitVec 8 := 2;
     let rest : Bytes := (capsIn.drop 4); let c : Bytes := capsPayload ver maxrate rate rest;
     headClean h 48 c = true ∧ headFormed h c = true ∧ List.length c = 32 ∧ field c 7 1 = 0 ∧ field c 20 12 = 0 ∧
     stage = 3 ∧ field c 0 1 = 1) ∧
    (let h : RxHead := (headOf 0x31 (toLe 8 2)); let p : Bytes := (toLe 8 2); let s : State := linked;
     s.linkUp = true ∧ headClean h 49 p = true ∧ headFormed h p = true ∧ List.length p = 8 ∧ field p 1 7 = 0 ∧
     field p 0 1 ≤ 2) ∧
    (let s : State := linked; s.linkUp = true) ∧
    (let s : State := (linked.wr CK_READY.READY (2^24)); s.linkUp = true) ∧
    (let s : State := (refSeen (linked.wr CK_READY.READY 1)); s.linkUp = true) ∧
    (let s : State := up; s.linkUp = false) ∧
    (let s : State := (bringup 7 1); let stage : Nat := s.rd HL_STAT.STAGE; stage = 7) ∧
    (let s : State := up; let stage : Nat := s.rd HL_STAT.STAGE; stage ≠ 7) ∧
    (let s : State := ((bringup 6 1).wr CK_READY.READY (2^24)); let stage : Nat := s.rd HL_STAT.STAGE; stage = 6) ∧
    (let s : State := (refSeen ((bringup 6 1).wr CK_READY.READY 1)); let stage : Nat := s.rd HL_STAT.STAGE; stage = 6) ∧
    (let s : State := up; let stage : Nat := s.rd HL_STAT.STAGE; stage ≠ 6) ∧
    (let d : Desc := (cmdN 16672 [(24, 15)]); let s : State := (linked.wr HL_LnSTAT.ACTIVE 1 0 15);
     let r := carried 0x0A01 d ([]) s; let j : Job := r.1; let q : Bytes := r.2.1; let u : State := r.2.2;
     s.carriesOut 2561 d [] j q u ∧ s.scanRefusal j.cmd.d = none ∧ (∀ (x : Job), u.scanning = some x → x.id = j.id)) ∧
    (let d : Desc := (cmd [(24, 2)]); let s : State := (linked.wr HL_PEER.MAXRATE 2); let r := served 0x0A02 d s;
     let c : Consumed := r.1; let u : State := r.2; s.serves 2562 d c u ∧ par c.d 24 1 ≤ 2 ∧
     par c.d 24 1 ≤ s.rd HL_PEER.MAXRATE ∧ s.linkUp = true ∧ s.scanning = none ∧ s.rateRefused = false) ∧
    (let d : Desc := (cmd [(24, 0)]); let s : State := linked; let r := served 0x0A02 d s; let c : Consumed := r.1;
     let u : State := r.2; s.serves 2562 d c u ∧ par c.d 24 1 ≤ 2 ∧ par c.d 24 1 ≤ s.rd HL_PEER.MAXRATE ∧
     s.linkUp = true ∧ s.scanning = none ∧ s.rateRefused = false) := by
  refine ⟨?_, ?_, ?_, ?_, ?_, ?_, ?_, ?_, ?_, ?_, ?_, ?_, ?_, ?_⟩ <;> decide +kernel

/-- Data that meet the hypotheses of `FramesAreDelivered`, clause by clause. -/
theorem witness_FramesAreDelivered :
    (let h : RxHead := (headOf 0x3E (toLe 4 65535)); let fseq : BitVec 16 := 65535; let s : State := unacked;
     let before : List TxFrame := ([]); let f : TxFrame := (⟨0x20, 65535, 0, [], none⟩);
     let rest : List TxFrame := ([⟨0x20, 0, 0, [], none⟩]); s.linkUp = true ∧ s.link.unacked = before ++ f :: rest ∧
     (∀ (g : TxFrame), g ∈ before → g.fseq ≠ f.fseq) ∧ fseq.toNat = f.fseq ∧
     headClean h 62 (ackPayload fseq [0, 0]) = true ∧ headFormed h (ackPayload fseq [0, 0]) = true) ∧
    (let s : State := unacked; s.linkUp = true ∧ s.link.unacked ≠ [] ∧ s.link.resends < 8) ∧
    (let s : State := ({ unacked with link := { unacked.link with resends := 8 } }); s.linkUp = true ∧
     s.link.unacked ≠ [] ∧ 8 ≤ s.link.resends) ∧
    (let s : State := linked; s.linkUp = true ∧ s.link.unacked = []) ∧
    (let h : RxHead := (headOf 0x12 [1, 2, 3, 4] 0 63); let data : Bytes := ([1, 2, 3, 4]);
     let s : State := payloadDue; let r : DmaReq := (⟨63, 0, 0, 4⟩); let j : Job := payloadJob; s.linkUp = true ∧
     headClean h 18 data = true ∧ headFormed h data = true ∧ h.fseq.toNat = s.link.rxSeq ∧
     List.find? (fun r => r.tag == h.tag.toNat) s.mbx.reqs = some r ∧ s.job r.job = some j ∧ List.length data = r.len) ∧
    (let h : RxHead := (headOf 0x12 [1, 2, 3, 4] 0 62); let data : Bytes := ([1, 2, 3, 4]);
     let s : State := payloadDue; s.linkUp = true ∧ headClean h 18 data = true ∧ headFormed h data = true ∧
     h.fseq.toNat = s.link.rxSeq ∧ List.find? (fun r => r.tag == h.tag.toNat) s.mbx.reqs = none) ∧
    (let tag : Fin 64 := 63; let s : State := payloadDue; let r : DmaReq := (⟨63, 0, 0, 4⟩);
     let j : Job := payloadJob; List.find? (fun r => r.tag == ↑tag) s.mbx.reqs = some r ∧ s.job r.job = some j) ∧
    (let tag : Fin 64 := 62; let s : State := payloadDue; List.find? (fun r => r.tag == ↑tag) s.mbx.reqs = none) := by
  refine ⟨?_, ?_, ?_, ?_, ?_, ?_, ?_, ?_⟩ <;> decide +kernel

/-- Data that meet the hypotheses of `FaultCollectorActs`, clause by clause. -/
theorem witness_FaultCollectorActs :
    (let d : Desc := (cmdN 88); let s : State := (fenced1 735); let r := carried 0x0600 d ([]) s; let j : Job := r.1;
     let q : Bytes := r.2.1; let u : State := r.2.2; s.carriesOut 1536 d [] j q u ∧
     80 + 8 * List.countP s.fenced (List.range 736) ≤ j.cmd.d.length.toNat) ∧
    (let d : Desc := (cmd [(24, 3)]); let s : State := up; let r := served 0x0601 d s; let c : Consumed := r.1;
     let u : State := r.2; s.serves 1537 d c u ∧ par c.d 24 1 ≤ 3) ∧
    (let d : Desc := (cmd [(24, 735)]); let s : State := (fenced1 735); let r := served 0x0602 d s;
     let c : Consumed := r.1; let u : State := r.2; let x : Nat := par c.d 24 2; s.serves 1538 d c u ∧ x < 736 ∧
     s.fenced x = true ∧ s.faults.romFault.contains x = false) ∧
    (let d : Desc := (cmd [(24, 600000), (28, 1)]); let s : State := up; let r := served 0x0603 d s;
     let c : Consumed := r.1; let u : State := r.2; s.serves 1539 d c u ∧ 10 ≤ par c.d 24 4 ∧ par c.d 24 4 ≤ 600000 ∧
     par c.d 28 1 ≠ 0) ∧
    (let d : Desc := (cmd [(24, 10), (28, 255)]); let s : State := up; let r := served 0x0603 d s;
     let c : Consumed := r.1; let u : State := r.2; s.serves 1539 d c u ∧ 10 ≤ par c.d 24 4 ∧ par c.d 24 4 ≤ 600000 ∧
     par c.d 28 1 ≠ 0) ∧
    (let m : FaultMsg := msg0; let s : State := up; (m.logOnly = true ∨ m.sev.toNat < 4 ∧
     [16, 35, 48, 112, 113, 128, 129].contains m.kind.toNat = false ∧ (m.kind.toNat = 33 → m.sev.toNat ≠ 3)) ∧
     s.on FC_STAT.FEVALID = false) ∧
    (let m : FaultMsg := ({ msg0 with sev := 7, kind := 0x10, logOnly := true });
     let s : State := (up.wr FC_STAT.FEVALID 1); (m.logOnly = true ∨ m.sev.toNat < 4 ∧
     [16, 35, 48, 112, 113, 128, 129].contains m.kind.toNat = false ∧ (m.kind.toNat = 33 → m.sev.toNat ≠ 3)) ∧
     s.on FC_STAT.FEVALID = true ∧ s.firstInjected = false) ∧
    (let s : State := up; s.rd SC_STAT.BOOT ≠ 2) ∧
    (let s : State := testBoot; s.rd SC_STAT.BOOT = 2) := by
  refine ⟨?_, ?_, ?_, ?_, ?_, ?_, ?_, ?_, ?_⟩ <;> decide +kernel

/-- Data that meet the hypotheses of `FencesComeAndGo`, clause by clause. -/
theorem witness_FencesComeAndGo :
    (let x : Fin 736 := 735; let s : State := (fenced1 735); let ready : Prop := (s.fenced ↑x = true ∧
     s.on FC_UNIT.PERM 0 ↑x = false ∧ s.on FC_UNIT.CHECK 0 ↑x = false ∧ s.faults.romFault.contains ↑x = false); ready) ∧
    (let x : Fin 736 := 735; let s : State := up; let ready : Prop := (s.fenced ↑x = true ∧
     s.on FC_UNIT.PERM 0 ↑x = false ∧ s.on FC_UNIT.CHECK 0 ↑x = false ∧ s.faults.romFault.contains ↑x = false);
     ¬ready) ∧
    (let x : Fin 736 := 735; let s : State := ((fenced1 735).wr FC_UNIT.CHECK 1 0 735); s.fenced ↑x = true ∧
     s.on FC_UNIT.CHECK 0 ↑x = true) ∧
    (let x : Fin 736 := 0; let s : State := ((fenced1 0).wr FC_UNIT.CHECK 1 0 0); s.fenced ↑x = true ∧
     s.on FC_UNIT.CHECK 0 ↑x = true) ∧
    (let x : Fin 736 := 735; let s : State := up; s.fenced ↑x = false ∨ s.on FC_UNIT.CHECK 0 ↑x = false) ∧
    (let x : Fin 736 := 735;
     let s : State := ({ up.wr FC_UNIT.RECOV 1 0 735 with faults := { up.faults with unfenced := [(735, [0])] } });
     let y : Nat := 0; let ys : List Nat := ([]); Tab.find s.faults.unfenced ↑x = some (y :: ys)) ∧
    (let core : Fin 2 := 1; let s : State := (up.wr HW_STATUS.ACTIVE 1); s.fenced (692 + ↑core) = false) ∧
    (let core : Fin 2 := 1; let s : State := (fenced1 692); s.fenced (692 + ↑core) = false) := by
  refine ⟨?_, ?_, ?_, ?_, ?_, ?_, ?_, ?_⟩ <;> decide +kernel

/-- Data that meet the hypotheses of `MemoryMaintenance`, clause by clause. -/
theorem witness_MemoryMaintenance :
    (let k : Fin 64 := 63; let s : State := codeWanted; let w : Nat := 31; Tab.find s.mem.wantCode ↑k = some w ∧
     w < 32 ∧ s.rd MC_PC.CODE 0 ↑k < 32) ∧
    (let k : Fin 64 := 63; let s : State := up; Tab.find s.mem.wantCode ↑k = none) ∧
    (let a : BitVec 36 := 0xBFFFFFFF0; a.toNat < 51539607544) ∧
    (let a : BitVec 36 := 0xBFFFFFFF8; 51539607544 ≤ a.toNat) ∧
    (let k : Fin 64 := 63; let s : State := (up.wr MC_PC.CODE 31 0 63); let i : Nat := 16; i < 17 ∧
     8 ≤ s.rd MC_PC.CODE 0 ↑k + i) ∧
    (let k : Fin 64 := 63; let s : State := up; let i : Nat := 8; i < 17 ∧ 8 ≤ s.rd MC_PC.CODE 0 ↑k + i) ∧
    (let k : Fin 64 := 63; let s : State := rejoining; let fit : Prop := (s.on MC_PC.FENCED 0 ↑k = true ∧
     s.fenced (596 + ↑k) = false ∧ s.mem.swept.contains ↑k = true ∧ s.allocsIn (↑k / 4) = []); fit) ∧
    (let k : Fin 64 := 63; let s : State := up; let fit : Prop := (s.on MC_PC.FENCED 0 ↑k = true ∧
     s.fenced (596 + ↑k) = false ∧ s.mem.swept.contains ↑k = true ∧ s.allocsIn (↑k / 4) = []); ¬fit) := by
  refine ⟨?_, ?_, ?_, ?_, ?_, ?_, ?_, ?_⟩ <;> decide +kernel

/-- Data that meet the hypotheses of `SignedCommandsAct`, clause by clause. -/
theorem witness_SignedCommandsAct :
    (let d : Desc := (cmdN 2140); let p : Bytes := ([]); let s : State := up; let r := carried 0x0105 d p s;
     let j : Job := r.1; let q : Bytes := r.2.1; let u : State := r.2.2; s.carriesOut 261 d [] j q u ∧
     2140 ≤ j.cmd.d.length.toNat ∧ s.rd SC_LMSREM_ID.LEFT ≠ 0) ∧
    (let d : Desc := (cmdN 6652); let p : Bytes := ([]); let s : State := (up.wr SC_LMSREM_SEAL.LEFT 1);
     let r := carried 0x0504 d p s; let j : Job := r.1; let q : Bytes := r.2.1; let u : State := r.2.2;
     s.carriesOut 1284 d [] j q u ∧ 6652 ≤ j.cmd.d.length.toNat ∧
     (s.on CA_STAT.KEYLOST = true ∨ s.rd SC_LMSREM_SEAL.LEFT ≠ 0)) ∧
    (let d : Desc := (cmdN 1756); let p : Bytes := (keyRecord 1 0 ++ signBlock 3 1 192);
     let v : Verdict := (⟨true, true⟩); let s : State := up; let cls : Nat := 1; let r := carried 0x0705 d p s;
     let j : Job := r.1; let q : Bytes := r.2.1; let u : State := r.2.2; s.carriesOut 1797 d p j q u ∧
     s.locked = false ∧ s.recordOk q = true ∧ s.recordSigner q = some cls ∧ s.verify q 192 3 cls v = none ∧
     field q 1 1 = 1) ∧
    (let d : Desc := (cmdN 1756); let p : Bytes := (keyRecord 1 0 ++ signBlock 3 2 192);
     let v : Verdict := (⟨true, true⟩); let s : State := owned; let cls : Nat := 2; let r := carried 0x0705 d p s;
     let j : Job := r.1; let q : Bytes := r.2.1; let u : State := r.2.2; s.carriesOut 1797 d p j q u ∧
     s.locked = false ∧ s.recordOk q = true ∧ s.recordSigner q = some cls ∧ s.verify q 192 3 cls v = none ∧
     field q 1 1 = 1) ∧
    (let d : Desc := (cmdN 1756); let p : Bytes := (keyRecord 2 3 ++ signBlock 3 1 192);
     let v : Verdict := (⟨true, true⟩); let s : State := up; let cls : Nat := 1; let r := carried 0x0705 d p s;
     let j : Job := r.1; let q : Bytes := r.2.1; let u : State := r.2.2; s.carriesOut 1797 d p j q u ∧
     s.locked = false ∧ s.recordOk q = true ∧ s.recordSigner q = some cls ∧ s.verify q 192 3 cls v = none ∧
     field q 1 1 = 2) ∧
    (let d : Desc := (cmdN 1584 [(24, 2)]); let p : Bytes := policy2; let v : Verdict := (⟨true, true⟩);
     let s : State := owned; let r := carried 0x0706 d p s; let j : Job := r.1; let q : Bytes := r.2.1;
     let u : State := r.2.2; s.carriesOut 1798 d p j q u ∧ par j.cmd.d 24 1 ≤ 2 ∧ field q 1 1 = par j.cmd.d 24 1 ∧
     field q 0 1 = 1 ∧ field q 2 1 ≤ 1 ∧ zeroAt q 3 1 = true ∧ dieIdOk q 4 = true ∧ s.on SC_STAT.OWNER = true ∧
     field q 16 4 = s.rd SC_OWNSEQ.SEQ ∧ s.verify q 20 5 2 v = none) ∧
    (let d : Desc := (cmdN 6420); let p : Bytes := seal1; let v : Verdict := (⟨true, true⟩); let s : State := owned;
     let r := carried 0x0505 d p s; let j : Job := r.1; let q : Bytes := r.2.1; let u : State := r.2.2;
     s.carriesOut 1285 d p j q u ∧ s.locked = false ∧ (∀ (i : Nat), i < 64 → s.busySite i = false) ∧
     s.calibrating = false ∧ bodyOk (List.take 4800 q) = true ∧ List.length q ∈ [6420, 6580, 6740] ∧
     field q 4800 4 = s.rd CA_SEALCNT.COUNT ∧ s.rd CA_SEALCNT.COUNT ≠ 4294967295 ∧ s.on SC_STAT.OWNER = true ∧
     List.take 52 (List.drop 4804 q) = digest (withSealCount (List.take 4800 q) 0) ++ toLe 4 (s.rd CA_SEALCNT.COUNT) ∧
     s.verify (List.drop 4804 q) 52 4 2 v = none) := by
  refine ⟨by decide +kernel, by decide +kernel, ?_, ?_, ?_, ?_, ?_⟩
  · dsimp only
    refine ⟨carried_ok (by decide +kernel) (by decide +kernel), by decide +kernel, ?_⟩
    rw [carried_payload]
    · exact ⟨keyRecord_ok _ _ _ _ (by decide +kernel), by decide +kernel, by decide +kernel, by decide +kernel⟩
    all_goals decide +kernel
  · dsimp only
    refine ⟨carried_ok (by decide +kernel) (by decide +kernel), by decide +kernel, ?_⟩
    rw [carried_payload]
    · exact ⟨keyRecord_ok _ _ _ _ (by decide +kernel), by decide +kernel, by decide +kernel, by decide +kernel⟩
    all_goals decide +kernel
  · dsimp only
    refine ⟨carried_ok (by decide +kernel) (by decide +kernel), by decide +kernel, ?_⟩
    rw [carried_payload]
    · exact ⟨keyRecord_ok _ _ _ _ (by decide +kernel), by decide +kernel, by decide +kernel, by decide +kernel⟩
    all_goals decide +kernel
  · dsimp only
    refine ⟨carried_ok (by decide +kernel) (by decide +kernel), by decide +kernel, ?_⟩
    rw [carried_payload]
    · exact ⟨by decide +kernel, by decide +kernel, by decide +kernel, by decide +kernel, policy2_dieId, by decide +kernel, by decide +kernel, by decide +kernel⟩
    all_goals decide +kernel
  · dsimp only
    refine ⟨carried_ok (by decide +kernel) (by decide +kernel), by decide +kernel, by decide +kernel, by decide +kernel, ?_⟩
    rw [carried_payload]
    · refine ⟨by rw [seal1_take]; exact body1_ok, by rw [length_seal1]; decide, ?_, by decide +kernel, by decide +kernel, ?_,
        seal1_verify⟩
      · rw [seal1_eq, show (4800 : Nat) = body1.length + 0 by rw [length_body1], field_append_right, field_toLe _ (by decide)]
        decide +kernel
      · rw [seal1_content, seal1_take]; rfl
    all_goals first | decide +kernel | (rw [length_seal1]; decide +kernel)


/-- Data that meet the hypotheses of `UpdateSessionCommands`, clause by clause. -/
theorem witness_UpdateSessionCommands :
    (let d : Desc := (cmdN 1724); let p : Bytes := manifest1; let v : Verdict := (⟨true, true⟩); let s : State := up;
     let r := carried 0x0700 d p s; let j : Job := r.1; let q : Bytes := r.2.1; let u : State := r.2.2;
     s.rd SC_STAT.SESSION ≠ 3 ∧ s.sec.act = none ∧ s.carriesOut 1792 d p j q u ∧ s.locked = false ∧
     s.verify q (112 + 48 * field q 18 2) 1 1 v = none ∧ s.manifestOk q = true ∧ s.rd SC_MINSVN.MIN ≤ field q 8 4 ∧
     s.sec.session = none) ∧
    (let d : Desc := (cmdN 1724); let p : Bytes := manifest1; let v : Verdict := (⟨true, true⟩);
     let s : State := opened1; let x : Session := ({ img := manifestImage manifest1 }); let r := carried 0x0700 d p s;
     let j : Job := r.1; let q : Bytes := r.2.1; let u : State := r.2.2; s.rd SC_STAT.SESSION ≠ 3 ∧ s.sec.act = none ∧
     s.carriesOut 1792 d p j q u ∧ s.locked = false ∧ s.verify q (112 + 48 * field q 18 2) 1 1 v = none ∧
     s.manifestOk q = true ∧ s.rd SC_MINSVN.MIN ≤ field q 8 4 ∧ s.sec.session = some x ∧
     x.img.dig = (manifestImage q).dig) ∧
    (let d : Desc := (cmdN 1); let p : Bytes := ([7]); let s : State := staging7;
     let x : Session := ({ img := image7 }); let r := carried 0x0701 d p s; let j : Job := r.1;
     let q : Bytes := r.2.1; let u : State := r.2.2; let k : Nat := par j.cmd.d 24 4; s.rd SC_STAT.SESSION ≠ 3 ∧
     s.sec.act = none ∧ s.carriesOut 1793 d p j q u ∧ s.locked = false ∧ s.sec.session = some x ∧ k < x.img.nchunk ∧
     x.img.nchunk ≤ 96 ∧ List.length q = x.img.chunkLen k ∧ digest q = x.img.chunks.getD k [] ∧
     bit x.bitmap k = false) ∧
    (let d : Desc := (cmdN 1); let p : Bytes := ([7]); let s : State := staged7;
     let x : Session := ({ img := image7, bitmap := 1 }); let r := carried 0x0701 d p s; let j : Job := r.1;
     let q : Bytes := r.2.1; let u : State := r.2.2; let k : Nat := par j.cmd.d 24 4; s.rd SC_STAT.SESSION ≠ 3 ∧
     s.sec.act = none ∧ s.carriesOut 1793 d p j q u ∧ s.locked = false ∧ s.sec.session = some x ∧ k < x.img.nchunk ∧
     x.img.nchunk ≤ 96 ∧ List.length q = x.img.chunkLen k ∧ digest q = x.img.chunks.getD k [] ∧ bit x.bitmap k = true) ∧
    (let d : Desc := cmd; let s : State := staging7; let x : Session := ({ img := image7 });
     let r := served 0x0702 d s; let c : Consumed := r.1; let u : State := r.2; s.rd SC_STAT.SESSION ≠ 3 ∧
     s.sec.act = none ∧ s.serves 1794 d c u ∧ s.sec.session = some x ∧ x.img.nchunk ≤ 96) ∧
    (let d : Desc := cmd; let s : State := up; let r := served 0x0702 d s; let c : Consumed := r.1;
     let u : State := r.2; s.rd SC_STAT.SESSION ≠ 3 ∧ s.sec.act = none ∧ s.serves 1794 d c u ∧ s.sec.session = none) ∧
    (let d : Desc := cmd; let s : State := staging7; let r := served 0x0703 d s; let c : Consumed := r.1;
     let u : State := r.2; s.rd SC_STAT.SESSION ≠ 3 ∧ s.sec.act = none ∧ s.serves 1795 d c u ∧
     s.sec.session.isSome = true ∧ ↑c.d.ctx = s.rd SC_SESS.OPENER) ∧
    (let d : Desc := cmd; let p : Bytes := ([]); let v : Verdict := (⟨true, true⟩); let q : Bytes := ([]);
     let s : State := staged7; let x : Session := ({ img := image7, bitmap := 1 }); let r := carried 0x0704 d p s;
     let j : Job := r.1; let u : State := r.2.2; s.rd SC_STAT.SESSION ≠ 3 ∧ s.sec.act = none ∧
     s.carriesOut 1796 d [] j q u ∧ s.sec.session = some x ∧ s.rd SC_STAT.SESSION = 2 ∧ s.locked = false ∧
     s.rd SC_MINSVN.MIN ≤ x.img.svn ∧ s.fenced (692 + (1 - s.rd HW_STATUS.ACTIVE)) = false ∧
     s.sec.standbyDown = false ∧ s.badChunks x.img = [] ∧ v.ecdsa = true ∧ v.lms = true ∧
     digest (s.sec.staging.readN 0 x.img.ilen) = x.img.dig ∧
     (s.on SY_STAT.RINGUP = false ∨ x.img.rmin ≤ s.rd SY_VER.CURV ∧ s.rd SY_VER.CURV ≤ x.img.rmax)) := by
  refine ⟨by decide +kernel, by decide +kernel, ?_, ?_, ?_, ?_, ?_, ?_⟩
  · dsimp only
    refine ⟨by decide +kernel, by decide +kernel, carried_ok (by decide +kernel) (by decide +kernel), by decide +kernel, rfl, by decide +kernel, by decide +kernel, ?_⟩
    rw [carried_payload]
    · exact ⟨by decide +kernel, rfl, by decide +kernel⟩
    all_goals decide +kernel
  · dsimp only
    refine ⟨by decide +kernel, by decide +kernel, carried_ok (by decide +kernel) (by decide +kernel), by decide +kernel, rfl, by decide +kernel, by decide +kernel, ?_⟩
    rw [carried_payload]
    · exact ⟨by decide +kernel, rfl, by decide +kernel⟩
    all_goals decide +kernel
  · and_intros <;> first | decide +kernel | exact served_ok (by decide +kernel) | rfl
  · decide +kernel
  · and_intros <;> first | decide +kernel | exact served_ok (by decide +kernel)
  · exact ⟨by decide +kernel, by decide +kernel, carried_ok (by decide +kernel) (by decide +kernel), rfl, by decide +kernel, by decide +kernel, by decide +kernel, by decide +kernel, by decide +kernel,
      staged7_chunks, rfl, rfl, staged7_digest, by decide +kernel⟩

/-- Data that meet the hypotheses of `AlarmsAndActivation`, clause by clause. -/
theorem witness_AlarmsAndActivation :
    (let cls : Fin 5 := 4; let s : State := ((withSite 63 3 [511]).wr SC_STAT.POLICY 1);
     Tab.find s.sec.lastTrip (↑cls + 1) = none) ∧
    (let cls : Fin 5 := 4; let s : State := ((withSite 63 3 [511]).wr SC_STAT.POLICY 2);
     Tab.find s.sec.lastTrip (↑cls + 1) = none) ∧
    (let cls : Fin 5 := 4; let s : State := ({ up with ttRuns := true, sec := { up.sec with lastTrip := [(5, 0)] } });
     let x : Nat := 0; Tab.find s.sec.lastTrip (↑cls + 1) = some x ∧ s.ttRuns = true ∧ s.age < x + 3200000) ∧
    (let s : State := ({ staging7 with sec := { staging7.sec with session := some { img := image7, idle := 2592000 } } });
     let x : Session := ({ img := image7, idle := 2592000 }); s.sec.session = some x ∧ 2592000 ≤ x.idle + 60 ∧
     s.rd SC_STAT.SESSION ≠ 3) ∧
    (let s : State := staging7; let x : Session := ({ img := image7 }); s.sec.session = some x ∧
     (x.idle + 60 < 2592000 ∨ s.rd SC_STAT.SESSION = 3)) ∧
    (let s : State := (activating false); let a : Activation := ({ job := 0 }); s.sec.act = some a ∧
     s.fenced (692 + (1 - s.rd HW_STATUS.ACTIVE)) = false) ∧
    (let s : State := (activating true); let a : Activation := ({ job := 0, ready := true });
     let x : Session := ({ img := image7, bitmap := 1 }); s.sec.act = some a ∧ a.ready = true ∧ s.mbx.imm = [] ∧
     s.sec.session = some x ∧ s.rd HW_STATUS.ACTIVE ≤ 1) ∧
    (let s : State := (activating false); let a : Activation := ({ job := 0 });
     let x : Session := ({ img := image7, bitmap := 1 }); s.sec.act = some a ∧ s.sec.session = some x ∧
     (a.ready = false ∨ s.mbx.imm ≠ [])) ∧
    (let s : State := (activating false); let a : Activation := ({ job := 0 }); s.sec.act = some a ∧ a.ready = false) ∧
    (let s : State := (activating true); let a : Activation := ({ job := 0, ready := true }); s.sec.act = some a ∧
     a.ready = true) := by
  refine ⟨?_, ?_, ?_, ?_, ?_, ?_, ?_, ?_, ?_, ?_⟩ <;>
    (and_intros <;> first | decide +kernel | rfl)

/-- Data that meet the hypotheses of `MeasurementUnitsAct`, clause by clause. -/
theorem witness_MeasurementUnitsAct :
    (let d : Desc := (armCmd 3); let s : State := up; let r := served 0x0400 d s; let c : Consumed := r.1;
     let u : State := r.2; s.serves 1024 d c u ∧ s.tiaRefusal c.d = none ∧ par c.d 26 1 ≠ 4) ∧
    (let d : Desc := (armCmd 2); let s : State := up; let r := served 0x0400 d s; let c : Consumed := r.1;
     let u : State := r.2; s.serves 1024 d c u ∧ s.tiaRefusal c.d = none ∧ par c.d 26 1 ≠ 4) ∧
    (let d : Desc := (armCmd 0); let s : State := (tiaIn 511 3 {}); let r := served 0x0400 d s;
     let c : Consumed := r.1; let u : State := r.2; s.serves 1024 d c u ∧ s.tiaRefusal c.d = none ∧ par c.d 26 1 ≠ 4) ∧
    (let d : Desc := (armCmd 4); let s : State := up; let r := served 0x0400 d s; let c : Consumed := r.1;
     let u : State := r.2; s.serves 1024 d c u ∧ s.tiaRefusal c.d = none ∧ par c.d 26 1 = 4) ∧
    (let d : Desc := (cmdN 160 [(24, 511)]); let q : Bytes := ([]);
     let s : State := (tiaIn 511 0 { records := [[1],[2]] }); let r := carried 0x0401 d ([]) s; let j : Job := r.1;
     let u : State := r.2.2; s.carriesOut 1025 d [] j q u ∧ par j.cmd.d 24 2 < 512 ∧ 160 ≤ j.cmd.d.length.toNat) ∧
    (let n : Fin 528 := 527; let s : State := ((tiaIn 527 2 {sedge := 3}).wr CH_MSTAT.MODE 3 15);
     let low : Bool := true; let rising : Bool := false; let t2 : BitVec 64 := 2; 2 ≤ t2.toNat ∧ s.lineOf ↑n < 512 ∧
     (512 ≤ ↑n → s.rd CH_MSTAT.MODE (↑n - 512) = 3) ∧
     (∀ (l : Nat), (s.tia ↑n).lastEdge = some l → l + (max 2 (s.tia ↑n).holdoff + 2) * 4096 < t2.toNat * 4096) ∧
     s.rd CH_TIASTAT.STATE ↑n = 2 ∧ (s.tia ↑n).mode ≠ 1 ∧ (s.tia ↑n).start = 0 ∧ (s.tia ↑n).startAt = none ∧
     (s.tia ↑n).armedAt + 2 ≤ t2.toNat ∧ edgeSelects (s.tia ↑n).sedge low rising = true ∧
     (s.tia ↑n).hystOk (s.tia ↑n).sedge low rising = true) ∧
    (let n : Fin 528 := 0; let s : State := (tiaIn 0 2 {sedge := 2}); let low : Bool := false;
     let rising : Bool := false; let t2 : BitVec 64 := 4000; 2 ≤ t2.toNat ∧ s.lineOf ↑n < 512 ∧
     (512 ≤ ↑n → s.rd CH_MSTAT.MODE (↑n - 512) = 3) ∧
     (∀ (l : Nat), (s.tia ↑n).lastEdge = some l → l + (max 2 (s.tia ↑n).holdoff + 2) * 4096 < t2.toNat * 4096) ∧
     s.rd CH_TIASTAT.STATE ↑n = 2 ∧ (s.tia ↑n).mode ≠ 1 ∧ (s.tia ↑n).start = 0 ∧ (s.tia ↑n).startAt = none ∧
     (s.tia ↑n).armedAt + 2 ≤ t2.toNat ∧ edgeSelects (s.tia ↑n).sedge low rising = true ∧
     (s.tia ↑n).hystOk (s.tia ↑n).sedge low rising = true) ∧
    (let n : Fin 528 := 0;
     let s : State := (tiaIn 0 3 {pedge := 2, nstop := 3, values := [5], startAt := some 9, lastEdge := some 4});
     let low : Bool := false; let rising : Bool := false; let t2 : BitVec 64 := 4000; let b : Nat := 9; 2 ≤ t2.toNat ∧
     s.lineOf ↑n < 512 ∧ (512 ≤ ↑n → s.rd CH_MSTAT.MODE (↑n - 512) = 3) ∧
     (∀ (l : Nat), (s.tia ↑n).lastEdge = some l → l + (max 2 (s.tia ↑n).holdoff + 2) * 4096 < t2.toNat * 4096) ∧
     s.rd CH_TIASTAT.STATE ↑n = 3 ∧ ((s.tia ↑n).mode = 0 ∨ (s.tia ↑n).mode = 3) ∧ (s.tia ↑n).startAt = some b ∧
     b + 8192 < t2.toNat * 4096 ∧ edgeSelects (s.tia ↑n).pedge low rising = true ∧
     (s.tia ↑n).hystOk (s.tia ↑n).pedge low rising = true ∧ (s.tia ↑n).values.length + 1 < (s.tia ↑n).nstop) ∧
    (let n : Fin 528 := 527; let s : State := (tiaIn 527 2 {start := 4, stime := 5, armedAt := 5 });
     s.rd CH_TIASTAT.STATE ↑n = 2 ∧ (s.tia ↑n).start = 4 ∧ (s.tia ↑n).armedAt ≤ (s.tia ↑n).stime) ∧
    (let n : Fin 528 := 527; let s : State := (tiaIn 527 2 {timeout := 3});
     s.rd CH_TIASTAT.STATE ↑n = 2 ∨ s.rd CH_TIASTAT.STATE ↑n = 3) ∧
    (let n : Fin 528 := 527; let s : State := (tiaIn 527 3 {timeout := 3, records := List.replicate 16 [1]});
     s.rd CH_TIASTAT.STATE ↑n = 2 ∨ s.rd CH_TIASTAT.STATE ↑n = 3) ∧
    (let n : Fin 528 := 527; let s : State := (tiaIn 527 3 {mode := 2, gate := 3}); s.rd CH_TIASTAT.STATE ↑n = 3 ∧
     (s.tia ↑n).mode = 2) ∧
    (let n : Fin 528 := 527; let s : State := (tiaIn 527 1 {}); s.rd CH_TIASTAT.STATE ↑n = 1) ∧
    (let n : Fin 528 := 527; let s : State := up; s.rd CH_TIASTAT.STATE ↑n = 0) ∧
    (let n : Fin 528 := 511;
     let s : State := ({ tiaIn 511 2 {} with cal := { groups := [(15, { waiting := some 511 })] } }); ↑n < 512 ∧
     (s.calg (groupOf ↑n)).waiting = some ↑n) ∧
    (let n : Fin 528 := 511; let s : State := up; (s.calg (groupOf ↑n)).waiting ≠ some ↑n) := by
  refine ⟨?_, ?_, ?_, ?_, ?_, ?_, ?_, ?_, ?_, ?_, ?_, ?_, ?_, ?_, ?_, ?_⟩ <;> decide +kernel

/-- A blob of CAL_WRITE_ALL meets the hypotheses of its clause. -/
theorem witness_blob :
    (let d : Desc := (cmdN 16448); let p : Bytes := blob; let s : State := up; let r := carried 0x0502 d p s;
     let j : Job := r.1; let q : Bytes := r.2.1; let u : State := r.2.2; s.carriesOut 1282 d p j q u ∧
     List.length q = 16448 ∧ s.calBusy = false ∧ field q 0 1 = 1 ∧ zeroAt q 1 3 = true ∧ zeroAt q 28 32 = true ∧
     field q 60 4 = crc32 (List.take 60 q ++ zeros 4 ++ List.drop 64 q) ∧
     (∀ (n : Nat), n < 512 → calRecordOk q n = true) ∧ field q 4 12 = Config.dieId.toNat ∧
     field q 16 4 = s.rd CA_SEALCNT.COUNT) := by
  · dsimp only
    refine ⟨carried_ok (by decide +kernel) (by decide +kernel), ?_⟩
    rw [carried_payload]
    · exact ⟨length_blob, by decide +kernel, blob_head.1, blob_head.2.1, blob_head.2.2.1, blob_crc, blob_records,
        blob_head.2.2.2.1, blob_head.2.2.2.2⟩
    all_goals decide +kernel

/-- Data that meet the hypotheses of `CalibrationActs`, clause by clause. -/
theorem witness_CalibrationActs :
    (let d : Desc := (cmd [(24, 0xFFFF)]); let p : Bytes := ([]); let q : Bytes := ([]);
     let s : State := (up.wr CA_STAT.SEALOK 1); let r := carried 0x0500 d p s; let j : Job := r.1;
     let u : State := r.2.2;
     let ns : List Nat := List.flatMap (fun g => List.filter (fun n => !s.fenced n && (par j.cmd.d 26 1 == 1 || s.on CH_CALSTAT.DUE n)) (groupChannels g)) (bitList 16 (par j.cmd.d 24 2));
     s.carriesOut 1280 d [] j q u ∧ par j.cmd.d 26 1 ≤ 1 ∧ s.on CA_STAT.SEALOK = true ∧ ns = []) ∧
    (let d : Desc := (cmd [(24, 0x8000), (26, 1)]); let p : Bytes := ([]); let q : Bytes := ([]);
     let s : State := (up.wr CA_STAT.SEALOK 1); let r := carried 0x0500 d p s; let j : Job := r.1;
     let u : State := r.2.2;
     let ns : List Nat := List.flatMap (fun g => List.filter (fun n => !s.fenced n && (par j.cmd.d 26 1 == 1 || s.on CH_CALSTAT.DUE n)) (groupChannels g)) (bitList 16 (par j.cmd.d 24 2));
     s.carriesOut 1280 d [] j q u ∧ par j.cmd.d 26 1 ≤ 1 ∧ s.on CA_STAT.SEALOK = true ∧ ns ≠ []) ∧
    (let d : Desc := (cmdN 16448); let p : Bytes := ([]); let q : Bytes := ([]); let s : State := up;
     let r := carried 0x0501 d p s; let j : Job := r.1; let u : State := r.2.2; s.carriesOut 1281 d [] j q u ∧
     16448 ≤ j.cmd.d.length.toNat) ∧
    (let d : Desc := (cmdN 16448); let p : Bytes := blob; let s : State := up; let r := carried 0x0502 d p s;
     let j : Job := r.1; let q : Bytes := r.2.1; let u : State := r.2.2; s.carriesOut 1282 d p j q u ∧
     List.length q = 16448 ∧ s.calBusy = false ∧ field q 0 1 = 1 ∧ zeroAt q 1 3 = true ∧ zeroAt q 28 32 = true ∧
     field q 60 4 = crc32 (List.take 60 q ++ zeros 4 ++ List.drop 64 q) ∧
     (∀ (n : Nat), n < 512 → calRecordOk q n = true) ∧ field q 4 12 = Config.dieId.toNat ∧
     field q 16 4 = s.rd CA_SEALCNT.COUNT) ∧
    (let d : Desc := (cmdN 32); let p : Bytes := fixture2; let s : State := up; let r := carried 0x0506 d p s;
     let j : Job := r.1; let q : Bytes := r.2.1; let u : State := r.2.2; let k : Nat := field q 2 2;
     let chan : Nat → Nat := fun i => field q (16 + 8 * i) 2; s.carriesOut 1286 d p j q u ∧ 1 ≤ k ∧ k ≤ 512 ∧
     List.length q = 16 + 8 * k ∧ field q 0 1 = 1 ∧ field q 1 1 = 0 ∧ zeroAt q 4 12 = true ∧
     (List.map chan (List.range k)).Nodup ∧ (∀ (i : Nat), i < k → chan i < 512 ∧ s.running (chan i) = false ∧
     (sgn 16 (field q (18 + 8 * i) 2)).natAbs ≤ 4000 ∧ (sgn 16 (field q (20 + 8 * i) 2)).natAbs ≤ 4000 ∧
     field q (22 + 8 * i) 2 = 0)) ∧
    (let d : Desc := (cmd [(24, 64), (25, 32), (28, 1000)]); let s : State := up; let r := served 0x0503 d s;
     let c : Consumed := r.1; let u : State := r.2; s.serves 1283 d c u ∧ 1 ≤ par c.d 24 1 ∧ par c.d 24 1 ≤ 64 ∧
     1 ≤ par c.d 25 1 ∧ par c.d 25 1 ≤ 32 ∧ 10 ≤ par c.d 28 4 ∧ par c.d 28 4 ≤ 1000) ∧
    (let d : Desc := (cmd [(24, 1), (25, 1), (28, 10)]); let s : State := up; let r := served 0x0503 d s;
     let c : Consumed := r.1; let u : State := r.2; s.serves 1283 d c u ∧ 1 ≤ par c.d 24 1 ∧ par c.d 24 1 ≤ 64 ∧
     1 ≤ par c.d 25 1 ∧ par c.d 25 1 ≤ 32 ∧ 10 ≤ par c.d 28 4 ∧ par c.d 28 4 ≤ 1000) ∧
    (let g : Fin 16 := 15; let s : State := (calAt 15 {}); let n : Nat := s.rd CA_GRP.CHAN 0 ↑g; n < 512 ∧
     (∀ (w : RunWait), w ∈ s.cal.waiters → w.site < 64)) ∧
    (let g : Fin 16 := 15; let s : State := (calAt 15 { wanted := [511] }); let n : Nat := s.rd CA_GRP.CHAN 0 ↑g;
     let x : Nat := 511; let rest : List Nat := ([]); n < 512 ∧ (∀ (w : RunWait), w ∈ s.cal.waiters → w.site < 64) ∧
     s.on CA_STAT.SEALOK = true ∧ (s.calg ↑g).stage = 0 ∧ s.fenced (528 + ↑g / 4) = false ∧
     s.fenced (716 + ↑g) = false ∧ s.candidates ↑g = x :: rest ∧
     (∀ (y : Nat), y ∈ s.candidates ↑g → s.running y = false) ∧ s.heldBack (↑g) x = false) ∧
    (let g : Fin 16 := 15; let s : State := (calRunning { wanted := [511] }); let n : Nat := s.rd CA_GRP.CHAN 0 ↑g;
     let x : Nat := 511; let rest : List Nat := ([]); n < 512 ∧ (∀ (w : RunWait), w ∈ s.cal.waiters → w.site < 64) ∧
     s.on CA_STAT.SEALOK = true ∧ (s.calg ↑g).stage = 0 ∧ s.fenced (528 + ↑g / 4) = false ∧
     s.fenced (716 + ↑g) = false ∧ s.candidates ↑g = x :: rest ∧ s.running x = true ∧ s.mirrorTaken ↑g = false ∧
     (s.calg ↑g).deferred = []) ∧
    (let g : Fin 16 := 15; let s : State := (calAt 15 { stage := 1 }); let n : Nat := s.rd CA_GRP.CHAN 0 ↑g; n < 512 ∧
     (∀ (w : RunWait), w ∈ s.cal.waiters → w.site < 64) ∧ (s.calg ↑g).stage ≠ 0) ∧
    (let g : Fin 16 := 15; let s : State := (calAt 15 { stage := 4 }); let n : Nat := s.rd CA_GRP.CHAN 0 ↑g;
     let errors : List Int := ([4096, -4095]); let gain : Int := 2047;
     let target : Nat → Int := fun k => s.rdS CH_COR.TGT n k - divRound (errors.getD k 0 - s.tapOffset n k) 16;
     let queued : Prop := (s.calg ↑g).stage = 4 ∧ (s.refQueue (↑g / 4)).head? = some ↑g; n < 512 ∧
     (∀ (w : RunWait), w ∈ s.cal.waiters → w.site < 64) ∧ queued ∧ (∀ (k : Nat), k < 6 → -4096 ≤ target k ∧
     target k ≤ 4095) ∧ -2048 ≤ gain ∧ gain ≤ 2047) ∧
    (let g : Fin 16 := 15; let s : State := (calRunning { stage := 4, mirror := true });
     let n : Nat := s.rd CA_GRP.CHAN 0 ↑g; let errors : List Int := ([4096, -4095]); let gain : Int := (-2048);
     let target : Nat → Int := fun k => s.rdS CH_COR.TGT n k - divRound (errors.getD k 0 - s.tapOffset n k) 16;
     let queued : Prop := (s.calg ↑g).stage = 4 ∧ (s.refQueue (↑g / 4)).head? = some ↑g; n < 512 ∧
     (∀ (w : RunWait), w ∈ s.cal.waiters → w.site < 64) ∧ queued ∧ (∀ (k : Nat), k < 6 → -4096 ≤ target k ∧
     target k ≤ 4095) ∧ -2048 ≤ gain ∧ gain ≤ 2047) ∧
    (let g : Fin 16 := 15; let s : State := (calAt 15 {}); let n : Nat := s.rd CA_GRP.CHAN 0 ↑g;
     let queued : Prop := (s.calg ↑g).stage = 4 ∧ (s.refQueue (↑g / 4)).head? = some ↑g; n < 512 ∧
     (∀ (w : RunWait), w ∈ s.cal.waiters → w.site < 64) ∧ (¬queued)) ∧
    (let g : Fin 16 := 15; let s : State := (calAt 15 { stage := 1, mirror := true });
     let n : Nat := s.rd CA_GRP.CHAN 0 ↑g; n < 512 ∧ (∀ (w : RunWait), w ∈ s.cal.waiters → w.site < 64) ∧
     (s.calg ↑g).stage = 1) ∧
    (let g : Fin 16 := 15; let s : State := (calAt 15 { stage := 5, mirror := true });
     let n : Nat := s.rd CA_GRP.CHAN 0 ↑g; n < 512 ∧ (∀ (w : RunWait), w ∈ s.cal.waiters → w.site < 64) ∧
     (s.calg ↑g).stage = 5) ∧
    (let g : Fin 16 := 15; let s : State := (calAt 15 {}); let n : Nat := s.rd CA_GRP.CHAN 0 ↑g; n < 512 ∧
     (∀ (w : RunWait), w ∈ s.cal.waiters → w.site < 64) ∧ (s.calg ↑g).stage ≠ 1 ∧ (s.calg ↑g).stage ≠ 5) ∧
    (let g : Fin 16 := 15; let s : State := (calAt 15 { stage := 2, mirror := true });
     let n : Nat := s.rd CA_GRP.CHAN 0 ↑g; n < 512 ∧ (∀ (w : RunWait), w ∈ s.cal.waiters → w.site < 64) ∧
     (s.calg ↑g).stage = 2 ∧ s.rd CH_MSTAT.MODE ↑g = 0) ∧
    (let g : Fin 16 := 15; let s : State := (calAt 15 { stage := 6, mirror := true });
     let n : Nat := s.rd CA_GRP.CHAN 0 ↑g; n < 512 ∧ (∀ (w : RunWait), w ∈ s.cal.waiters → w.site < 64) ∧
     (s.calg ↑g).stage = 6 ∧ (s.calg ↑g).back = false) ∧
    (let g : Fin 16 := 15;
     let s : State := ((calRunning { stage := 2, mirror := true, cycles := 64 }).wr CH_MSTAT.MODE 1 15);
     let n : Nat := s.rd CA_GRP.CHAN 0 ↑g; let offsets : List Int := ([-4096, 4095]);
     let fit : Prop := (s.calg ↑g).stage = 2 ∧ s.rd CH_MSTAT.MODE ↑g = 1 ∧ s.shadowed ↑g = true; n < 512 ∧
     (∀ (w : RunWait), w ∈ s.cal.waiters → w.site < 64) ∧ fit ∧ (∀ (k : Nat), k < 4 → -4096 ≤ offsets.getD k 0 ∧
     offsets.getD k 0 ≤ 4095)) ∧
    (let g : Fin 16 := 15; let s : State := ((calAt 15 {})); let n : Nat := s.rd CA_GRP.CHAN 0 ↑g;
     let fit : Prop := (s.calg ↑g).stage = 2 ∧ s.rd CH_MSTAT.MODE ↑g = 1 ∧ s.shadowed ↑g = true; n < 512 ∧
     (∀ (w : RunWait), w ∈ s.cal.waiters → w.site < 64) ∧ (¬fit)) ∧
    (let g : Fin 16 := 15; let s : State := (calAt 15 { stage := 3, mirror := true });
     let n : Nat := s.rd CA_GRP.CHAN 0 ↑g; n < 512 ∧ (∀ (w : RunWait), w ∈ s.cal.waiters → w.site < 64) ∧
     (s.calg ↑g).stage = 3 ∧ s.eligible n = true ∧ s.heldBack (↑g) n = false) ∧
    (let g : Fin 16 := 15; let s : State := (calRunning { stage := 3, mirror := true });
     let n : Nat := s.rd CA_GRP.CHAN 0 ↑g; n < 512 ∧ (∀ (w : RunWait), w ∈ s.cal.waiters → w.site < 64) ∧
     (s.calg ↑g).stage = 3 ∧ s.eligible n = true ∧ s.heldBack (↑g) n = false) ∧
    (let g : Fin 16 := 15; let s : State := (playedJust { stage := 3, mirror := true });
     let n : Nat := s.rd CA_GRP.CHAN 0 ↑g; n < 512 ∧ (∀ (w : RunWait), w ∈ s.cal.waiters → w.site < 64) ∧
     (s.calg ↑g).stage = 3 ∧ s.eligible n = false ∧ s.heldBack (↑g) n = false) ∧
    (let g : Fin 16 := 15; let s : State := (calAt 15 { stage := 3, mirror := true });
     let n : Nat := s.rd CA_GRP.CHAN 0 ↑g; n < 512 ∧ (∀ (w : RunWait), w ∈ s.cal.waiters → w.site < 64) ∧
     (s.calg ↑g).stage = 3) ∧
    (let g : Fin 16 := 15; let s : State := (calAt 15 {}); let n : Nat := s.rd CA_GRP.CHAN 0 ↑g; n < 512 ∧
     (∀ (w : RunWait), w ∈ s.cal.waiters → w.site < 64) ∧ (s.calg ↑g).stage ≠ 3) ∧
    (let g : Fin 16 := 15; let s : State := (calAt 15 { stage := 6, mirror := true, back := true, cycles := 64 });
     let n : Nat := s.rd CA_GRP.CHAN 0 ↑g; let fit : Prop := (s.calg ↑g).stage = 6 ∧ s.shadowed ↑g = true ∧
     ((s.calg ↑g).back = true ∨ s.running n = false) ∧ s.eligible n = true; n < 512 ∧
     (∀ (w : RunWait), w ∈ s.cal.waiters → w.site < 64) ∧ fit ∧ (s.calg ↑g).release = false) ∧
    (let g : Fin 16 := 15; let s : State := (calAt 15 {}); let n : Nat := s.rd CA_GRP.CHAN 0 ↑g;
     let fit : Prop := (s.calg ↑g).stage = 6 ∧ s.shadowed ↑g = true ∧
     ((s.calg ↑g).back = true ∨ s.running n = false) ∧ s.eligible n = true; n < 512 ∧
     (∀ (w : RunWait), w ∈ s.cal.waiters → w.site < 64) ∧ (¬fit)) ∧
    (let g : Fin 16 := 15; let s : State := ((calAt 15 { stage := 6, mirror := true }).wr CH_COR.TGT 100 3 2);
     let n : Nat := s.rd CA_GRP.CHAN 0 ↑g; n < 512 ∧ (∀ (w : RunWait), w ∈ s.cal.waiters → w.site < 64)) ∧
    (let g : Fin 16 := 15; let s : State := ({ calAt 15 {} with cal := { up.cal with goal := [(0, 3), (159, -3)] } });
     let n : Nat := s.rd CA_GRP.CHAN 0 ↑g; n < 512 ∧ (∀ (w : RunWait), w ∈ s.cal.waiters → w.site < 64)) := by
  refine ⟨?_, ?_, ?_, witness_blob, ?_, ?_, ?_, ?_, ?_, ?_, ?_, ?_, ?_, ?_, ?_, ?_, ?_, ?_, ?_, ?_, ?_, ?_, ?_, ?_, ?_, ?_, ?_, ?_, ?_, ?_⟩ <;> decide +kernel

/-- Data that meet the hypotheses of `LoupeActs`, clause by clause. -/
theorem witness_LoupeActs :
    (let d : Desc := (cmdN 66); let p : Bytes := (lpConfig 0); let s : State := up; let r := carried 0x0402 d p s;
     let j : Job := r.1; let q : Bytes := r.2.1; let u : State := r.2.2; let x : LoupeCfg := loupeCfg q;
     s.carriesOut 1026 d p j q u ∧ s.loupeActive = false ∧ loupeFormatOk q (List.length q) = true ∧
     s.gated 16 = false ∧ (x.pre * x.slot ≤ if x.extents = [] then 33554432 / x.nseg else 16777216) ∧
     (List.map (fun x => x.snd) x.extents).sum ≤ 17179869184 ∧ overlapping x.extents = false ∧
     (∀ (e : Nat × Nat), e ∈ x.extents → s.allocated e.fst e.snd = true)) ∧
    (let d : Desc := (cmdN 66); let p : Bytes := (lpConfig 1); let s : State := up; let r := carried 0x0402 d p s;
     let j : Job := r.1; let q : Bytes := r.2.1; let u : State := r.2.2; let x : LoupeCfg := loupeCfg q;
     s.carriesOut 1026 d p j q u ∧ s.loupeActive = false ∧ loupeFormatOk q (List.length q) = true ∧
     s.gated 16 = false ∧ (x.pre * x.slot ≤ if x.extents = [] then 33554432 / x.nseg else 16777216) ∧
     (List.map (fun x => x.snd) x.extents).sum ≤ 17179869184 ∧ overlapping x.extents = false ∧
     (∀ (e : Nat × Nat), e ∈ x.extents → s.allocated e.fst e.snd = true)) ∧
    (let d : Desc := cmd; let s : State := (lpIn 1 0); let cfg : LoupeCfg := s.loupe.cfg; let r := served 0x0403 d s;
     let c : Consumed := r.1; let u : State := r.2; s.serves 1027 d c u ∧ s.rd LP_STAT.STATE ≠ 0 ∧
     s.loupeActive = false ∧ s.gated 16 = false ∧
     ((cfg.pre + cfg.post) * cfg.slot ≤ if cfg.extents = [] then 33554432 / cfg.nseg else 33554432 + (List.map (fun x => x.snd) cfg.extents).sum) ∧
     (∀ (n : Nat), n ∈ cfg.claims → n < 512 ∧ s.unserved n = false ∧ s.rd CH_TIASTAT.OWNER (s.tiaUnit n) = 0)) ∧
    (let d : Desc := cmd; let s : State := (lpIn 4 1); let cfg : LoupeCfg := s.loupe.cfg; let r := served 0x0403 d s;
     let c : Consumed := r.1; let u : State := r.2; s.serves 1027 d c u ∧ s.rd LP_STAT.STATE ≠ 0 ∧
     s.loupeActive = false ∧ s.gated 16 = false ∧
     ((cfg.pre + cfg.post) * cfg.slot ≤ if cfg.extents = [] then 33554432 / cfg.nseg else 33554432 + (List.map (fun x => x.snd) cfg.extents).sum) ∧
     (∀ (n : Nat), n ∈ cfg.claims → n < 512 ∧ s.unserved n = false ∧ s.rd CH_TIASTAT.OWNER (s.tiaUnit n) = 0)) ∧
    (let d : Desc := cmd; let s : State := (lpArmed 60); let k : Nat := s.rd LP_STAT.SEG;
     let cfg : LoupeCfg := s.loupe.cfg; let armedAt : Nat → Prop := (fun x => s.rd LP_STAT.STATE = 2 ∧
     s.loupe.armT * 4096 ≤ x ∧ s.loupe.rearmAt * 4096 ≤ x ∧ s.inRearm x = false ∧
     (List.map cfg.counts (splitUnits cfg.div x (s.segment k).pre).snd).sum < cfg.post); let r := served 0x0404 d s;
     let c : Consumed := r.1; let u : State := r.2; s.serves 1028 d c u ∧ armedAt (s.tt * 4096)) ∧
    (let d : Desc := cmd; let s : State := (lpArmed 60); let r := served 0x0405 d s; let c : Consumed := r.1;
     let u : State := r.2; s.serves 1029 d c u ∧ s.loupeActive = true) ∧
    (let d : Desc := cmd; let s : State := (lpIn 3 0); let r := served 0x0405 d s; let c : Consumed := r.1;
     let u : State := r.2; s.serves 1029 d c u ∧ s.loupeActive = true) ∧
    (let d : Desc := cmd; let s : State := lpDone; let r := served 0x0405 d s; let c : Consumed := r.1;
     let u : State := r.2; s.serves 1029 d c u ∧ s.loupeActive = false) ∧
    (let d : Desc := (cmdN 8); let p : Bytes := ([]); let q : Bytes := ([]); let s : State := lpDone;
     let r := carried 0x0406 d p s; let j : Job := r.1; let u : State := r.2.2; let off : Nat := par j.cmd.d 24 8;
     let n : Nat := min j.cmd.d.length.toNat (u.ilen - off); s.carriesOut 1030 d [] j q u ∧ s.rd LP_STAT.STATE ≠ 0 ∧
     off < u.ilen ∧ u.unreadable off n = false) ∧
    (let s : State := (lpArmed 60); let cfg : LoupeCfg := s.loupe.cfg; let seg : Fin 64 := 0; let go : Bool := true;
     let fit : Prop := (go = true ∧ s.loupeActive = true ∧ ↑seg < cfg.nseg ∧ s.loupe.jump = none); fit) ∧
    (let s : State := (lpArmed 60); let cfg : LoupeCfg := s.loupe.cfg; let seg : Fin 64 := 1; let go : Bool := true;
     let fit : Prop := (go = true ∧ s.loupeActive = true ∧ ↑seg < cfg.nseg ∧ s.loupe.jump = none); ¬fit) ∧
    (let s : State := up; s.loupeActive = false) ∧
    (let s : State := (lpArmed 60); let k : Nat := s.rd LP_STAT.SEG; let cfg : LoupeCfg := s.loupe.cfg;
     let x : BitVec 64 := 1000; let at_ : Nat := x.toNat * 4096 + fracOfHalfSteps (2 * cfg.soff);
     s.rd LP_STAT.STATE = 2 ∧ (s.segment k).st = 1 ∧ cfg.mode = 0 ∧ cfg.comp = false ∧ s.loupe.jump = none ∧
     x.toNat % max 1 cfg.div = 0 ∧ (∀ (l : LUnit), (s.segment k).pre.getLast? = some l → LUnit.till cfg.div l ≤ at_)) ∧
    (let s : State := lpHeld; let cfg : LoupeCfg := s.loupe.cfg; let n : Fin 512 := 511; let low : Bool := true;
     let x : BitVec 64 := 1000; s.loupeActive = true ∧ cfg.mode = 1 ∧ cfg.signals.contains (2 * ↑n + b2n low) = true ∧
     s.loupe.held.contains (s.tiaUnit ↑n) = true ∧ s.fenced (s.tiaUnit ↑n) = false ∧
     s.rd CH_TIASTAT.OWNER (s.tiaUnit ↑n) = 2 ∧ 2 ≤ x.toNat ∧ Tab.find s.loupe.lastEdge (2 * ↑n + b2n low) = none ∧
     0 ∈ (s.tia (s.tiaUnit ↑n)).busy ∧ List.countP (fun r => groupOf (r.kind / 2) == groupOf ↑n) s.loupe.buf < 64) ∧
    (let s : State := (lpHeld.wr CH_TIASTAT.OWNER 3 511); let cfg : LoupeCfg := s.loupe.cfg; let n : Fin 512 := 511;
     let low : Bool := true; s.loupeActive = true ∧ cfg.mode = 1 ∧ cfg.signals.contains (2 * ↑n + b2n low) = true ∧
     s.loupe.held.contains (s.tiaUnit ↑n) = true ∧
     (s.fenced (s.tiaUnit ↑n) = true ∨ s.rd CH_TIASTAT.OWNER (s.tiaUnit ↑n) ≠ 2)) ∧
    (let s : State := lpTriggered; let k : Nat := s.rd LP_STAT.SEG; let cfg : LoupeCfg := s.loupe.cfg;
     let armedAt : Nat → Prop := (fun x => s.rd LP_STAT.STATE = 2 ∧ s.loupe.armT * 4096 ≤ x ∧
     s.loupe.rearmAt * 4096 ≤ x ∧ s.inRearm x = false ∧
     (List.map cfg.counts (splitUnits cfg.div x (s.segment k).pre).snd).sum < cfg.post); let g : PzTrigger := trig640;
     let ps : List PzTrigger := ([]); s.prism.trigs = g :: ps ∧ g.ring = false ∧ armedAt g.time) ∧
    (let s : State := ({ lpTriggered with loupe := { lpTriggered.loupe with rearms := [60] } });
     let g : PzTrigger := trig640; let ps : List PzTrigger := ([]); s.prism.trigs = g :: ps ∧ g.ring = false ∧
     s.loupeActive = true ∧ s.loupe.armT * 4096 ≤ g.time ∧ s.inRearm g.time = true) ∧
    (let s : State := (lpArmed 60); s.prism.trigs = []) ∧
    (let s : State := ((lpArmed 60).wr LP_STAT.REARM 1); s.on LP_STAT.REARM = true) ∧
    (let s : State := (lpArmed 60); s.on LP_STAT.REARM = false) ∧
    (let s : State := lpSpill; let cfg : LoupeCfg := s.loupe.cfg; let i : Nat := 1; 65536 ≤ s.fifoBytes ∧
     cfg.extents ≠ [] ∧
     List.find? (fun i => decide (s.loupe.filled.getD i 0 < (cfg.extents.getD i (0, 0)).snd)) (List.map (fun i => (s.loupe.nextExtent + i) % cfg.extents.length) (List.range cfg.extents.length)) = some i) ∧
    (let s : State := (lpArmed 60); s.fifoBytes = 0) := by
  refine ⟨?_, ?_, ?_, ?_, ?_, ?_, ?_, ?_, ?_, ?_, ?_, ?_, ?_, ?_, ?_, ?_, ?_, ?_, ?_, ?_, ?_, ?_⟩ <;> decide +kernel

/-- Data that meet the hypotheses of `PrismActs`, clause by clause. -/
theorem witness_PrismActs :
    (let d : Desc := (cmdN 1584); let p : Bytes := pzProg; let s : State := up; let r := carried 0x0407 d p s;
     let j : Job := r.1; let q : Bytes := r.2.1; let u : State := r.2.2; s.carriesOut 1031 d p j q u ∧
     s.pzRunning = false ∧ prismOk q = true ∧ s.gated 17 = false) ∧
    (let s : State := (pzIn 1); let fit : Prop := (s.rd PZ_STAT.STATE = 1 ∨ s.rd PZ_STAT.STATE = 3) ∧
     s.pzLinked = false; fit) ∧
    (let s : State := (pzIn 3); let fit : Prop := (s.rd PZ_STAT.STATE = 1 ∨ s.rd PZ_STAT.STATE = 3) ∧
     s.pzLinked = false; fit) ∧
    (let s : State := up; let fit : Prop := (s.rd PZ_STAT.STATE = 1 ∨ s.rd PZ_STAT.STATE = 3) ∧ s.pzLinked = false;
     ¬fit) ∧
    (let s : State := (pzIn 2); s.pzRunning = true) ∧
    (let s : State := (pzIn 1); s.pzRunning = false) ∧
    (let s : State := ((pzIn 2).wr PZ_STAT.LEVEL 15); s.pzRunning = true) ∧
    (let s : State := ({ pzIn 2 with prism := { (pzIn 2).prism with restart := [5] } }); s.pzRunning = true) ∧
    (let s : State := ({ pzIn 2 with prism := { (pzIn 2).prism with stopAt := some 5 } }); s.pzRunning = true) ∧
    (let s : State := (pzIn 2); let e : Fin 4 := 3; let low : Bool := true; let rising : Bool := true;
     s.pzRunning = true ∧ s.prism.ec (↑e) 0 1 = 1 ∧ (s.prism.ec (↑e) 2 1 == 1) = low ∧
     (s.prism.ec (↑e) 1 1 = 2 ∨ (s.prism.ec (↑e) 1 1 == 1) = !rising) ∧ (Tab.get { } s.prism.ecs ↑e).last = none ∧
     (Tab.get { } s.prism.ecs ↑e).lastEvent = none) ∧
    (let s : State := (pzIn 2); let e : Fin 4 := 3; let low : Bool := true; let rising : Bool := false;
     s.pzRunning = true ∧ s.prism.ec (↑e) 0 1 = 1 ∧ (s.prism.ec (↑e) 2 1 == 1) = low ∧
     (s.prism.ec (↑e) 1 1 = 2 ∨ (s.prism.ec (↑e) 1 1 == 1) = !rising) ∧ (Tab.get { } s.prism.ecs ↑e).last = none ∧
     (Tab.get { } s.prism.ecs ↑e).lastEvent = none) ∧
    (let s : State := ({ pzIn 2 with prism := { (pzIn 2).prism with ecs := [(3, { last := some 81920 })] } });
     let e : Fin 4 := 3; let x : BitVec 64 := 22; let f : BitVec 12 := 0; let l : Nat := 81920; s.pzRunning = true ∧
     s.prism.ec (↑e) 0 1 = 1 ∧ (Tab.get { } s.prism.ecs ↑e).last = some l ∧ x.toNat * 4096 + f.toNat ≤ l + 8192) ∧
    (let s : State := (pzEnd 11); let o : Fin 12 := 11; let x : Nat := 60; Tab.find s.prism.ends ↑o = some x) ∧
    (let s : State := (pzEnd 0); let o : Fin 12 := 0; let x : Nat := 60; Tab.find s.prism.ends ↑o = some x) ∧
    (let s : State := (pzEnd 0); let o : Fin 12 := 1; Tab.find s.prism.ends ↑o = none) ∧
    (let s : State := ({ pzAuto with prism := { pzAuto.prism with aligned := 61 } }); let a : Nat := s.prism.aligned;
     let x : Nat := 60; s.prism.autoEnd = some x ∧ s.pzRunning = true ∧ s.rd LP_STAT.STATE = 2 ∧ x < a) ∧
    (let s : State := pzAuto; let a : Nat := s.prism.aligned; let x : Nat := 60; s.prism.autoEnd = some x ∧
     s.pzRunning = true ∧ s.rd LP_STAT.STATE = 2 ∧ a ≤ x) ∧
    (let s : State := (pzIn 2); s.prism.autoEnd = none) := by
  refine ⟨?_, ?_, ?_, ?_, ?_, ?_, ?_, ?_, ?_, ?_, ?_, ?_, ?_, ?_, ?_, ?_, ?_, ?_⟩ <;> decide +kernel

/-- Data that meet the hypotheses of `RingCommandsAndFramesAct`, clause by clause. -/
theorem witness_RingCommandsAndFramesAct :
    (let d : Desc := (cmd [(25, 64), (26, 1), (28, 2000)]); let s : State := ringed; let r := served 0x0900 d s;
     let c : Consumed := r.1; let u : State := r.2; s.serves 2304 d c u ∧ par c.d 24 1 = 0 ∧ 1 ≤ par c.d 25 1 ∧
     par c.d 25 1 ≤ 64 ∧ par c.d 26 1 ≤ 1 ∧ par c.d 27 1 = 0 ∧ (sgn 16 (par c.d 28 2)).natAbs ≤ 2000 ∧
     par c.d 30 34 = 0 ∧ (∀ (i : Nat), i < 64 → s.rd SQ_STATE.CHIPS i < 2) ∧ s.ring.collate = none) ∧
    (let d : Desc := (cmd [(25, 1), (28, 63536)]); let s : State := ringed; let r := served 0x0900 d s;
     let c : Consumed := r.1; let u : State := r.2; s.serves 2304 d c u ∧ par c.d 24 1 = 0 ∧ 1 ≤ par c.d 25 1 ∧
     par c.d 25 1 ≤ 64 ∧ par c.d 26 1 ≤ 1 ∧ par c.d 27 1 = 0 ∧ (sgn 16 (par c.d 28 2)).natAbs ≤ 2000 ∧
     par c.d 30 34 = 0 ∧ (∀ (i : Nat), i < 64 → s.rd SQ_STATE.CHIPS i < 2) ∧ s.ring.collate = none) ∧
    (let d : Desc := (cmd ringEntries); let s : State := ringed; let r := served 0x0900 d s; let c : Consumed := r.1;
     let u : State := r.2; s.serves 2304 d c u ∧ par c.d 24 1 = 1 ∧ par c.d 25 7 = 0 ∧
     (∀ (i : Nat), i < 4 → entryOk c.d i = true) ∧
     (∀ (i : Nat), i < 4 → ∀ (e : Nat × XSite), siteEntry c.d i = some e → s.site e.fst = stUnbound) ∧
     linkVotes (newEntries s.ring.entries c.d) true ≤ 64 ∧ linkVotes (newEntries s.ring.entries c.d) false ≤ 64 ∧
     List.length (newEntries s.ring.entries c.d) ≤ 16) ∧
    (let d : Desc := (cmd [(24, 2)]); let s : State := ringed; let r := served 0x0900 d s; let c : Consumed := r.1;
     let u : State := r.2; s.serves 2304 d c u ∧ par c.d 24 1 = 2 ∧ par c.d 25 39 = 0) ∧
    (let d : Desc := (cmd [(24, 2)]); let s : State := up; let r := served 0x0900 d s; let c : Consumed := r.1;
     let u : State := r.2; s.serves 2304 d c u ∧ par c.d 24 1 = 2 ∧ par c.d 25 39 = 0) ∧
    (let d : Desc := (cmd [(24, 1), (25, 1)]); let s : State := ringed; let r := served 0x0901 d s;
     let c : Consumed := r.1; let u : State := r.2; s.serves 2305 d c u ∧ par c.d 25 1 ≤ 1 ∧ par c.d 26 38 = 0 ∧
     par c.d 24 1 = 1) ∧
    (let d : Desc := (cmd [(25, 1)]); let s : State := ringed; let r := served 0x0901 d s; let c : Consumed := r.1;
     let u : State := r.2; s.serves 2305 d c u ∧ par c.d 25 1 ≤ 1 ∧ par c.d 26 38 = 0 ∧ par c.d 24 1 = 0 ∧
     s.chipBusy = false) ∧
    (let d : Desc := (cmdN 96); let p : Bytes := ([]); let q : Bytes := ([]); let s : State := ringed0;
     let r := carried 0x0902 d p s; let j : Job := r.1; let u : State := r.2.2; s.carriesOut 2306 d [] j q u ∧
     s.me = 0 ∧ s.ringUp = true ∧ s.on SY_STAT.WRAP = false ∧ s.ring.collate = none ∧
     32 + 16 * s.rd SY_CFG.N ≤ j.cmd.d.length.toNat) ∧
    (let d : Desc := (cmd [(24, 65536)]); let p : Bytes := ([]); let q : Bytes := ([]); let s : State := ringed;
     let r := carried 0x0903 d p s; let j : Job := r.1; let u : State := r.2.2; s.carriesOut 2307 d [] j q u ∧
     1 ≤ par j.cmd.d 24 4 ∧ par j.cmd.d 24 4 ≤ 65536 ∧ s.ringUp = true) ∧
    (let d : Desc := (cmdN 49 [(24, 32000000000)]); let p : Bytes := (zeros 49); let s : State := ringed;
     let r := carried 0x0904 d p s; let j : Job := r.1; let q : Bytes := r.2.1; let u : State := r.2.2;
     s.carriesOut 2308 d p j q u ∧ j.cmd.d.length.toNat ≤ 49 ∧ s.tt + 6400 ≤ par j.cmd.d 24 8 ∧
     par j.cmd.d 24 8 ≤ s.tt + 32000000000 ∧ s.ring.timed.length < 8 ∧ s.ringUp = true) ∧
    (let d : Desc := (cmdN 49 [(24, 6400)]); let p : Bytes := (zeros 49); let s : State := ringed;
     let r := carried 0x0904 d p s; let j : Job := r.1; let q : Bytes := r.2.1; let u : State := r.2.2;
     s.carriesOut 2308 d p j q u ∧ j.cmd.d.length.toNat ≤ 49 ∧ s.tt + 6400 ≤ par j.cmd.d 24 8 ∧
     par j.cmd.d 24 8 ≤ s.tt + 32000000000 ∧ s.ring.timed.length < 8 ∧ s.ringUp = true) ∧
    (let d : Desc := (cmdN 6208); let p : Bytes := ([]); let q : Bytes := ([]);
     let s : State := (ringWith { image := some (zeros 16) }); let img : Bytes := (zeros 16);
     let r := carried 0x0905 d p s; let j : Job := r.1; let u : State := r.2.2; s.carriesOut 2309 d [] j q u ∧
     6208 ≤ j.cmd.d.length.toNat ∧ par j.cmd.d 24 8 = 0 ∧ s.ring.image = some img) ∧
    (let d : Desc := (cmdN 6208 [(24, 32000000000)]); let p : Bytes := ([]); let q : Bytes := ([]);
     let s : State := ringed; let r := carried 0x0905 d p s; let j : Job := r.1; let u : State := r.2.2;
     s.carriesOut 2309 d [] j q u ∧ 6208 ≤ j.cmd.d.length.toNat ∧ par j.cmd.d 24 8 ≠ 0 ∧
     s.tt + s.returnTime ≤ par j.cmd.d 24 8 ∧ par j.cmd.d 24 8 ≤ s.tt + 32000000000 ∧
     (s.rd SY_CFG.N ≤ 1 ∨ s.on SY_STAT.RINGUP = true) ∧ s.ring.snap = none) ∧
    (let set : BitVec 4 := 3; let clr : BitVec 4 := 12; set &&& clr = 0) ∧
    (let set : BitVec 4 := 3; let clr : BitVec 4 := 6; set &&& clr ≠ 0) ∧
    (let s : State := (ringWith { inbox := [[1]], inboxHead := 7 }); let e : Bytes := ([1]);
     let rest : List Bytes := ([]); s.ring.inbox = e :: rest) ∧
    (let s : State := ringed; s.ring.inbox = []) ∧
    (let s : State := ({ ringed with tt := 1000, clk := { ringed.clk with syncPhase := 511 } });
     s.clk.syncPhase < 512) ∧
    (let s : State := ringed0; let fit : Prop := (s.onRing = true ∧ s.me = 0); fit) ∧
    (let s : State := ringed; let fit : Prop := (s.onRing = true ∧ s.me = 0); ¬fit) ∧
    (let s : State := (ringWith { discover := some 9 }); let x : Nat := 9; s.ring.discover = some x) ∧
    (let s : State := ringed; s.ring.discover = none) ∧
    (let s : State := (resent 2); let idx : Nat := 0; let f : RingSent := (⟨3, [1], 9, 2, []⟩);
     s.ring.sent[idx]? = some f ∧ resendable f.type = true ∧ f.resends < 3) ∧
    (let s : State := (resent 3); let idx : Nat := 0; let f : RingSent := (⟨3, [1], 9, 3, []⟩);
     s.ring.sent[idx]? = some f ∧ resendable f.type = true ∧ 3 ≤ f.resends) ∧
    (let s : State := (ringWith { sent := [⟨9, [1], 9, 0, []⟩] }); let idx : Nat := 0;
     let f : RingSent := (⟨9, [1], 9, 0, []⟩); s.ring.sent[idx]? = some f ∧ resendable f.type = false) ∧
    (let s : State := ringed; let idx : Nat := 0; s.ring.sent[idx]? = none) ∧
    (let h : RingHead := ({}); let s : State := up; let f : Discover := disc0; let w : Bool := false;
     let b : Fin 129 := 128; let time : BitVec 56 := 5; let frac : BitVec 12 := 7; let set : BitVec 4 := 1;
     let clr : BitVec 4 := 2; let site : Fin 64 := 63; let again : Option (BitVec 56) := (some 5);
     let frames : List (Instr × Nat × Bytes) := [(Instr.discover h f.n f.hops f.ids f.lo f.hi w, 1, discoverPayload f), (Instr.gather h b, 2, barPayload ↑b), (Instr.release h b time, 3, releasePayload (↑b) time.toNat), (Instr.flags h set clr time, 4, flagsPayload set.toNat clr.toNat time.toNat), (Instr.trigger h time frac, 5, triggerPayload (time.toNat * 4096 + frac.toNat)), (Instr.snapshotFrame h time, 6, ringTime time.toNat), (Instr.reset h again, 7, resetPayload (Option.map BitVec.toNat again)), (Instr.leave h site, 8, ringWord (toLe 1 ↑site))];
     let x : Instr × Nat × Bytes := (.leave {} 63, 8, ringWord (toLe 1 63)); s.onRing = false ∧ x ∈ frames) ∧
    (let h : RingHead := ({}); let s : State := up; let f : Discover := disc0; let w : Bool := false;
     let b : Fin 129 := 128; let time : BitVec 56 := 5; let frac : BitVec 12 := 7; let set : BitVec 4 := 1;
     let clr : BitVec 4 := 2; let site : Fin 64 := 63; let again : Option (BitVec 56) := (some 5);
     let frames : List (Instr × Nat × Bytes) := [(Instr.discover h f.n f.hops f.ids f.lo f.hi w, 1, discoverPayload f), (Instr.gather h b, 2, barPayload ↑b), (Instr.release h b time, 3, releasePayload (↑b) time.toNat), (Instr.flags h set clr time, 4, flagsPayload set.toNat clr.toNat time.toNat), (Instr.trigger h time frac, 5, triggerPayload (time.toNat * 4096 + frac.toNat)), (Instr.snapshotFrame h time, 6, ringTime time.toNat), (Instr.reset h again, 7, resetPayload (Option.map BitVec.toNat again)), (Instr.leave h site, 8, ringWord (toLe 1 ↑site))];
     let x : Instr × Nat × Bytes := (.discover {} 4 1 [0] 2 2 false, 1, discoverPayload disc0); s.onRing = false ∧
     x ∈ frames) ∧
    (let h : RingHead := ({}); let s : State := ringed; let f : Discover := disc0; let w : Bool := false;
     let b : Fin 129 := 128; let time : BitVec 56 := 5; let frac : BitVec 12 := 7; let set : BitVec 4 := 1;
     let clr : BitVec 4 := 2; let site : Fin 64 := 63; let again : Option (BitVec 56) := (some 5);
     let frames : List (Instr × Nat × Bytes) := [(Instr.discover h f.n f.hops f.ids f.lo f.hi w, 1, discoverPayload f), (Instr.gather h b, 2, barPayload ↑b), (Instr.release h b time, 3, releasePayload (↑b) time.toNat), (Instr.flags h set clr time, 4, flagsPayload set.toNat clr.toNat time.toNat), (Instr.trigger h time frac, 5, triggerPayload (time.toNat * 4096 + frac.toNat)), (Instr.snapshotFrame h time, 6, ringTime time.toNat), (Instr.reset h again, 7, resetPayload (Option.map BitVec.toNat again)), (Instr.leave h site, 8, ringWord (toLe 1 ↑site))];
     let x : Instr × Nat × Bytes := (.leave {} 63, 8, ringWord (toLe 1 63)); s.onRing = true ∧ x ∈ frames ∧
     headIntact h x.snd.fst x.snd.snd = false) ∧
    (let h : RingHead := ({}); let s : State := ringed; let f : Discover := disc0; let w : Bool := false;
     let b : Fin 129 := 128; let time : BitVec 56 := 5; let frac : BitVec 12 := 7; let set : BitVec 4 := 1;
     let clr : BitVec 4 := 2; let site : Fin 64 := 63; let again : Option (BitVec 56) := (some 5);
     let frames : List (Instr × Nat × Bytes) := [(Instr.discover h f.n f.hops f.ids f.lo f.hi w, 1, discoverPayload f), (Instr.gather h b, 2, barPayload ↑b), (Instr.release h b time, 3, releasePayload (↑b) time.toNat), (Instr.flags h set clr time, 4, flagsPayload set.toNat clr.toNat time.toNat), (Instr.trigger h time frac, 5, triggerPayload (time.toNat * 4096 + frac.toNat)), (Instr.snapshotFrame h time, 6, ringTime time.toNat), (Instr.reset h again, 7, resetPayload (Option.map BitVec.toNat again)), (Instr.leave h site, 8, ringWord (toLe 1 ↑site))];
     let x : Instr × Nat × Bytes := (.trigger {} 5 7, 5, triggerPayload (5 * 4096 + 7)); s.onRing = true ∧
     x ∈ frames ∧ headIntact h x.snd.fst x.snd.snd = false) ∧
    (let h : RingHead := (from_ 1 8 (ringWord (toLe 1 63)));
     let s : State := (ringWith { sent := [⟨8, ringWord (toLe 1 63), 9, 0, []⟩] }); let f : Discover := disc0;
     let w : Bool := false; let b : Fin 129 := 128; let time : BitVec 56 := 5; let frac : BitVec 12 := 7;
     let set : BitVec 4 := 1; let clr : BitVec 4 := 2; let site : Fin 64 := 63;
     let again : Option (BitVec 56) := (some 5);
     let frames : List (Instr × Nat × Bytes) := [(Instr.discover h f.n f.hops f.ids f.lo f.hi w, 1, discoverPayload f), (Instr.gather h b, 2, barPayload ↑b), (Instr.release h b time, 3, releasePayload (↑b) time.toNat), (Instr.flags h set clr time, 4, flagsPayload set.toNat clr.toNat time.toNat), (Instr.trigger h time frac, 5, triggerPayload (time.toNat * 4096 + frac.toNat)), (Instr.snapshotFrame h time, 6, ringTime time.toNat), (Instr.reset h again, 7, resetPayload (Option.map BitVec.toNat again)), (Instr.leave h site, 8, ringWord (toLe 1 ↑site))];
     let x : Instr × Nat × Bytes := (.leave (from_ 1 8 (ringWord (toLe 1 63))) 63, 8, ringWord (toLe 1 63));
     s.onRing = true ∧ h.origin.toNat = s.me ∧ x ∈ frames ∧ x.snd.fst ∈ [3, 4, 5, 6, 8] ∧
     headIntact h x.snd.fst x.snd.snd = true) ∧
    (let h : RingHead := (from_ 1 5 (triggerPayload (5 * 4096 + 7))); let s : State := ringed;
     let f : Discover := disc0; let w : Bool := false; let b : Fin 129 := 128; let time : BitVec 56 := 5;
     let frac : BitVec 12 := 7; let set : BitVec 4 := 1; let clr : BitVec 4 := 2; let site : Fin 64 := 63;
     let again : Option (BitVec 56) := (some 5);
     let frames : List (Instr × Nat × Bytes) := [(Instr.discover h f.n f.hops f.ids f.lo f.hi w, 1, discoverPayload f), (Instr.gather h b, 2, barPayload ↑b), (Instr.release h b time, 3, releasePayload (↑b) time.toNat), (Instr.flags h set clr time, 4, flagsPayload set.toNat clr.toNat time.toNat), (Instr.trigger h time frac, 5, triggerPayload (time.toNat * 4096 + frac.toNat)), (Instr.snapshotFrame h time, 6, ringTime time.toNat), (Instr.reset h again, 7, resetPayload (Option.map BitVec.toNat again)), (Instr.leave h site, 8, ringWord (toLe 1 ↑site))];
     let x : Instr × Nat × Bytes := (.trigger (from_ 1 5 (triggerPayload (5 * 4096 + 7))) 5 7, 5, triggerPayload (5 * 4096 + 7));
     s.onRing = true ∧ h.origin.toNat = s.me ∧ x ∈ frames ∧ x.snd.fst ∈ [3, 4, 5, 6, 8] ∧
     headIntact h x.snd.fst x.snd.snd = true) ∧
    (let h : RingHead := (from_ 0 1 (discoverPayload disc0)); let s : State := ringed; let f : Discover := disc0;
     let w : Bool := false; s.onRing = true ∧ h.origin.toNat ≠ s.me ∧ s.ring.acted = [] ∧
     headIntact h 1 (discoverPayload f) = true ∧ s.discoverFits h.origin.toNat f w = true) ∧
    (let h : RingHead := (from_ 0 1 (discoverPayload { disc0 with n := 3 })); let s : State := ringed;
     let f : Discover := ({ disc0 with n := 3 }); let w : Bool := false; s.onRing = true ∧ h.origin.toNat ≠ s.me ∧
     s.ring.acted = [] ∧ headIntact h 1 (discoverPayload f) = true ∧ s.discoverFits h.origin.toNat f w = false) ∧
    (let h : RingHead := (from_ 0 2 (barPayload 128)); let s : State := ringed; let b : Fin 129 := 128;
     s.onRing = true ∧ h.origin.toNat ≠ s.me ∧ s.ring.acted = [] ∧ headIntact h 2 (barPayload ↑b) = true ∧
     Tab.get 0 s.ring.held ↑b = 0 ∧ s.gatherOut ↑b = false ∧ s.ring.passed.contains ↑b = false) ∧
    (let h : RingHead := (from_ 0 2 (barPayload 64)); let s : State := (ringWith { entries := [(0, {k := 2})] });
     let b : Fin 129 := 64; s.onRing = true ∧ h.origin.toNat ≠ s.me ∧ s.ring.acted = [] ∧
     headIntact h 2 (barPayload ↑b) = true ∧ Tab.get 0 s.ring.held ↑b = 0 ∧ s.gatherOut ↑b = false ∧
     s.ring.passed.contains ↑b = false) ∧
    (let h : RingHead := (from_ 0 3 (releasePayload 0 32)); let s : State := ringed; let time : BitVec 56 := 32;
     let b : Fin 129 := 0; s.onRing = true ∧ h.origin.toNat ≠ s.me ∧ s.ring.acted = [] ∧
     s.tt ≤ nearest 56 time.toNat s.tt ∧ headIntact h 3 (releasePayload (↑b) time.toNat) = true) ∧
    (let h : RingHead := (from_ 0 4 (flagsPayload 3 4 32)); let s : State := ringed; let time : BitVec 56 := 32;
     let set : BitVec 4 := 3; let clr : BitVec 4 := 4; s.onRing = true ∧ h.origin.toNat ≠ s.me ∧ s.ring.acted = [] ∧
     s.tt ≤ nearest 56 time.toNat s.tt ∧ headIntact h 4 (flagsPayload set.toNat clr.toNat time.toNat) = true) ∧
    (let h : RingHead := (from_ 0 6 (ringTime 32)); let s : State := ringed; let time : BitVec 56 := 32;
     s.onRing = true ∧ h.origin.toNat ≠ s.me ∧ s.ring.acted = [] ∧ s.tt ≤ nearest 56 time.toNat s.tt ∧
     headIntact h 6 (ringTime time.toNat) = true ∧ s.ring.snap = none) ∧
    (let h : RingHead := (from_ 0 7 (resetPayload (some 32))); let s : State := ringed; let time : BitVec 56 := 32;
     s.onRing = true ∧ h.origin.toNat ≠ s.me ∧ s.ring.acted = [] ∧ s.tt ≤ nearest 56 time.toNat s.tt ∧
     headIntact h 7 (resetPayload (some time.toNat)) = true) ∧
    (let h : RingHead := (from_ 0 5 (triggerPayload (32 * 4096 + 4095)));
     let s : State := ({ ringed.wr PZ_STAT.STATE 2 with tt := 5 }); let x : BitVec 56 := 32;
     let f : BitVec 12 := 4095; s.onRing = true ∧ h.origin.toNat ≠ s.me ∧ s.ring.acted = [] ∧
     headIntact h 5 (triggerPayload (x.toNat * 4096 + f.toNat)) = true) ∧
    (let h : RingHead := (from_ 0 8 (ringWord (toLe 1 63))); let s : State := (voting 3); let site : Fin 64 := 63;
     s.onRing = true ∧ h.origin.toNat ≠ s.me ∧ s.ring.acted = [] ∧ headIntact h 8 (ringWord (toLe 1 ↑site)) = true ∧
     s.site ↑site = stRunning ∧ 1 < s.rd SQ_STATE.CHIPS ↑site) ∧
    (let h : RingHead := (from_ 1 2 (barPayload 128)); let s : State := gatherSent; let b : Fin 129 := 128;
     s.onRing = true ∧ h.origin.toNat = s.me ∧ headIntact h 2 (barPayload ↑b) = true ∧ s.gatherOut ↑b = true) ∧
    (let h : RingHead := (from_ 1 7 (resetPayload none)); let s : State := gatherSent; s.onRing = true ∧
     h.origin.toNat = s.me ∧ headIntact h 7 (resetPayload none) = true ∧ s.outstanding 7 (resetPayload none) = true) := by
  refine ⟨?_, ?_, ?_, ?_, ?_, ?_, ?_, ?_, ?_, ?_, ?_, ?_, ?_, ?_, ?_, ?_, ?_, ?_, ?_, ?_, ?_, ?_, ?_, ?_, ?_, ?_, ?_, ?_, ?_, ?_, ?_, ?_, ?_, ?_, ?_, ?_, ?_, ?_, ?_, ?_, ?_, ?_, ?_, ?_⟩ <;> decide +kernel

/-- Data that meet the hypotheses of `RingTimesTakeEffect`, clause by clause. -/
theorem witness_RingTimesTakeEffect :
    (let s : State := (atStart 501); let i : Fin 64 := 63; let T : Nat := 500; 1 < s.rd SY_CFG.N ∧
     Tab.get 0 s.ring.release (64 + ↑i) = T + 1 ∧ Tab.get [] s.ring.part (64 + ↑i) = [↑i] ∧ s.site ↑i = stRunning ∧
     (s.seq ↑i).waitBarrier = true) ∧
    (let s : State := syncWaits; let b : Fin 16 := 15; let i : Fin 64 := 63; let T : Nat := 500; let n : Nat := 9;
     let rest : List Item := ([]); 1 < s.rd SY_CFG.N ∧ Tab.get 0 s.ring.release ↑b = T + 1 ∧
     Tab.get [] s.ring.part ↑b = [↑i] ∧ s.ringMembers ↑b = [↑i] ∧ s.ringWaits ↑b ↑i = true ∧
     (s.seq ↑i).queue = Item.sync true (↑b) n none :: rest) ∧
    (let s : State := ringed; let b : Fin 129 := 16; 16 ≤ ↑b ∧ Tab.get 0 s.ring.release ↑b = 0) ∧
    (let s : State := (atStart 0); let site : Fin 64 := 63; let fit : Prop := (s.site ↑site = stRunning ∧
     (s.seq ↑site).waitBarrier = true ∧ s.ring.started.contains ↑site = false); fit) ∧
    (let s : State := ringed; let site : Fin 64 := 63; let fit : Prop := (s.site ↑site = stRunning ∧
     (s.seq ↑site).waitBarrier = true ∧ s.ring.started.contains ↑site = false); ¬fit) ∧
    (let s : State := (ringWith { flags := [⟨90, 255, 3, 8⟩] }); let f : RingFlags := (⟨90, 255, 3, 8⟩);
     s.ring.flags = [f]) ∧
    (let s : State := ringed; s.ring.flags = []) ∧
    (let s : State := (ringWith { snap := some (90, 1), snapJobs := [3] }); let x : Nat := 90; let o : Nat := 1;
     s.ring.snap = some (x, o)) ∧
    (let s : State := ringed; s.ring.snap = none) ∧
    (let s : State := (ringWith { reset := some 90, timed := [⟨3, 7000, zeros 49⟩] }); let x : Nat := 90;
     s.ring.reset = some x) ∧
    (let s : State := ringed; s.ring.reset = none) := by
  refine ⟨?_, ?_, ?_, ?_, ?_, ?_, ?_, ?_, ?_, ?_, ?_⟩ <;> decide +kernel

/-- Data that meet the hypotheses of `RingTimeAndVotes`, clause by clause. -/
theorem witness_RingTimeAndVotes :
    (let s : State := ringed; let port : Fin 2 := 0; (∀ (w : RunWait), w ∈ s.cal.waiters → w.site < 64) ∧
     1 < s.rd SY_CFG.N ∧ s.ready 23 = true ∧ (∀ (b : Nat), b < 8 → s.fenced (676 + 8 * ↑port + b) = false)) ∧
    (let s : State := ringed; let port : Fin 2 := 1; (∀ (w : RunWait), w ∈ s.cal.waiters → w.site < 64) ∧
     1 < s.rd SY_CFG.N ∧ s.ready 23 = true ∧ (∀ (b : Nat), b < 8 → s.fenced (676 + 8 * ↑port + b) = false)) ∧
    (let s : State := up; (∀ (w : RunWait), w ∈ s.cal.waiters → w.site < 64) ∧
     (s.rd SY_CFG.N ≤ 1 ∨ s.ready 23 = false)) ∧
    (let s : State := (ringed.wr SY_STAT.SYNCARM 1); let near : Bool := false;
     (∀ (w : RunWait), w ∈ s.cal.waiters → w.site < 64) ∧ s.on SY_STAT.SYNCARM = true ∧ s.ready 1 = true ∧
     near = false) ∧
    (let s : State := ({ ringed.wr SY_STAT.SYNCARM 1 with ring := { syncLow := 2 } }); let near : Bool := false;
     (∀ (w : RunWait), w ∈ s.cal.waiters → w.site < 64) ∧ s.on SY_STAT.SYNCARM = true ∧ s.ready 1 = true ∧
     near = false) ∧
    (let s : State := ringed; (∀ (w : RunWait), w ∈ s.cal.waiters → w.site < 64) ∧
     (s.on SY_STAT.SYNCARM = false ∨ s.ready 1 = false)) ∧
    (let s : State := ({ ringWith { zeroAt := some 60, syncOut := true } with tt := 50 }); let x : Nat := 60;
     (∀ (w : RunWait), w ∈ s.cal.waiters → w.site < 64) ∧ s.ring.zeroAt = some x) ∧
    (let s : State := ringed; (∀ (w : RunWait), w ∈ s.cal.waiters → w.site < 64) ∧ s.ring.zeroAt = none) ∧
    (let s : State := (ringWith { collecting := true, asked := 4096000 });
     (∀ (w : RunWait), w ∈ s.cal.waiters → w.site < 64) ∧ s.ringUp = true ∧ s.ring.collecting = true) ∧
    (let s : State := (ringWith { base := some (-3) }); (∀ (w : RunWait), w ∈ s.cal.waiters → w.site < 64) ∧
     s.ringUp = true ∧ s.ring.collecting = false ∧ s.ring.base.isSome = true) ∧
    (let s : State := ringed; (∀ (w : RunWait), w ∈ s.cal.waiters → w.site < 64) ∧ s.ring.collecting = false ∧
     s.ring.base = none) ∧
    (let s : State := timedOut; let w : TimedWait := (⟨3, 7000, zeros 49⟩);
     (∀ (w : RunWait), w ∈ s.cal.waiters → w.site < 64) ∧ s.ring.timed = [w] ∧ s.ringUp = true) ∧
    (let s : State := ringed; (∀ (w : RunWait), w ∈ s.cal.waiters → w.site < 64) ∧ s.ring.timed = []) ∧
    (let h : RingHead := (from_ 0 9 (timePayload (.request false))); let s : State := ringed;
     (∀ (w : RunWait), w ∈ s.cal.waiters → w.site < 64) ∧ s.onRing = true ∧ h.origin.toNat ≠ s.me ∧ s.ringUp = true ∧
     headIntact h 9 (timePayload (TimeCheck.request false)) = true ∧
     h.origin.toNat = (s.me + s.rd SY_CFG.N - 1) % s.rd SY_CFG.N) ∧
    (let h : RingHead := (from_ 2 9 (timePayload (.reply 5000)) 7000);
     let s : State := (ringWith { collecting := true, collN := 4094 }); let ticks : BitVec 56 := 1;
     let frac : BitVec 12 := 904; let t2 : Nat := ticks.toNat * 4096 + frac.toNat;
     (∀ (w : RunWait), w ∈ s.cal.waiters → w.site < 64) ∧ s.onRing = true ∧ h.origin.toNat ≠ s.me ∧
     headIntact h 9 (timePayload (TimeCheck.reply t2)) = true ∧ h.origin.toNat = (s.me + 1) % s.rd SY_CFG.N ∧
     s.ring.collecting = true ∧ s.ring.collN < 4095) ∧
    (let h : RingHead := (from_ 2 9 (timePayload (.reply 5000)) 7000);
     let s : State := (ringWith { base := some 5, exchanges := List.replicate 254 4 }); let ticks : BitVec 56 := 1;
     let frac : BitVec 12 := 904; let t2 : Nat := ticks.toNat * 4096 + frac.toNat;
     (∀ (w : RunWait), w ∈ s.cal.waiters → w.site < 64) ∧ s.onRing = true ∧ h.origin.toNat ≠ s.me ∧
     headIntact h 9 (timePayload (TimeCheck.reply t2)) = true ∧ h.origin.toNat = (s.me + 1) % s.rd SY_CFG.N ∧
     s.ring.collecting = false ∧ s.ring.base.isSome = true ∧ s.ring.exchanges.length < 255) ∧
    (let h : RingHead := (from_ 0 10 (collectPayload (.check true [{}]))); let s : State := ringed;
     let busy : Bool := true; let links : List LinkSample := ([{}]);
     (∀ (w : RunWait), w ∈ s.cal.waiters → w.site < 64) ∧ s.onRing = true ∧ h.origin.toNat ≠ s.me ∧ h.origin = 0 ∧
     s.ring.acted = [] ∧ headIntact h 10 (collectPayload (Collect.check busy links)) = true) ∧
    (let h : RingHead := (from_ 0 10 (collectPayload (.apply [0, -1251, 7, 0])));
     let s : State := ({ ringed with tt := 8 }); let corrs : List Int := ([0, -1251, 7, 0]);
     (∀ (w : RunWait), w ∈ s.cal.waiters → w.site < 64) ∧ s.onRing = true ∧ h.origin.toNat ≠ s.me ∧ h.origin = 0 ∧
     s.ring.acted = [] ∧ headIntact h 10 (collectPayload (Collect.apply corrs)) = true) ∧
    (let h : RingHead := (from_ 0 10 (collectPayload .cancel)); let s : State := ringed;
     (∀ (w : RunWait), w ∈ s.cal.waiters → w.site < 64) ∧ s.onRing = true ∧ h.origin.toNat ≠ s.me ∧ h.origin = 0 ∧
     s.ring.acted = [] ∧ headIntact h 10 (collectPayload Collect.cancel) = true) ∧
    (let h : RingHead := (from_ 0 11 (padWords [1,2,3,4,5,6,7])); let s : State := ringed;
     let first : BitVec 56 := 0x07060504030201; let rest : Bytes := ([]);
     let data : Bytes := toLe 7 first.toNat ++ rest; (∀ (w : RunWait), w ∈ s.cal.waiters → w.site < 64) ∧
     s.onRing = true ∧ h.origin.toNat ≠ s.me ∧ headIntact h 11 (padWords data) = true) ∧
    (let h : RingHead := (from_ 0 11 (padWords (zeros 49)));
     let s : State := (ringWith { inbox := List.replicate 8 [1] }); let first : BitVec 56 := 0;
     let rest : Bytes := (zeros 42); let data : Bytes := toLe 7 first.toNat ++ rest;
     (∀ (w : RunWait), w ∈ s.cal.waiters → w.site < 64) ∧ s.onRing = true ∧ h.origin.toNat ≠ s.me ∧
     headIntact h 11 (padWords data) = true) ∧
    (let s : State := (voting 3); let site : Fin 64 := 63; let v : Nat := 0; let east : Bool := false;
     let i : Nat := 0; (∀ (w : RunWait), w ∈ s.cal.waiters → w.site < 64) ∧ s.busySite ↑site = true ∧
     (s.seq ↑site).started = true ∧ 1 < s.rd SQ_STATE.CHIPS ↑site ∧
     s.rd SQ_XSITE.POS ↑site ≠ s.rd SQ_XSITE.HOME ↑site ∧
     east = decide (s.rd SQ_XSITE.POS ↑site < s.rd SQ_XSITE.HOME ↑site) ∧ (s.seq ↑site).openVote v = some i) ∧
    (let s : State := (voting 4); let site : Fin 64 := 63; let v : Nat := 5;
     (∀ (w : RunWait), w ∈ s.cal.waiters → w.site < 64) ∧ s.busySite ↑site = true ∧ (s.seq ↑site).started = true ∧
     1 < s.rd SQ_STATE.CHIPS ↑site ∧ (s.seq ↑site).openVote v = none) ∧
    (let s : State := (voting 3); let site : Fin 64 := 63; (∀ (w : RunWait), w ∈ s.cal.waiters → w.site < 64) ∧
     s.busySite ↑site = true ∧ (s.seq ↑site).started = true ∧ 1 < s.rd SQ_STATE.CHIPS ↑site ∧
     s.site ↑site = stRunning) := by
  refine ⟨?_, ?_, ?_, ?_, ?_, ?_, ?_, ?_, ?_, ?_, ?_, ?_, ?_, ?_, ?_, ?_, ?_, ?_, ?_, ?_, ?_, ?_, ?_, ?_⟩ <;> decide +kernel

/-- Data that meet the hypotheses of `VectorPisIssueBundles`, clause by clause. -/
theorem witness_VectorPisIssueBundles :
    (let site : Fin 64 := 63; let pi : PI := ({}); let f : Nat := 0; let s : State := run63;
     let q : Machine.Seq := s.seq ↑site; let n : Nat := pi.operand.toNat;
     let sound : Nat → Prop := fun op => q.badSlices (CsPlace.entry (BitVec.ofNat 8 op)) = 0; q.body = none ∧
     s.canDispatch (↑site) (piWord 1 pi) ∧ sound 1 ∧ q.facetOf (piWord 1 pi) = some f ∧ n = 0) ∧
    (let site : Fin 64 := 63; let pi : PI := ({operand := 3}); let f : Nat := 0;
     let s : State := (run63 (fun q => { q with queue := fullQueue})); let q : Machine.Seq := s.seq ↑site;
     let n : Nat := pi.operand.toNat;
     let sound : Nat → Prop := fun op => q.badSlices (CsPlace.entry (BitVec.ofNat 8 op)) = 0; q.body = none ∧
     s.canDispatch (↑site) (piWord 1 pi) ∧ sound 1 ∧ q.facetOf (piWord 1 pi) = some f ∧ 0 < n ∧ q.full = true) ∧
    (let site : Fin 64 := 63; let pi : PI := ({operand := 3, fv := true, facet := 31}); let f : Nat := 31;
     let s : State := (run63 (fun q => { q with facetsAtRun := 2^31 })); let q : Machine.Seq := s.seq ↑site;
     let n : Nat := pi.operand.toNat;
     let sound : Nat → Prop := fun op => q.badSlices (CsPlace.entry (BitVec.ofNat 8 op)) = 0; q.body = none ∧
     s.canDispatch (↑site) (piWord 1 pi) ∧ sound 1 ∧ q.facetOf (piWord 1 pi) = some f ∧ 0 < n ∧ q.full = false ∧
     bit q.facetsAtRun f = true) ∧
    (let site : Fin 64 := 63; let pi : PI := ({operand := 3}); let f : Nat := 0;
     let s : State := (run63 (fun q => { q with facetsAtRun := 2 })); let q : Machine.Seq := s.seq ↑site;
     let n : Nat := pi.operand.toNat;
     let sound : Nat → Prop := fun op => q.badSlices (CsPlace.entry (BitVec.ofNat 8 op)) = 0; q.body = none ∧
     s.canDispatch (↑site) (piWord 1 pi) ∧ sound 1 ∧ q.facetOf (piWord 1 pi) = some f ∧ 0 < n ∧ q.full = false ∧
     bit q.facetsAtRun f = false) ∧
    (let site : Fin 64 := 63; let pi : PI := ({operand := 0xFFFFFFFFFF}); let f : Nat := 0; let s : State := run63;
     let q : Machine.Seq := s.seq ↑site; let n : Nat := pi.operand.toNat;
     let sound : Nat → Prop := fun op => q.badSlices (CsPlace.entry (BitVec.ofNat 8 op)) = 0; q.body = none ∧
     s.canDispatch (↑site) (piWord 1 pi) ∧ sound 1 ∧ q.facetOf (piWord 1 pi) = some f ∧ 0 < n ∧ q.full = false ∧
     bit q.facetsAtRun f = true) ∧
    (let site : Fin 64 := 63; let pi : PI := ({operand := 7}); let f : Nat := 0; let s : State := run63;
     let q : Machine.Seq := s.seq ↑site;
     let sound : Nat → Prop := fun op => q.badSlices (CsPlace.entry (BitVec.ofNat 8 op)) = 0; q.body = none ∧
     s.canDispatch (↑site) (piWord 2 pi) ∧ sound 2 ∧ q.facetOf (piWord 2 pi) = some f ∧ q.full = false ∧
     bit q.facetsAtRun f = true) ∧
    (let site : Fin 64 := 63; let pi : PI := ({operand := 8}); let f : Nat := 0; let s : State := run63;
     let q : Machine.Seq := s.seq ↑site;
     let sound : Nat → Prop := fun op => q.badSlices (CsPlace.entry (BitVec.ofNat 8 op)) = 0; q.body = none ∧
     s.canDispatch (↑site) (piWord 2 pi) ∧ sound 2 ∧ q.facetOf (piWord 2 pi) = some f ∧ q.full = false ∧
     bit q.facetsAtRun f = true) ∧
    (let site : Fin 64 := 63; let pi : PI := ({operand := 8}); let f : Nat := 0; let s : State := run63;
     let q : Machine.Seq := s.seq ↑site;
     let sound : Nat → Prop := fun op => q.badSlices (CsPlace.entry (BitVec.ofNat 8 op)) = 0; q.body = none ∧
     s.canDispatch (↑site) (piWord 3 pi) ∧ sound 3 ∧ q.facetOf (piWord 3 pi) = some f ∧ q.full = false ∧
     q.lastVa = none) ∧
    (let site : Fin 64 := 63; let pi : PI := ({operand := 8}); let f : Nat := 0;
     let s : State := (run63 (fun q => { q with lastVa := some 7})); let q : Machine.Seq := s.seq ↑site;
     let n : Nat := pi.operand.toNat;
     let sound : Nat → Prop := fun op => q.badSlices (CsPlace.entry (BitVec.ofNat 8 op)) = 0; let last : Nat := 7;
     q.body = none ∧ s.canDispatch (↑site) (piWord 3 pi) ∧ sound 3 ∧ q.facetOf (piWord 3 pi) = some f ∧
     q.full = false ∧ q.lastVa = some last ∧ 0 < n ∧ bit q.facetsAtRun f = true) := by
  refine ⟨?_, ?_, ?_, ?_, ?_, ?_, ?_, ?_, ?_⟩ <;> decide +kernel

/-- Data that meet the hypotheses of `ControlFlowPisMove`, clause by clause. -/
theorem witness_ControlFlowPisMove :
    (let site : Fin 64 := 63; let pi : PI := ({operand := 0xFFFFFFFF}); let f : Nat := 0; let s : State := run63;
     let q : Machine.Seq := s.seq ↑site;
     let sound : Nat → Prop := fun op => q.badSlices (CsPlace.entry (BitVec.ofNat 8 op)) = 0;
     s.canDispatch (↑site) (piWord 16 pi) ∧ sound 16 ∧ q.facetOf (piWord 16 pi) = some f) ∧
    (let site : Fin 64 := 63; let pi : PI := ({operand := 15}); let f : Nat := 0;
     let s : State := (run63 (fun q => { q with calls := List.replicate 15 ⟨0,0,0⟩ }));
     let q : Machine.Seq := s.seq ↑site;
     let sound : Nat → Prop := fun op => q.badSlices (CsPlace.entry (BitVec.ofNat 8 op)) = 0;
     s.canDispatch (↑site) (piWord 17 pi) ∧ sound 17 ∧ q.facetOf (piWord 17 pi) = some f ∧ q.calls.length < 16) ∧
    (let site : Fin 64 := 63; let pi : PI := ({}); let f : Nat := 0;
     let s : State := (run63 (fun q => { q with calls := [⟨5, 6, 0⟩] })); let q : Machine.Seq := s.seq ↑site;
     let depth : Nat := q.loops.length;
     let sound : Nat → Prop := fun op => q.badSlices (CsPlace.entry (BitVec.ofNat 8 op)) = 0;
     let c : CallFrame := (⟨5, 6, 0⟩); let rest : List CallFrame := ([]); q.calls = c :: rest ∧ c.depth = depth ∧
     s.canDispatch (↑site) (piWord 18 pi) ∧ sound 18 ∧ q.facetOf (piWord 18 pi) = some f) ∧
    (let site : Fin 64 := 63; let pi : PI := ({operand := 0xFFFFFFFF}); let f : Nat := 0;
     let s : State := (run63 (fun q => { q with loops := List.replicate 3 ⟨0,0,false,false,0⟩ }));
     let q : Machine.Seq := s.seq ↑site; let target : Nat := pi.operand.toNat % 2 ^ 32;
     let depth : Nat := q.loops.length;
     let sound : Nat → Prop := fun op => q.badSlices (CsPlace.entry (BitVec.ofNat 8 op)) = 0;
     s.canDispatch (↑site) (piWord 8 pi) ∧ sound 8 ∧ q.facetOf (piWord 8 pi) = some f ∧ target ≠ 0 ∧ depth < 4) ∧
    (let site : Fin 64 := 63; let pi : PI := ({}); let f : Nat := 0;
     let s : State := ((run63 (fun q => { q with loops := [⟨5, 6, false, false, 0⟩] })).wr SQ_LC.COUNT 0xFFFFFFFF 63 0);
     let q : Machine.Seq := s.seq ↑site;
     let sound : Nat → Prop := fun op => q.badSlices (CsPlace.entry (BitVec.ofNat 8 op)) = 0;
     let fr : LoopFrame := (⟨5, 6, false, false, 0⟩); let rest : List LoopFrame := ([]);
     let left : Nat := s.rd SQ_LC.COUNT (↑site) rest.length; q.loops = fr :: rest ∧ rest.length < 4 ∧
     (∀ (c : CallFrame), c ∈ q.calls.head? → c.depth ≤ rest.length) ∧ s.canDispatch (↑site) (piWord 9 pi) ∧ sound 9 ∧
     q.facetOf (piWord 9 pi) = some f ∧ fr.buffered = false ∧ q.section_ = false ∧ 0 < left) ∧
    (let site : Fin 64 := 63; let pi : PI := ({}); let f : Nat := 0;
     let s : State := (run63 (fun q => { q with loops := [⟨5, 6, false, false, 0⟩] }));
     let q : Machine.Seq := s.seq ↑site;
     let sound : Nat → Prop := fun op => q.badSlices (CsPlace.entry (BitVec.ofNat 8 op)) = 0;
     let fr : LoopFrame := (⟨5, 6, false, false, 0⟩); let rest : List LoopFrame := ([]);
     let left : Nat := s.rd SQ_LC.COUNT (↑site) rest.length; q.loops = fr :: rest ∧ rest.length < 4 ∧
     (∀ (c : CallFrame), c ∈ q.calls.head? → c.depth ≤ rest.length) ∧ s.canDispatch (↑site) (piWord 9 pi) ∧ sound 9 ∧
     q.facetOf (piWord 9 pi) = some f ∧ fr.buffered = false ∧ q.section_ = false ∧ left = 0) ∧
    (let site : Fin 64 := 63; let pi : PI := ({}); let f : Nat := 0;
     let s : State := ((run63 (fun q => { q with loops := [⟨5, 6, true, true, 0⟩], issued := 6, recBase := some 2 })).wr SQ_LC.COUNT 0xFFFFFFFF 63 0);
     let q : Machine.Seq := s.seq ↑site;
     let sound : Nat → Prop := fun op => q.badSlices (CsPlace.entry (BitVec.ofNat 8 op)) = 0;
     let fr : LoopFrame := (⟨5, 6, true, true, 0⟩); let rest : List LoopFrame := ([]);
     let left : Nat := s.rd SQ_LC.COUNT (↑site) rest.length;
     let len : Nat := q.issued - q.recBase.getD 0 - fr.recFrom; q.loops = fr :: rest ∧ rest.length < 4 ∧
     (∀ (c : CallFrame), c ∈ q.calls.head? → c.depth ≤ rest.length) ∧ s.canDispatch (↑site) (piWord 9 pi) ∧ sound 9 ∧
     q.facetOf (piWord 9 pi) = some f ∧ fr.buffered = true ∧ q.full = false ∧ 0 < left ∧ 0 < len) ∧
    (let site : Fin 64 := 63; let pi : PI := ({cond := 10, operand := 9}); let f : Nat := 0; let s : State := run63;
     let q : Machine.Seq := s.seq ↑site;
     let sound : Nat → Prop := fun op => q.badSlices (CsPlace.entry (BitVec.ofNat 8 op)) = 0;
     let c : Cond := piCondition (piWord 20 pi); s.canDispatch (↑site) (piWord 20 pi) ∧ sound 20 ∧
     q.facetOf (piWord 20 pi) = some f ∧ condOk 20 c.cls c.idx = true ∧ 10 ≤ c.cls) ∧
    (let site : Fin 64 := 63; let pi : PI := ({cond := 1, operand := 0}); let f : Nat := 0;
     let s : State := ({ run63 (fun q => { q with issued := 1 }) with vmem := {cells := [(7, 2)]} });
     let q : Machine.Seq := s.seq ↑site; let target : Nat := pi.operand.toNat % 2 ^ 32;
     let sound : Nat → Prop := fun op => q.badSlices (CsPlace.entry (BitVec.ofNat 8 op)) = 0;
     let c : Cond := piCondition (piWord 20 pi); s.canDispatch (↑site) (piWord 20 pi) ∧ sound 20 ∧
     q.facetOf (piWord 20 pi) = some f ∧ condOk 20 c.cls c.idx = true ∧ c.cls < 10 ∧ 0 < q.issued ∧
     target < q.pat.npi ∧ piOp (s.piAt (↑site) target) = 2) := by
  refine ⟨?_, ?_, ?_, ?_, ?_, ?_, ?_, ?_, ?_⟩ <;> decide +kernel

/-- Data that meet the hypotheses of `OtherPisAct`, clause by clause. -/
theorem witness_OtherPisAct :
    (let site : Fin 64 := 63; let pi : PI := ({cond := 1, operand := 1}); let f : Nat := 0; let s : State := run63;
     let q : Machine.Seq := s.seq ↑site; let o : Nat := pi.operand.toNat;
     let sound : Nat → Prop := fun op => q.badSlices (CsPlace.entry (BitVec.ofNat 8 op)) = 0;
     let c : Cond := piCondition (piWord 24 pi); s.canDispatch (↑site) (piWord 24 pi) ∧ sound 24 ∧
     q.facetOf (piWord 24 pi) = some f ∧ condOk 24 c.cls c.idx = true ∧ 0 < o % 2 ^ 24) ∧
    (let site : Fin 64 := 63; let pi : PI := ({cond := 6, operand := 1}); let f : Nat := 0;
     let s : State := (run63 (fun q => { q with lastVa := some 7 })); let q : Machine.Seq := s.seq ↑site;
     let o : Nat := pi.operand.toNat;
     let sound : Nat → Prop := fun op => q.badSlices (CsPlace.entry (BitVec.ofNat 8 op)) = 0;
     let c : Cond := piCondition (piWord 25 pi); let b : Nat := o % 2 ^ 36; let last : Nat := 7;
     s.canDispatch (↑site) (piWord 25 pi) ∧ sound 25 ∧ q.facetOf (piWord 25 pi) = some f ∧
     condOk 25 c.cls c.idx = true ∧ q.lastVa = some last ∧ (b = 0 ∨ q.full = false ∧
     q.pat.covered q.section_ last 1 ≠ 0)) ∧
    (let site : Fin 64 := 63; let pi : PI := ({cond := 15, operand := 0x8000000000}); let f : Nat := 0;
     let s : State := run63; let q : Machine.Seq := s.seq ↑site;
     let sound : Nat → Prop := fun op => q.badSlices (CsPlace.entry (BitVec.ofNat 8 op)) = 0;
     s.canDispatch (↑site) (piWord 32 pi) ∧ sound 32 ∧ q.facetOf (piWord 32 pi) = some f) ∧
    (let site : Fin 64 := 63; let pi : PI := ({}); let f : Nat := 0; let s : State := run63;
     let q : Machine.Seq := s.seq ↑site;
     let sound : Nat → Prop := fun op => q.badSlices (CsPlace.entry (BitVec.ofNat 8 op)) = 0;
     s.canDispatch (↑site) (piWord 33 pi) ∧ sound 33 ∧ q.facetOf (piWord 33 pi) = some f) ∧
    (let site : Fin 64 := 63; let pi : PI := ({cond := 15, operand := 0xFFFF}); let f : Nat := 0;
     let s : State := run63; let q : Machine.Seq := s.seq ↑site;
     let sound : Nat → Prop := fun op => q.badSlices (CsPlace.entry (BitVec.ofNat 8 op)) = 0;
     s.canDispatch (↑site) (piWord 34 pi) ∧ sound 34 ∧ q.facetOf (piWord 34 pi) = some f) ∧
    (let site : Fin 64 := 63; let pi : PI := ({cond := 15, operand := 3}); let f : Nat := 0; let s : State := run63;
     let q : Machine.Seq := s.seq ↑site;
     let sound : Nat → Prop := fun op => q.badSlices (CsPlace.entry (BitVec.ofNat 8 op)) = 0;
     s.canDispatch (↑site) (piWord 35 pi) ∧ sound 35 ∧ q.facetOf (piWord 35 pi) = some f) ∧
    (let site : Fin 64 := 63; let pi : PI := ({cond := 3}); let f : Nat := 0;
     let s : State := ((run63).wr SQ_SRSTAT.OPEN 1 63); let q : Machine.Seq := s.seq ↑site;
     let a : Nat := pi.cond.toNat;
     let sound : Nat → Prop := fun op => q.badSlices (CsPlace.entry (BitVec.ofNat 8 op)) = 0;
     s.canDispatch (↑site) (piWord 36 pi) ∧ sound 36 ∧ q.facetOf (piWord 36 pi) = some f ∧ bit a 0 = true ∧
     q.section_ = false ∧ s.on SQ_SRSTAT.OPEN ↑site = true) ∧
    (let site : Fin 64 := 63; let pi : PI := ({}); let f : Nat := 0;
     let s : State := (run63 (fun q => { q with section_ := true })); let q : Machine.Seq := s.seq ↑site;
     let a : Nat := pi.cond.toNat;
     let sound : Nat → Prop := fun op => q.badSlices (CsPlace.entry (BitVec.ofNat 8 op)) = 0;
     s.canDispatch (↑site) (piWord 36 pi) ∧ sound 36 ∧ q.facetOf (piWord 36 pi) = some f ∧ bit a 0 = false ∧
     q.section_ = true) ∧
    (let site : Fin 64 := 63; let pi : PI := ({operand := 0xFEFF}); let f : Nat := 0; let s : State := run63;
     let q : Machine.Seq := s.seq ↑site;
     let sound : Nat → Prop := fun op => q.badSlices (CsPlace.entry (BitVec.ofNat 8 op)) = 0;
     s.canDispatch (↑site) (piWord 47 pi) ∧ sound 47 ∧ q.facetOf (piWord 47 pi) = some f) ∧
    (let site : Fin 64 := 63; let pi : PI := ({operand := 0xFFFFFFFFFF, cond := 15, capc := 3, cms := 15});
     let op : BitVec 6 := 63; let f : Nat := 0;
     let s : State := (((run63).wr SQ_DISP.VALID 1 63 63).wr SQ_DISP.UADDR 0xBFF 63 63);
     let q : Machine.Seq := s.seq ↑site;
     let sound : Nat → Prop := fun op => q.badSlices (CsPlace.entry (BitVec.ofNat 8 op)) = 0;
     let xw : Nat := piWord (192 + op.toNat) pi; s.canDispatch (↑site) xw ∧
     s.on SQ_DISP.VALID (↑site) op.toNat = true ∧ sound (192 + op.toNat) ∧ q.facetOf xw = some f) ∧
    (let site : Fin 64 := 63; let pi : PI := ({}); let op : BitVec 6 := 63; let s : State := run63;
     let xw : Nat := piWord (192 + op.toNat) pi; s.canDispatch (↑site) xw ∧
     s.on SQ_DISP.VALID (↑site) op.toNat = false) := by
  refine ⟨?_, ?_, ?_, ?_, ?_, ?_, ?_, ?_, ?_, ?_, ?_⟩ <;> decide +kernel

/-- Data that meet the hypotheses of `ArrivalsDispatchOrHalt`, clause by clause. -/
theorem witness_ArrivalsDispatchOrHalt :
    (let site : Fin 64 := 63; let s : State := (piIs 0x2F); let op : Nat := 0x2F; let pi : PI := ({});
     let c : Instr := (.haltPi 63 {}); s.piAt (↑site) ((s.seq ↑site).ureg 13) = piWord op pi ∧
     (op, c) ∈ [(1, Instr.vec site pi), (2, Instr.vecA site pi), (3, Instr.rpt site pi), (8, Instr.loop site pi), (9, Instr.endl site pi), (16, Instr.jmp site pi), (17, Instr.call site pi), (18, Instr.ret site pi), (20, Instr.brc site pi), (24, Instr.matchPi site pi), (25, Instr.waitx site pi), (32, Instr.sync site pi), (33, Instr.tsw site pi), (34, Instr.cap site pi), (35, Instr.flag site pi), (36, Instr.strm site pi), (47, Instr.haltPi site pi)]) ∧
    (let site : Fin 64 := 63; let s : State := (piIs 0x18); let op : Nat := 0x18; let pi : PI := ({});
     let c : Instr := (.matchPi 63 {}); s.piAt (↑site) ((s.seq ↑site).ureg 13) = piWord op pi ∧
     (op, c) ∈ [(1, Instr.vec site pi), (2, Instr.vecA site pi), (3, Instr.rpt site pi), (8, Instr.loop site pi), (9, Instr.endl site pi), (16, Instr.jmp site pi), (17, Instr.call site pi), (18, Instr.ret site pi), (20, Instr.brc site pi), (24, Instr.matchPi site pi), (25, Instr.waitx site pi), (32, Instr.sync site pi), (33, Instr.tsw site pi), (34, Instr.cap site pi), (35, Instr.flag site pi), (36, Instr.strm site pi), (47, Instr.haltPi site pi)]) ∧
    (let site : Fin 64 := 63; let s : State := (piIs 0xFF); let op : BitVec 6 := 63; let pi : PI := ({});
     s.piAt (↑site) ((s.seq ↑site).ureg 13) = piWord (192 + op.toNat) pi) ∧
    (let site : Fin 64 := 63; let s : State := (piIs 0); s.site ↑site = stRunning) ∧
    (let unit : Fin 532 := 511; let i : Nat := 63; let r : GranReq := (⟨0, 8, 2, 0⟩); let rest : List GranReq := ([]);
     let s : State := granWait; (s.chan ↑unit).reqs = r :: rest ∧ s.siteOf (s.playsFor ↑unit) = some i ∧
     s.reqTurn ↑unit = true ∧ s.site i = stRunning) ∧
    (let unit : Fin 532 := 511; let i : Nat := 63; let r : GranReq := (⟨0, 8, 2, 1⟩); let rest : List GranReq := ([]);
     let s : State := granBehind; (s.chan ↑unit).reqs = r :: rest ∧ s.siteOf (s.playsFor ↑unit) = some i ∧
     s.reqTurn ↑unit = false) ∧
    (let unit : Fin 532 := 511; let i : Nat := 63; let r : GranReq := (⟨0, 8, 2, 0⟩); let rest : List GranReq := ([]);
     let s : State := granWait; (s.chan ↑unit).reqs = r :: rest ∧ s.siteOf (s.playsFor ↑unit) = some i ∧
     s.reqTurn ↑unit = true ∧ r.dst = 0) := by
  refine ⟨?_, ?_, ?_, ?_, ?_, ?_, ?_⟩ <;> decide +kernel

/-- Data that meet the hypotheses of `MicrowordsRun`, clause by clause. -/
theorem witness_MicrowordsRun :
    (let site : Fin 64 := 63; let s : State := ((routine 4).wr SQ_UPC.UPC 0xFFF 63);
     let q : Machine.Seq := s.seq ↑site; let upc : Nat := s.rd SQ_UPC.UPC ↑site;
     let p : CsPlace := s.csPlace (↑site) upc; s.busySite ↑site = true ∧ q.inRoutine = true ∧ q.closing = false ∧
     s.badMatch ↑site = none ∧ 3136 ≤ placeNumber p) ∧
    (let site : Fin 64 := 63; let s : State := ((routine 4).wr SQ_CUST.WORD 1 63 0x3FF);
     let q : Machine.Seq := s.seq ↑site; let upc : Nat := s.rd SQ_UPC.UPC ↑site;
     let p : CsPlace := s.csPlace (↑site) upc; s.busySite ↑site = true ∧ q.inRoutine = true ∧ q.closing = false ∧
     s.badMatch ↑site = none ∧ placeNumber p < 3136 ∧ s.slicesOf (↑site) 0 p ≠ 0) ∧
    (let site : Fin 64 := 63; let s : State := (routine (3*2^88)); let q : Machine.Seq := s.seq ↑site;
     let upc : Nat := s.rd SQ_UPC.UPC ↑site; let p : CsPlace := s.csPlace (↑site) upc;
     let w : Nat := s.microWord (↑site) 0; s.busySite ↑site = true ∧ q.inRoutine = true ∧ q.closing = false ∧
     s.badMatch ↑site = none ∧ placeNumber p < 3136 ∧ s.slicesOf (↑site) 0 p = 0 ∧ mwVendor w = true) ∧
    (let site : Fin 64 := 63; let ext : ExtLines := ({}); let s : State := (routine (1*2^22+1*2^15+3*2^26));
     let q : Machine.Seq := s.seq ↑site; let upc : Nat := s.rd SQ_UPC.UPC ↑site;
     let p : CsPlace := s.csPlace (↑site) upc; let w : Nat := s.microWord (↑site) 0;
     let c : Bool := s.microCond (↑site) (s.wired ext s.tt) w; s.busySite ↑site = true ∧ q.inRoutine = true ∧
     q.closing = false ∧ s.badMatch ↑site = none ∧ placeNumber p < 3136 ∧ s.slicesOf (↑site) 0 p = 0 ∧
     mwVendor w = false ∧ q.stall = none ∧ mwWait w = true ∧ c = false ∧
     q.waited + 1 < s.rd SQ_UBND.BOUND (↑site) (mwWbnd w)) ∧
    (let site : Fin 64 := 63; let ext : ExtLines := ({});
     let s : State := (routine (2*2^38+3*2^42+2^50+5*2^51+2^55+(2^32-1)*2^56)); let q : Machine.Seq := s.seq ↑site;
     let upc : Nat := s.rd SQ_UPC.UPC ↑site; let p : CsPlace := s.csPlace (↑site) upc;
     let w : Nat := s.microWord (↑site) 0; let c : Bool := s.microCond (↑site) (s.wired ext s.tt) w;
     s.busySite ↑site = true ∧ q.inRoutine = true ∧ q.closing = false ∧ s.badMatch ↑site = none ∧
     placeNumber p < 3136 ∧ s.slicesOf (↑site) 0 p = 0 ∧ mwVendor w = false ∧ q.stall = none ∧ mwIssue w = 0 ∧
     mwSfn w = 0 ∧ (mwWait w = false ∨ c = true)) ∧
    (let site : Fin 64 := 63; let ext : ExtLines := ({}); let s : State := (routine (1+5*2^3));
     let q : Machine.Seq := s.seq ↑site; let upc : Nat := s.rd SQ_UPC.UPC ↑site;
     let p : CsPlace := s.csPlace (↑site) upc; let w : Nat := s.microWord (↑site) 0;
     let c : Bool := s.microCond (↑site) (s.wired ext s.tt) w; s.busySite ↑site = true ∧ q.inRoutine = true ∧
     q.closing = false ∧ s.badMatch ↑site = none ∧ placeNumber p < 3136 ∧ s.slicesOf (↑site) 0 p = 0 ∧
     mwVendor w = false ∧ q.stall = none ∧ mwIssue w = 0 ∧ mwSfn w = 0 ∧ (mwWait w = false ∨ c = true)) ∧
    (let site : Fin 64 := 63; let ext : ExtLines := ({}); let s : State := (routine (2+5*2^3));
     let q : Machine.Seq := s.seq ↑site; let upc : Nat := s.rd SQ_UPC.UPC ↑site;
     let p : CsPlace := s.csPlace (↑site) upc; let w : Nat := s.microWord (↑site) 0;
     let c : Bool := s.microCond (↑site) (s.wired ext s.tt) w; s.busySite ↑site = true ∧ q.inRoutine = true ∧
     q.closing = false ∧ s.badMatch ↑site = none ∧ placeNumber p < 3136 ∧ s.slicesOf (↑site) 0 p = 0 ∧
     mwVendor w = false ∧ q.stall = none ∧ mwIssue w = 0 ∧ mwSfn w = 0 ∧ (mwWait w = false ∨ c = true)) ∧
    (let site : Fin 64 := 63; let ext : ExtLines := ({}); let s : State := (routine (3+5*2^3+3*2^42));
     let q : Machine.Seq := s.seq ↑site; let upc : Nat := s.rd SQ_UPC.UPC ↑site;
     let p : CsPlace := s.csPlace (↑site) upc; let w : Nat := s.microWord (↑site) 0;
     let c : Bool := s.microCond (↑site) (s.wired ext s.tt) w; s.busySite ↑site = true ∧ q.inRoutine = true ∧
     q.closing = false ∧ s.badMatch ↑site = none ∧ placeNumber p < 3136 ∧ s.slicesOf (↑site) 0 p = 0 ∧
     mwVendor w = false ∧ q.stall = none ∧ mwIssue w = 0 ∧ mwSfn w = 0 ∧ (mwWait w = false ∨ c = true)) ∧
    (let site : Fin 64 := 63; let ext : ExtLines := ({}); let s : State := (routine (4));
     let q : Machine.Seq := s.seq ↑site; let upc : Nat := s.rd SQ_UPC.UPC ↑site;
     let p : CsPlace := s.csPlace (↑site) upc; let w : Nat := s.microWord (↑site) 0;
     let c : Bool := s.microCond (↑site) (s.wired ext s.tt) w; s.busySite ↑site = true ∧ q.inRoutine = true ∧
     q.closing = false ∧ s.badMatch ↑site = none ∧ placeNumber p < 3136 ∧ s.slicesOf (↑site) 0 p = 0 ∧
     mwVendor w = false ∧ q.stall = none ∧ mwIssue w = 0 ∧ mwSfn w = 0 ∧ (mwWait w = false ∨ c = true)) ∧
    (let site : Fin 64 := 63; let ext : ExtLines := ({}); let s : State := (routine (5+9*2^3));
     let q : Machine.Seq := s.seq ↑site; let upc : Nat := s.rd SQ_UPC.UPC ↑site;
     let p : CsPlace := s.csPlace (↑site) upc; let w : Nat := s.microWord (↑site) 0;
     let c : Bool := s.microCond (↑site) (s.wired ext s.tt) w; s.busySite ↑site = true ∧ q.inRoutine = true ∧
     q.closing = false ∧ s.badMatch ↑site = none ∧ placeNumber p < 3136 ∧ s.slicesOf (↑site) 0 p = 0 ∧
     mwVendor w = false ∧ q.stall = none ∧ mwIssue w = 0 ∧ mwSfn w = 0 ∧ (mwWait w = false ∨ c = true)) ∧
    (let site : Fin 64 := 63; let ext : ExtLines := ({}); let s : State := (routine (6));
     let q : Machine.Seq := s.seq ↑site; let upc : Nat := s.rd SQ_UPC.UPC ↑site;
     let p : CsPlace := s.csPlace (↑site) upc; let w : Nat := s.microWord (↑site) 0;
     let c : Bool := s.microCond (↑site) (s.wired ext s.tt) w; s.busySite ↑site = true ∧ q.inRoutine = true ∧
     q.closing = false ∧ s.badMatch ↑site = none ∧ placeNumber p < 3136 ∧ s.slicesOf (↑site) 0 p = 0 ∧
     mwVendor w = false ∧ q.stall = none ∧ mwIssue w = 0 ∧ mwSfn w = 0 ∧ (mwWait w = false ∨ c = true)) ∧
    (let site : Fin 64 := 63; let s : State := ((routine (2^22+2^26*0xFFF)).wr SQ_UPC.WAITING 1 63);
     let q : Machine.Seq := s.seq ↑site; let upc : Nat := s.rd SQ_UPC.UPC ↑site;
     let p : CsPlace := s.csPlace (↑site) upc; let w : Nat := s.microWord (↑site) 0; s.busySite ↑site = true ∧
     q.inRoutine = true ∧ q.closing = false ∧ s.badMatch ↑site = none ∧ placeNumber p < 3136 ∧
     s.slicesOf (↑site) 0 p = 0 ∧ mwVendor w = false ∧ q.stall = none ∧ mwIssue w = 0 ∧ mwSfn w = 0 ∧
     mwWait w = true ∧ s.on SQ_UPC.WAITING ↑site = true) ∧
    (let site : Fin 64 := 63; let s : State := ((routine (2^22+2^15+2^26*0xFFF)).wr SQ_UPC.WAITING 1 63);
     let q : Machine.Seq := s.seq ↑site; let upc : Nat := s.rd SQ_UPC.UPC ↑site;
     let p : CsPlace := s.csPlace (↑site) upc; let w : Nat := s.microWord (↑site) 0; s.busySite ↑site = true ∧
     q.inRoutine = true ∧ q.closing = false ∧ s.badMatch ↑site = none ∧ placeNumber p < 3136 ∧
     s.slicesOf (↑site) 0 p = 0 ∧ mwVendor w = false ∧ q.stall = none ∧ mwIssue w = 0 ∧ mwSfn w = 0 ∧
     mwWait w = true ∧ s.on SQ_UPC.WAITING ↑site = true) := by
  refine ⟨?_, ?_, ?_, ?_, ?_, ?_, ?_, ?_, ?_, ?_, ?_, ?_, ?_⟩ <;> decide +kernel

/-- Data that meet the hypotheses of `StallsEndAndScrubsRecord`, clause by clause. -/
theorem witness_StallsEndAndScrubsRecord :
    (let site : Fin 64 := 63;
     let s : State := (at63 3 { seq0 with stall := some (piWord 1 {operand := 3}), queue := fullQueue });
     let q : Machine.Seq := s.seq ↑site; q.stall = none ∨ s.busySite ↑site = false ∨ s.site ↑site = stRunning ∧
     q.full = true) ∧
    (let site : Fin 64 := 63; let pi : PI := ({operand := 3}); let f : Nat := 0;
     let s : State := (at63 3 { seq0 with stall := some (piWord 1 {operand := 3}) });
     let q : Machine.Seq := s.seq ↑site; q.stall = some (piWord 1 pi) ∧ q.closing = false ∧ q.inRoutine = false ∧
     q.body = none ∧ q.ended = false ∧ s.speculative ↑site = false ∧ q.facetOf (piWord 1 pi) = some f ∧
     bit q.facetsAtRun f = true ∧ 0 < pi.operand.toNat ∧
     q.pat.covered q.section_ (q.ureg 14) pi.operand.toNat = pi.operand.toNat ∧
     (s.site ↑site = stHalting ∨ s.site ↑site = stRunning ∧ q.full = false)) ∧
    (let site : Fin 64 := 63; let pi : PI := ({operand := 3}); let f : Nat := 0;
     let s : State := (at63 4 { seq0 with stall := some (piWord 1 {operand := 3}) });
     let q : Machine.Seq := s.seq ↑site; q.stall = some (piWord 1 pi) ∧ q.closing = false ∧ q.inRoutine = false ∧
     q.body = none ∧ q.ended = false ∧ s.speculative ↑site = false ∧ q.facetOf (piWord 1 pi) = some f ∧
     bit q.facetsAtRun f = true ∧ 0 < pi.operand.toNat ∧
     q.pat.covered q.section_ (q.ureg 14) pi.operand.toNat = pi.operand.toNat ∧
     (s.site ↑site = stHalting ∨ s.site ↑site = stRunning ∧ q.full = false)) ∧
    (let kind : CsKind := (.word); let addr : BitVec 12 := 0xC40; let slices : BitVec 8 := 2;
     let place : CsPlace := CsPlace.of kind addr; let none_ : Prop := (slices = 0 ∨ 3136 ≤ placeKey place ∧
     placeKey place < 4096); none_) ∧
    (let kind : CsKind := (.word); let addr : BitVec 12 := 0x7FF; let slices : BitVec 8 := 255;
     let place : CsPlace := CsPlace.of kind addr; let none_ : Prop := (slices = 0 ∨ 3136 ≤ placeKey place ∧
     placeKey place < 4096); ¬none_) ∧
    (let kind : CsKind := (.word); let addr : BitVec 12 := 0xBFF; let slices : BitVec 8 := 128;
     let place : CsPlace := CsPlace.of kind addr; let none_ : Prop := (slices = 0 ∨ 3136 ≤ placeKey place ∧
     placeKey place < 4096); ¬none_) ∧
    (let kind : CsKind := (.matchReg); let addr : BitVec 12 := 63; let slices : BitVec 8 := 1;
     let place : CsPlace := CsPlace.of kind addr; let none_ : Prop := (slices = 0 ∨ 3136 ≤ placeKey place ∧
     placeKey place < 4096); ¬none_) ∧
    (let kind : CsKind := (.entry); let addr : BitVec 12 := 255; let slices : BitVec 8 := 0;
     let place : CsPlace := CsPlace.of kind addr; let none_ : Prop := (slices = 0 ∨ 3136 ≤ placeKey place ∧
     placeKey place < 4096); none_) ∧
    (let kind : CsKind := (.entry); let addr : BitVec 12 := 255; let slices : BitVec 8 := 2;
     let place : CsPlace := CsPlace.of kind addr; let none_ : Prop := (slices = 0 ∨ 3136 ≤ placeKey place ∧
     placeKey place < 4096); ¬none_) ∧
    (let kind : CsKind := (.word); let addr : BitVec 12 := 0xC3F; let slices : BitVec 8 := 2;
     let place : CsPlace := CsPlace.of kind addr; let none_ : Prop := (slices = 0 ∨ 3136 ≤ placeKey place ∧
     placeKey place < 4096); ¬none_) := by
  refine ⟨?_, ?_, ?_, ?_, ?_, ?_, ?_, ?_, ?_, ?_⟩ <;> decide +kernel

/-- Data that meet the hypotheses of `SyncsAndDeliveriesAct`, clause by clause. -/
theorem witness_SyncsAndDeliveriesAct :
    (let bar : Fin 16 := 15; let s : State := barWait; let T : Nat := 132; s.barrierTime ↑bar = some T) ∧
    (let site : Fin 64 := 63; let s : State := barAlone; let r : Bool := false; let b : Nat := 15; let n : Nat := 9;
     let rest : List Item := ([]); let T : Nat := (s.seq ↑site).barTime + 4 * n;
     (s.seq ↑site).queue = Item.sync r b n none :: rest ∧ (s.seq ↑site).arrived = true ∧ s.site ↑site = stRunning ∧
     (∀ (e : Nat), e ∈ s.syncRelease (↑site) r b → T < e ∧ e / 4 ≠ T / 4)) ∧
    (let site : Fin 64 := 63; let s : State := syncWaits; let r : Bool := true; let b : Nat := 15; let n : Nat := 9;
     let rest : List Item := ([]); let T : Nat := (s.seq ↑site).barTime + 4 * n;
     (s.seq ↑site).queue = Item.sync r b n none :: rest ∧ (s.seq ↑site).arrived = true ∧ s.site ↑site = stRunning ∧
     (∀ (e : Nat), e ∈ s.syncRelease (↑site) r b → T < e ∧ e / 4 ≠ T / 4)) ∧
    (let site : Fin 64 := 63; let s : State := (barWait 20); let r : Bool := false; let b : Nat := 15;
     let n : Nat := 20; let rest : List Item := ([]); let T : Nat := (s.seq ↑site).barTime + 4 * n;
     let e : Nat := 132; (s.seq ↑site).queue = Item.sync r b n none :: rest ∧ (s.seq ↑site).arrived = true ∧
     s.site ↑site = stRunning ∧ s.syncRelease (↑site) r b = some e ∧ (e ≤ T ∨ e / 4 = T / 4)) ∧
    (let site : Fin 64 := 63; let s : State := (at63 3 {}); s.busySite ↑site = true ∧ (s.seq ↑site).started = false ∧
     (s.seq ↑site).waitBarrier = false ∧ (s.seq ↑site).vecEnd = false) ∧
    (let site : Fin 64 := 63; let s : State := (at63 3 { queue := [.bundle .held 2 {} false none] });
     let before : List Item := ([]); let queue : List Item := ([.bundle .held 2 {} false (some 0)]);
     let it : Item := (.bundle .held 2 {} false (some 0));
     deliverFirst s.tt (s.seq ↑site).queue = some (before, it, queue)) ∧
    (let unit : Fin 532 := 511; let i : Nat := 63; let s : State := ringFull; let c : Chan := s.chan ↑unit;
     let held : Nat := (s.rd SQ_SRWR.WR i + 2 ^ 32 - c.ringRead) % 2 ^ 32;
     let base : Nat := s.rd SQ_SRBASE.BASE i * 256 + c.ringRead % max 1 (s.rd SQ_SRSIZE.FRAMES i) * s.rd SQ_SRFLEN.FLEN i;
     let count : Nat := field (s.vmem.readN base 32) 4 2; s.siteOf (s.playsFor ↑unit) = some i ∧
     (s.engines i).contains ↑unit = true ∧ s.on SQ_SRSTAT.OPEN i = true ∧ 0 < held ∧ held ≤ 65536 ∧ count ≤ c.room) := by
  refine ⟨?_, ?_, ?_, ?_, ?_, ?_, ?_⟩ <;> decide +kernel

/-- Data that meet the hypotheses of `VectorCyclesAdvance`, clause by clause. -/
theorem witness_VectorCyclesAdvance :
    (let site : Fin 64 := 63; let s : State := (playing [.bundle .held 2 {} false (some 0)]);
     let q : Machine.Seq := s.seq ↑site; let n : Nat := 2; let v : Vec := ({}); let inh : Bool := false;
     let a : Nat := 0; let rest : List Item := ([]); s.site ↑site = stRunning ∧ q.started = true ∧ q.vecEnd = false ∧
     q.brc = none ∧ s.rd SQ_STATE.CHIPS ↑site ≤ 1 ∧ q.queue = Item.bundle Source.held n v inh (some a) :: rest ∧
     2 ≤ n ∧ a < q.reportTick) ∧
    (let site : Fin 64 := 63; let s : State := (playing []); let q : Machine.Seq := s.seq ↑site;
     s.site ↑site = stRunning ∧ q.started = true ∧ q.vecEnd = false ∧ q.brc = none ∧ s.rd SQ_STATE.CHIPS ↑site ≤ 1 ∧
     q.queue = []) := by
  refine ⟨?_, ?_⟩ <;> decide +kernel

end Sys2Proof.Tests
end

section
/-!
SUPPORT. The host window's index and context registers, said once: which of their fields a write leaves alone, what a
write of an index does where R50 lets it and where not, and what each part of a write of HW_CTX_CTRL does (R41, R42).
-/
namespace Sys2Proof.Machine

/-! ## Register writes -/

/-- Registers are read from the register file alone. -/
theorem State.rd_of_regs {s t : State} (h : t.regs = s.regs) (f : Field) (i k : Nat) : t.rd f i k = s.rd f i k := by
  simp [State.rd, h]

theorem State.sameMemory_wr (s : State) (f : Field) (v i k : Nat) : (s.wr f v i k).sameMemory s :=
  State.sameMemory_of_eq rfl rfl rfl

theorem State.sameUnits_wr (s : State) (f : Field) (v i k : Nat) : (s.wr f v i k).sameUnits s := ⟨rfl, rfl, rfl, rfl, rfl⟩

/-- Two fields of one window that repeat at the same distance differ in every copy if their places do. -/
theorem Field.key_ne_of_place {f g : Field} (hw : g.win = f.win) (hs : g.sub = f.sub)
    (hp : g.off * 8 + g.lo ≠ f.off * 8 + f.lo) (i k : Nat) : g.key i k ≠ f.key i k := by
  simp only [Field.key, hw, hs]
  omega

/-- A write leaves the same copy of the window's other fields alone. -/
theorem State.rd_wr_of_place (s : State) {f g : Field} (v i k : Nat) (hw : g.win = f.win) (hs : g.sub = f.sub)
    (hp : g.off * 8 + g.lo ≠ f.off * 8 + f.lo) : (s.wr f v i k).rd g i k = s.rd g i k :=
  State.rd_wr_ne s f g v i k i k (Field.key_ne_of_place hw hs hp i k)

/-- A 16-bit index reads as written. -/
theorem State.rd_wr_index (s : State) {f : Field} (hf : f.w = 16) (v : BitVec 16) (i k : Nat) :
    (s.wr f v.toNat i k).rd f i k = v.toNat := by
  rw [State.rd_wr_self, hf, Nat.mod_eq_of_lt v.isLt]

/-! ## Index writes (R50) -/

theorem exec_hwCmdDb (c : Fin 8) (v : BitVec 16) (s : State) :
    exec (.hwCmdDb c v) s = .next (s.doorbell 0x20 c v.toNat) := rfl

theorem exec_hwRspCons (c : Fin 8) (v : BitVec 16) (s : State) :
    exec (.hwRspCons c v) s = .next (s.rspTaken 0x20 c v.toNat) := rfl

theorem exec_hwEvtCons (v : BitVec 16) (s : State) : exec (.hwEvtCons v) s = .next (s.evtTaken 0x20 v.toNat) := rfl

/-- An ignored index write of a context sets DBERR and logs the fault. -/
theorem State.indexIgnored_some (s : State) (m addr c : Nat) :
    s.indexIgnored m addr (some c) = (s.wr HW_CTX_STAT.DBERR 1 0 c).takeFaults [infoMsg 709 0x04 2 m addr] := rfl

/-- An ignored index write of the event ring logs the fault alone. -/
theorem State.indexIgnored_none (s : State) (m addr : Nat) :
    s.indexIgnored m addr none = s.takeFaults [infoMsg 709 0x04 2 m addr] := rfl

/-- R50's condition on a new command producer index: the new occupancy is at most 64 and not below the current one. -/
abbrev State.doorbellOk (s : State) (c v : Nat) : Prop :=
  ahead v (s.rd HW_CMD_CONS.CONS 0 c) ≤ 64
    ∧ ahead (s.rd HW_CMD_DB.PROD 0 c) (s.rd HW_CMD_CONS.CONS 0 c) ≤ ahead v (s.rd HW_CMD_CONS.CONS 0 c)

theorem State.doorbell_of_ok {s : State} {c v : Nat} (m : Nat) (h : s.doorbellOk c v) :
    s.doorbell m c v = { s.wr HW_CMD_DB.PROD v 0 c with
      mbx := { s.mbx with doorbells := s.mbx.doorbells ++ [(c, v, s.tt)] } } := if_pos h

theorem State.doorbell_of_not_ok {s : State} {c v : Nat} (m : Nat) (h : ¬ s.doorbellOk c v) :
    s.doorbell m c v = s.indexIgnored m (0x100 + 0x20 * c) (some c) := if_neg h

/-- R50's condition on a new consumer index of a response ring: between the current one and the producer index. -/
abbrev State.rspConsOk (s : State) (c v : Nat) : Prop :=
  ahead v (s.rd HW_RSP_CONS.CONS 0 c) ≤ ahead (s.rd HW_RSP_PROD.PROD 0 c) (s.rd HW_RSP_CONS.CONS 0 c)

theorem State.rspTaken_of_ok {s : State} {c v : Nat} (m : Nat) (h : s.rspConsOk c v) :
    s.rspTaken m c v = s.wr HW_RSP_CONS.CONS v 0 c := if_pos h

theorem State.rspTaken_of_not_ok {s : State} {c v : Nat} (m : Nat) (h : ¬ s.rspConsOk c v) :
    s.rspTaken m c v = s.indexIgnored m (0x10C + 0x20 * c) (some c) := if_neg h

/-- R50's condition on a new consumer index of the event ring: between the current one and the producer index. -/
abbrev State.evtConsOk (s : State) (v : Nat) : Prop :=
  ahead v (s.rd HW_EVT_CONS.CONS) ≤ ahead (s.rd HW_EVT_PROD.PROD) (s.rd HW_EVT_CONS.CONS)

theorem State.evtTaken_of_not_ok {s : State} {v : Nat} (m : Nat) (h : ¬ s.evtConsOk v) :
    s.evtTaken m v = s.indexIgnored m 0x14 none := if_neg h

/-- Without an overwrite since the last one, a write of HW_EVT_CONS sets the index and does no more. -/
theorem State.evtTaken_of_kept {s : State} {v : Nat} (m : Nat) (h : s.evtConsOk v) (ho : s.mbx.evtOver = false) :
    s.evtTaken m v = s.wr HW_EVT_CONS.CONS v := (if_pos h).trans (if_neg (Bool.eq_false_iff.1 ho))

/-- The state in which the QUEUE_LOST record of R49 is written: the new index in place, the overwrites taken note of. -/
def State.evtConsumed (s : State) (v : Nat) : State :=
  { s.wr HW_EVT_CONS.CONS v with mbx := { s.mbx with evtOver := false } }

/-- After an overwrite, the QUEUE_LOST record follows the index (R49). -/
theorem State.evtTaken_of_lost {s : State} {v : Nat} (m : Nat) (h : s.evtConsOk v) (ho : s.mbx.evtOver = true) :
    s.evtTaken m v = (s.evtConsumed v).event 13 0xFFFF s.tt (toLe 4 ((s.evtConsumed v).rd HW_EVT_LOST.LOST)) :=
  (if_pos h).trans (if_pos ho)

theorem State.evtConsumed_sameMemory (s : State) (v : Nat) : (s.evtConsumed v).sameMemory s :=
  State.sameMemory_of_eq rfl rfl rfl

theorem State.evtConsumed_sameUnits (s : State) (v : Nat) : (s.evtConsumed v).sameUnits s := ⟨rfl, rfl, rfl, rfl, rfl⟩

theorem State.evtConsumed_rd (s : State) (v : Nat) (f : Field) (i k : Nat) :
    (s.evtConsumed v).rd f i k = (s.wr HW_EVT_CONS.CONS v).rd f i k := State.rd_of_regs rfl f i k

/-- An event that finds room in the event ring leaves the consumer index alone (R239). -/
theorem State.event_rd_cons_of_room {s : State} (h : ahead (s.rd HW_EVT_PROD.PROD) (s.rd HW_EVT_CONS.CONS) < 1024)
    (code source time : Nat) (data : Bytes) :
    (s.event code source time data).rd HW_EVT_CONS.CONS = s.rd HW_EVT_CONS.CONS := by
  unfold State.event
  split
  · rfl
  · unfold State.putEvent
    extract_lets prod full rec_ a m b c
    have ha : a = s := if_neg (Nat.not_le.2 h)
    clear_value a
    subst ha
    obtain ⟨l, hl⟩ := State.notify_eq c 1 0xFF ((prod + 1) % 65536)
    calc (c.notify 1 0xFF ((prod + 1) % 65536)).rd HW_EVT_CONS.CONS
        = c.rd HW_EVT_CONS.CONS := State.rd_of_regs (by rw [hl]) _ 0 0
      _ = b.rd HW_EVT_CONS.CONS := State.rd_wr_of_place b _ 0 0 rfl rfl (by decide)
      _ = a.rd HW_EVT_CONS.CONS := State.rd_of_regs rfl _ 0 0

/-- A doorbell of the host: the index and its arrival, or DBERR and the fault. -/
theorem hwCmdDb_follows_R50 (c : Fin 8) (v : BitVec 16) (s : State) :
    if s.doorbellOk c v.toNat then
      ∃ t, exec (.hwCmdDb c v) s = .next t ∧ t.rd HW_CMD_DB.PROD 0 c = v.toNat ∧ t.sameRegs s [HW_CMD_DB.PROD.key 0 c]
        ∧ t.mbx.doorbells = s.mbx.doorbells ++ [(c.val, v.toNat, s.tt)] ∧ t.sameMemory s ∧ t.sameUnits s
    else exec (.hwCmdDb c v) s
      = .next ((s.wr HW_CTX_STAT.DBERR 1 0 c).takeFaults [infoMsg 709 0x04 2 0x20 (0x100 + 0x20 * c)]) := by
  rw [exec_hwCmdDb]
  split
  case isTrue h =>
    rw [State.doorbell_of_ok 0x20 h]
    refine ⟨_, rfl, ?_, ?_, rfl, State.sameMemory_of_eq rfl rfl rfl, rfl, rfl, rfl, rfl, rfl⟩
    · exact State.rd_wr_index s rfl v 0 c
    · exact State.sameRegs_wr s _ _ _ _ _ (List.mem_singleton_self _)
  case isFalse h => rw [State.doorbell_of_not_ok 0x20 h, State.indexIgnored_some]

/-- A consumer index of a response ring: the index alone, or DBERR and the fault. -/
theorem hwRspCons_follows_R50 (c : Fin 8) (v : BitVec 16) (s : State) :
    if s.rspConsOk c v.toNat then
      ∃ t, exec (.hwRspCons c v) s = .next t ∧ t.rd HW_RSP_CONS.CONS 0 c = v.toNat
        ∧ t.sameRegs s [HW_RSP_CONS.CONS.key 0 c] ∧ t.sameMemory s ∧ t.sameUnits s
    else exec (.hwRspCons c v) s
      = .next ((s.wr HW_CTX_STAT.DBERR 1 0 c).takeFaults [infoMsg 709 0x04 2 0x20 (0x10C + 0x20 * c)]) := by
  rw [exec_hwRspCons]
  split
  case isTrue h =>
    rw [State.rspTaken_of_ok 0x20 h]
    exact ⟨_, rfl, State.rd_wr_index s rfl v 0 c, State.sameRegs_wr s _ _ _ _ _ (List.mem_singleton_self _),
      State.sameMemory_wr s _ _ _ _, State.sameUnits_wr s _ _ _ _⟩
  case isFalse h => rw [State.rspTaken_of_not_ok 0x20 h, State.indexIgnored_some]

/-- A consumer index of the event ring: the index, with the QUEUE_LOST record after overwrites, or the fault. -/
theorem hwEvtCons_follows_R50 (v : BitVec 16) (s : State) :
    if s.evtConsOk v.toNat then
      ∃ t, exec (.hwEvtCons v) s = .next t ∧ t.sameMemory s ∧ t.sameUnits s
        ∧ (s.mbx.evtOver = false ∨ ahead (s.rd HW_EVT_PROD.PROD) v.toNat < 1024 → t.rd HW_EVT_CONS.CONS = v.toNat)
    else exec (.hwEvtCons v) s = .next (s.takeFaults [infoMsg 709 0x04 2 0x20 0x14]) := by
  rw [exec_hwEvtCons]
  split
  case isFalse h => rw [State.evtTaken_of_not_ok 0x20 h, State.indexIgnored_none]
  case isTrue h =>
    have hcons : (s.wr HW_EVT_CONS.CONS v.toNat).rd HW_EVT_CONS.CONS = v.toNat := State.rd_wr_index s rfl v 0 0
    cases ho : s.mbx.evtOver with
    | false =>
      rw [State.evtTaken_of_kept 0x20 h ho]
      exact ⟨_, rfl, State.sameMemory_wr s _ _ _ _, State.sameUnits_wr s _ _ _ _, fun _ => hcons⟩
    | true =>
      rw [State.evtTaken_of_lost 0x20 h ho]
      obtain ⟨hmem, hunits, -⟩ := State.event_frame (s.evtConsumed v.toNat) 13 0xFFFF s.tt
        (toLe 4 ((s.evtConsumed v.toNat).rd HW_EVT_LOST.LOST))
      refine ⟨_, rfl, State.sameMemory_trans hmem (State.evtConsumed_sameMemory s _),
        State.sameUnits_trans hunits (State.evtConsumed_sameUnits s _), fun hroom => ?_⟩
      have hprod : (s.evtConsumed v.toNat).rd HW_EVT_PROD.PROD = s.rd HW_EVT_PROD.PROD := by
        rw [State.evtConsumed_rd]
        exact State.rd_wr_of_place s _ 0 0 rfl rfl (by decide)
      rw [← State.evtConsumed_rd] at hcons
      rw [State.event_rd_cons_of_room, hcons]
      rw [hprod, hcons]
      exact hroom.resolve_left Bool.noConfusion

/-! ## Writes of HW_CTX_CTRL (R41, R42) -/

theorem exec_contextReset (c : Fin 8) (en : Bool) (s : State) :
    exec (.contextReset c en) s = .next ((s.contextEnable c en).contextReset c) := rfl

/-- The EN part writes EN, and the stop that is set for the context (R42). -/
theorem State.contextEnable_eq (s : State) (c : Nat) (en : Bool) :
    ∃ stops, s.contextEnable c en =
      { s.wr HW_CTX_CTRL.EN (b2n en) 0 c with mbx := { s.mbx with stopAt := stops } } := by
  unfold State.contextEnable
  extract_lets
  split
  · exact ⟨_, rfl⟩
  · split
    · exact ⟨_, rfl⟩
    · exact ⟨s.mbx.stopAt, rfl⟩

theorem State.contextEnable_jobs (s : State) (c : Nat) (en : Bool) : (s.contextEnable c en).mbx.jobs = s.mbx.jobs := by
  obtain ⟨stops, h⟩ := s.contextEnable_eq c en
  rw [h]

theorem State.contextEnable_imm (s : State) (c : Nat) (en : Bool) : (s.contextEnable c en).mbx.imm = s.mbx.imm := by
  obtain ⟨stops, h⟩ := s.contextEnable_eq c en
  rw [h]

theorem State.contextEnable_rd (s : State) (c : Nat) (en : Bool) (f : Field) (i k : Nat) :
    (s.contextEnable c en).rd f i k = (s.wr HW_CTX_CTRL.EN (b2n en) 0 c).rd f i k := by
  obtain ⟨stops, h⟩ := s.contextEnable_eq c en
  rw [h]
  exact State.rd_of_regs rfl f i k

theorem State.contextEnable_rd_en (s : State) (c : Nat) (en : Bool) :
    (s.contextEnable c en).rd HW_CTX_CTRL.EN 0 c = b2n en := by
  rw [State.contextEnable_rd, State.rd_wr_self]
  exact Nat.mod_eq_of_lt (b2n_lt en)

/-- Any other register of the context. -/
theorem State.contextEnable_rd_other (s : State) (c : Nat) (en : Bool) {f : Field} (hw : f.win = HW_CTX_CTRL.EN.win)
    (hs : f.sub = HW_CTX_CTRL.EN.sub) (hp : f.off * 8 + f.lo ≠ HW_CTX_CTRL.EN.off * 8 + HW_CTX_CTRL.EN.lo) :
    (s.contextEnable c en).rd f 0 c = s.rd f 0 c := by
  rw [State.contextEnable_rd, State.rd_wr_of_place s _ 0 c hw hs hp]

/-- The three conditions of R41. -/
def State.mayReset (s : State) (c : Fin 8) : Prop :=
  s.rd HW_CTX_CTRL.EN 0 c ≠ 1 ∧ s.ctxJobs c = 0 ∧ s.mbx.imm.all (fun i => i.d.ctx != c) = true

/-- They are read after the EN part of the write. -/
theorem State.mayReset_contextEnable (s : State) (c : Fin 8) (en : Bool) :
    (s.contextEnable c en).mayReset c
      ↔ en = false ∧ s.ctxJobs c = 0 ∧ s.mbx.imm.all (fun i => i.d.ctx != c) = true := by
  have hen : b2n en ≠ 1 ↔ en = false := by cases en <;> decide
  rw [State.mayReset, State.contextEnable_rd_en, State.ctxJobs, State.contextEnable_jobs, State.contextEnable_imm, hen]
  rfl

/-- The model's test of a reset is the conditions' negation. -/
theorem State.not_mayReset_iff (s : State) (c : Fin 8) :
    ¬ s.mayReset c ↔ s.on HW_CTX_CTRL.EN 0 c ∨ 0 < s.ctxJobs c ∨ s.mbx.imm.any (fun i => i.d.ctx.val == c) := by
  have himm : s.mbx.imm.all (fun i => i.d.ctx != c) = !s.mbx.imm.any (fun i => i.d.ctx.val == c) := by
    rw [List.not_any_eq_all_not]
    exact congrArg _ (funext fun i => by rw [bne, Bool.not_inj_iff, Bool.eq_iff_iff, beq_iff_eq, beq_iff_eq, Fin.ext_iff])
  rw [State.mayReset, himm, State.on_eq, Nat.pos_iff_ne_zero, beq_iff_eq, Bool.not_eq_true',
    Classical.not_and_iff_not_or_not, Classical.not_and_iff_not_or_not, ne_eq, Classical.not_not, Bool.not_eq_false]

theorem State.contextReset_of_not_mayReset {s : State} {c : Fin 8} (h : ¬ s.mayReset c) :
    s.contextReset c = s.wr HW_CTX_STAT.DBERR 1 0 c := if_pos ((s.not_mayReset_iff c).1 h)

/-- A reset that takes effect zeroes the four indices and STALL, and writes no other register. -/
theorem State.contextReset_regs_of_mayReset {s : State} {c : Fin 8} (h : s.mayReset c) :
    (s.contextReset c).regs = (((((s.wr HW_CMD_DB.PROD 0 0 c).wr HW_CMD_CONS.CONS 0 0 c).wr HW_RSP_PROD.PROD 0 0 c).wr
      HW_RSP_CONS.CONS 0 0 c).wr HW_CTX_STAT.STALL 0 0 c).regs := by
  have hreset : s.contextReset c = _ := if_neg fun hn => (s.not_mayReset_iff c).2 hn h
  rw [hreset]

/-- What a reset that takes effect leaves in the context's registers. -/
theorem State.contextReset_rd_of_mayReset {s : State} {c : Fin 8} (h : s.mayReset c) :
    let t := s.contextReset c
    t.rd HW_CTX_CTRL.EN 0 c = s.rd HW_CTX_CTRL.EN 0 c ∧ t.rd HW_CMD_DB.PROD 0 c = 0 ∧ t.rd HW_CMD_CONS.CONS 0 c = 0
      ∧ t.rd HW_RSP_PROD.PROD 0 c = 0 ∧ t.rd HW_RSP_CONS.CONS 0 c = 0
      ∧ t.rd HW_CTX_STAT.DBERR 0 c = s.rd HW_CTX_STAT.DBERR 0 c := by
  intro t
  simp (disch := decide) only [t, State.rd_of_regs (State.contextReset_regs_of_mayReset h), State.rd_wr_self,
    State.rd_wr_of_place, Nat.zero_mod, and_self]

/-- What a reset that is ignored leaves in the context's registers. -/
theorem State.contextReset_rd_of_not_mayReset {s : State} {c : Fin 8} (h : ¬ s.mayReset c) :
    let t := s.contextReset c
    t.rd HW_CTX_CTRL.EN 0 c = s.rd HW_CTX_CTRL.EN 0 c ∧ t.rd HW_CMD_DB.PROD 0 c = s.rd HW_CMD_DB.PROD 0 c
      ∧ t.rd HW_CMD_CONS.CONS 0 c = s.rd HW_CMD_CONS.CONS 0 c ∧ t.rd HW_RSP_PROD.PROD 0 c = s.rd HW_RSP_PROD.PROD 0 c
      ∧ t.rd HW_RSP_CONS.CONS 0 c = s.rd HW_RSP_CONS.CONS 0 c ∧ t.rd HW_CTX_STAT.DBERR 0 c = 1 := by
  rw [State.contextReset_of_not_mayReset h]
  refine ⟨?_, ?_, ?_, ?_, ?_, State.rd_wr_self s HW_CTX_STAT.DBERR 1 0 c⟩
  all_goals exact s.rd_wr_of_place 1 0 c rfl rfl (by decide)

end Sys2Proof.Machine
end

section
/-!
PROOFS. The statements about the mailbox's indices and contexts (R41, R50).
-/
namespace Sys2Proof.Machine

/-- Settles O8, register by register. -/
theorem indexWritesFollowR50 : Obligations.IndexWritesFollowR50 := fun c v s =>
  ⟨hwCmdDb_follows_R50 c v s, hwRspCons_follows_R50 c v s, hwEvtCons_follows_R50 v s⟩

/-- Settles O10: the EN part leaves the indices and DBERR alone, and the three conditions are read after it. -/
theorem contextResetFollowsR41 : Obligations.ContextResetFollowsR41 := by
  intro c en s
  refine ⟨_, exec_contextReset c en s, ?_⟩
  split
  case isTrue h =>
    obtain ⟨hen, hdb, hcc, hrp, hrc, herr⟩ := State.contextReset_rd_of_mayReset ((s.mayReset_contextEnable c en).2 h)
    rw [hen, herr]
    exact ⟨s.contextEnable_rd_en c en, hdb, hcc, hrp, hrc, s.contextEnable_rd_other c en rfl rfl (by decide)⟩
  case isFalse h =>
    obtain ⟨hen, hdb, hcc, hrp, hrc, herr⟩ :=
      State.contextReset_rd_of_not_mayReset (fun hm => h ((s.mayReset_contextEnable c en).1 hm))
    rw [hen, hdb, hcc, hrp, hrc]
    refine ⟨s.contextEnable_rd_en c en, ?_, ?_, ?_, ?_, herr⟩
    all_goals exact s.contextEnable_rd_other c en rfl rfl (by decide)

end Sys2Proof.Machine
end

section
/-!
SUPPORT. Bits of a word with one bit replaced, and what a write of CK_GATE that closes islands does: which
closes it refuses, what the served ones leave in the clock registers, and what follows a refusal (R406).
-/
namespace Sys2Proof.Machine

/-! ## Single bits -/

theorem bit_eq_testBit (x i : Nat) : bit x i = x.testBit i := (Nat.testBit_eq_decide_div_mod_eq).symm

theorem bit_mod_two_pow (x : Nat) {w i : Nat} (h : i < w) : bit (x % 2 ^ w) i = bit x i := by
  rw [bit_eq_testBit, bit_eq_testBit, Nat.testBit_mod_two_pow, decide_eq_true h, Bool.true_and]

theorem mem_bitList {n x i : Nat} : i ∈ bitList n x ↔ i < n ∧ bit x i = true := by
  rw [bitList, List.mem_filter, List.mem_range]

/-- The bit replaced, seen from the bits below it and the bits above it. -/
theorem setBits_one_eq (x i v : Nat) : setBits x i 1 v = 2 ^ i * (2 * (x / 2 ^ i / 2) + v % 2) + x % 2 ^ i := by
  have hx : x = 2 ^ i * (2 * (x / 2 ^ i / 2)) + x / 2 ^ i % 2 * 2 ^ i + x % 2 ^ i := by
    rw [Nat.mul_comm (x / 2 ^ i % 2), ← Nat.mul_add, Nat.div_add_mod, Nat.div_add_mod]
  rw [setBits, bits, Nat.pow_one, Nat.mul_add, Nat.mul_comm (v % 2)]
  omega

/-- A bit replaced reads as written; the other bits read as before. -/
theorem bit_setBits_one (x i v j : Nat) : bit (setBits x i 1 v) j = if j = i then v % 2 == 1 else bit x j := by
  split
  case isTrue h =>
    subst h
    exact congrArg (· == 1) (bits_setBits_self x j 1 v)
  case isFalse h =>
    have hlow : x % 2 ^ i < 2 ^ i := Nat.mod_lt x (Nat.two_pow_pos i)
    rw [bit_eq_testBit, bit_eq_testBit, setBits_one_eq, Nat.testBit_two_pow_mul_add _ hlow]
    split
    case isTrue hj => rw [Nat.testBit_mod_two_pow, decide_eq_true hj, Bool.true_and]
    case isFalse hj =>
      obtain ⟨k, rfl⟩ : ∃ k, j = i + (k + 1) := ⟨j - i - 1, by omega⟩
      have hdiv : (2 * (x / 2 ^ i / 2) + v % 2) / 2 = x / 2 ^ i / 2 := by omega
      rw [Nat.add_sub_cancel_left, Nat.testBit_succ, hdiv, ← Nat.testBit_succ, Nat.testBit_div_two_pow, Nat.add_comm]

/-- Setting the listed bits one after another sets exactly these. -/
theorem bit_foldl_setBits_one (is : List Nat) (x j : Nat) :
    bit (is.foldl (fun v i => setBits v i 1 1) x) j = (bit x j || decide (j ∈ is)) := by
  induction is generalizing x with
  | nil => simp
  | cons i is ih =>
    rw [List.foldl_cons, ih, bit_setBits_one]
    by_cases h : j = i <;> simp [h]

/-! ## Writes that close gates (R406) -/

/-- The closes that a written mask asks for: the islands of its bits that are not closed yet. -/
def State.closesAsked (s : State) (mask : Nat) : List Nat :=
  (bitList 19 mask).filter (fun i => !bit (s.rd CK_GATE.CLOSE) i)

/-- Of these, the closes that Table 16-6 refuses. -/
def State.closesRefused (s : State) (mask : Nat) : List Nat := (s.closesAsked mask).filter s.closeRefused

/-- Of these, the closes that are served. -/
def State.closesServed (s : State) (mask : Nat) : List Nat := (s.closesAsked mask).filter (fun i => !s.closeRefused i)

/-- The state with the served closes in place: their bits of CK_GATE set, the closes waiting for idle handshakes. -/
def State.withServedCloses (s : State) (mask : Nat) : State :=
  (s.wr CK_GATE.CLOSE ((s.closesServed mask).foldl (fun v i => setBits v i 1 1) (s.rd CK_GATE.CLOSE))).setClosing
    ((s.closesServed mask).foldl (fun v i => setBits v i 1 1) s.clk.closing)

theorem State.mem_closesAsked {s : State} {mask i : Nat} :
    i ∈ s.closesAsked mask ↔ (i < 19 ∧ bit mask i = true) ∧ bit (s.rd CK_GATE.CLOSE) i = false := by
  rw [State.closesAsked, List.mem_filter, mem_bitList, Bool.not_eq_true']

theorem State.mem_closesRefused {s : State} {mask i : Nat} :
    i ∈ s.closesRefused mask
      ↔ i < 19 ∧ bit mask i = true ∧ bit (s.rd CK_GATE.CLOSE) i = false ∧ s.closeRefused i = true := by
  rw [State.closesRefused, List.mem_filter, State.mem_closesAsked, and_assoc, and_assoc]

theorem State.mem_closesServed {s : State} {mask i : Nat} :
    i ∈ s.closesServed mask
      ↔ i < 19 ∧ bit mask i = true ∧ bit (s.rd CK_GATE.CLOSE) i = false ∧ s.closeRefused i = false := by
  rw [State.closesServed, List.mem_filter, State.mem_closesAsked, Bool.not_eq_true', and_assoc, and_assoc]

/-- Without a refused close, the write serves its closes and does no more. -/
theorem exec_gateClose_of_served {mask : BitVec 19} {s : State} (h : s.closesRefused mask.toNat = []) :
    exec (.gateClose mask) s = .next (s.withServedCloses mask.toNat) := congrArg Host.Outcome.next (if_pos h)

/-- With a refused close, REFUSED and an INFO fault of the clock unit follow the served ones. -/
theorem exec_gateClose_of_refused {mask : BitVec 19} {s : State} (h : s.closesRefused mask.toNat ≠ []) :
    exec (.gateClose mask) s
      = .next (((s.withServedCloses mask.toNat).wr CK_GATESTAT.REFUSED 1).takeFaults [clockFault 0x05 0]) :=
  congrArg Host.Outcome.next (if_neg h)

/-- The closes that wait show in PENDING alone of the clock registers. -/
theorem State.setClosing_rd_other (s : State) (m : Nat) {f : Field} (hw : f.win = CK_GATESTAT.PENDING.win)
    (hs : f.sub = CK_GATESTAT.PENDING.sub)
    (hp : f.off * 8 + f.lo ≠ CK_GATESTAT.PENDING.off * 8 + CK_GATESTAT.PENDING.lo) : (s.setClosing m).rd f = s.rd f :=
  (State.rd_wr_of_place _ _ 0 0 hw hs hp).trans (State.rd_of_regs rfl f 0 0)

theorem State.withServedCloses_rd_refused (s : State) (mask : Nat) :
    (s.withServedCloses mask).rd CK_GATESTAT.REFUSED = s.rd CK_GATESTAT.REFUSED := by
  simp (disch := decide) only [State.withServedCloses, State.setClosing_rd_other, State.rd_wr_of_place]

/-- Of CK_GATE's bits, those are set that were set before or whose close is asked for and not refused. -/
theorem State.bit_withServedCloses (s : State) (mask : Nat) {i : Nat} (hi : i < 19) :
    bit ((s.withServedCloses mask).rd CK_GATE.CLOSE) i
      = (bit (s.rd CK_GATE.CLOSE) i || (bit mask i && !s.closeRefused i)) := by
  rw [State.withServedCloses, State.setClosing_rd_other (f := CK_GATE.CLOSE) _ _ rfl rfl (by decide), State.rd_wr_self,
    show CK_GATE.CLOSE.w = 19 from rfl, bit_mod_two_pow _ hi, bit_foldl_setBits_one]
  cases h : bit (s.rd CK_GATE.CLOSE) i
  case true => rfl
  case false => simp [State.mem_closesServed, hi, h, Bool.decide_and]

end Sys2Proof.Machine
end

section
/-!
PROOFS. The statement about gate writes whose close is refused (R406).
-/
namespace Sys2Proof.Machine

/-- Settles O35, by whether the write meets a refused close: the served closes are in place either way, and REFUSED and
the fault follow them. -/
theorem gateCloseFollowsR406 : Obligations.GateCloseFollowsR406 := by
  intro mask s
  by_cases h : s.closesRefused mask.toNat = []
  · refine ⟨s.withServedCloses mask.toNat, fun i hi => s.bit_withServedCloses _ hi, ?_, fun _ =>
      ⟨s.withServedCloses_rd_refused _, exec_gateClose_of_served h⟩⟩
    rintro ⟨i, hi⟩
    exact absurd (State.mem_closesRefused.2 hi) (List.eq_nil_iff_forall_not_mem.1 h i)
  · refine ⟨(s.withServedCloses mask.toNat).wr CK_GATESTAT.REFUSED 1, fun i hi => ?_, fun _ =>
      ⟨State.rd_wr_self _ CK_GATESTAT.REFUSED 1 0 0, exec_gateClose_of_refused h⟩, fun hserved => ?_⟩
    · rw [State.rd_wr_of_place (f := CK_GATESTAT.REFUSED) (g := CK_GATE.CLOSE) _ _ 0 0 rfl rfl (by decide),
        s.bit_withServedCloses _ hi]
    · obtain ⟨i, hi⟩ := List.exists_mem_of_ne_nil _ h
      obtain ⟨hi19, hmask, hopen, hrefused⟩ := State.mem_closesRefused.1 hi
      exact absurd hrefused (Bool.eq_false_iff.1 (hserved i hi19 hmask hopen))

end Sys2Proof.Machine
end
